-- ==== Sys2Proof/Word.lean ====
section
/-! DEFINITION. Words, record numbers, and tables of a fixed number of like records. -/

namespace Sys2Proof

abbrev Byte := BitVec 8

/-- Feed number 0-95 (R1). -/
abbrev FeedNo := Fin 96

/-- Place of a handle in the Handle Table: handle number `n` (1-255) stands at place `n - 1` (R31). -/
abbrev HandleIx := Fin 255

/-- Generation 0-15 of a handle; its sum wraps (R31). -/
abbrev Generation := Fin 16

/-- Sector number 0-15 (R107). -/
abbrev SectorNo := Fin 16

/-- Sensor channel number 0-7 (R100). -/
abbrev ChannelNo := Fin 8

/-- Watch number 0-1 (R143). -/
abbrev WatchNo := Fin 2

/-- A set of sectors, bit n for sector n (R153). -/
abbrev SectorSet := BitVec 16

/-- A set of notice kinds, one bit a kind in the order of R163 (R153). -/
abbrev NoticeSet := BitVec 11

/-- `n` like records, numbered from 0. -/
structure Table (α : Type) (n : Nat) where
  cells : List α
  size : cells.length = n
  deriving DecidableEq, Repr

namespace Table

variable {α : Type} {n : Nat}

def get (t : Table α n) (i : Fin n) : α :=
  t.cells[i.val]'(by rw [t.size]; exact i.isLt)

def upd (t : Table α n) (i : Fin n) (x : α) : Table α n :=
  ⟨t.cells.set i.val x, by rw [List.length_set, t.size]⟩

/-- Every record the same. -/
def fill (n : Nat) (x : α) : Table α n :=
  ⟨List.replicate n x, List.length_replicate⟩

/-- Record `i` is `f i`. -/
def tab (f : Fin n → α) : Table α n :=
  ⟨List.ofFn f, List.length_ofFn⟩

end Table

end Sys2Proof
end

