-- ==== Sys2Proof/Syntax.lean ====
section
/-! DEFINITION. The commands of the block: one constructor of Instr for each row of spec/opcode_table.json, with its operands. -/

namespace Sys2Proof

/-! ### Names of field values, each in the order in which the manual lists them (R153) -/

/-- Tiers of feeds and profiles (R1, R67). -/
inductive Tier | safety | programme | ambient | test
  deriving DecidableEq, Repr

/-- What a feed does when the override engages (R6). -/
inductive OverrideAction | keep | silence | switch
  deriving DecidableEq, Repr

inductive Polarity | normal | inverted
  deriving DecidableEq, Repr

/-- Shapes of an EQ section (R26). -/
inductive Shape | peak | lowShelf | highShelf | lowCut | highCut | notch
  deriving DecidableEq, Repr

/-- Outcomes of a tier policy entry and of the cross-stand setting (R67, R73). -/
inductive PolicyOutcome | allow | notify | refuse
  deriving DecidableEq, Repr

/-- Inputs a sensor channel can select (R100). -/
inductive AnalogInput
  | ain (n : Fin 8) | refA | refB | ground
  deriving DecidableEq, Repr

inductive ProbeKind | bridge | linear
  deriving DecidableEq, Repr

inductive SectorMode | sensed | fixed
  deriving DecidableEq, Repr

/-- Classes of records that a reference names (R153). -/
inductive RecordClass | feed | profile | sector | sensor
  deriving DecidableEq, Repr

inductive WatchClass | feed | profile
  deriving DecidableEq, Repr

/-- Accesses a watch observes (R143, R144). -/
inductive Access | portLook | portChange | autoChange | take
  deriving DecidableEq, Repr

inductive SourceFilter | any | portOnly
  deriving DecidableEq, Repr

inductive WatchAction | notify | stop
  deriving DecidableEq, Repr

/-- Sense of FIND: MATCH or NOT (R159). -/
inductive Sense | matching | inverse
  deriving DecidableEq, Repr

/-- Reasons of a malformed frame, in the order in which they are tested (R152). -/
inductive FrameReason | short | long | check
  deriving DecidableEq, Repr

/-- What the STARTUP strap reads (R170). -/
inductive StartupPin | auto | wait
  deriving DecidableEq, Repr

/-! ### Items of request bodies (R153, R154): numbers as the bytes give them, not yet tested -/

/-- A record reference: numbered, or relative to the cursor (R153, R156). -/
inductive RecordRef
  | numbered (cls : RecordClass) (number generation : Nat)
  | current | next | previous | referred
  deriving DecidableEq, Repr

/-- A handle as sent: number and generation. -/
structure RawHandle where
  number : Nat
  generation : Nat
  deriving DecidableEq, Repr

/-- An EQ section (R26): frequency in Hz, gain in 0.1 dB, width in 0.01. -/
structure EqSection where
  shape : Shape
  enabled : Bool
  frequency : Nat
  gain : Int
  width : Nat
  deriving DecidableEq, Repr

/-- A profile content item (R153): the record of R25 as sent. -/
structure ProfileContent where
  label : BitVec 16
  tier : Tier
  base : Option RawHandle
  latencyTrim : Option Int
  gainTrim : Int
  polarity : Polarity
  sections : List EqSection
  deriving DecidableEq, Repr

structure LookItems where
  ref : RecordRef
  count : Nat
  step : Nat
  deriving DecidableEq, Repr

/-- SET: `field` is the position of the field in the list of the record's class (R153). -/
structure SetItems where
  ref : RecordRef
  field : Nat
  value : Int
  count : Nat
  step : Nat
  deriving DecidableEq, Repr

structure FindItems where
  cls : RecordClass
  pattern : BitVec 16
  mask : BitVec 16
  sense : Sense
  start : RecordRef
  deriving DecidableEq, Repr

structure EditSectionsItems where
  profile : RecordRef
  sections : List EqSection
  deriving DecidableEq, Repr

/-- BASE: `base` is NONE when it is numbered with class PROFILE and number 0 (R154). -/
structure BaseItems where
  profile : RecordRef
  base : RecordRef
  deriving DecidableEq, Repr

/-- BIND and BIND-OVERRIDE. -/
structure BindItems where
  feed : RecordRef
  profile : RecordRef
  deriving DecidableEq, Repr

/-- LEAD: `lead` is NONE when it is numbered with class FEED and number 255 (R154). -/
structure LeadItems where
  follower : RecordRef
  lead : RecordRef
  deriving DecidableEq, Repr

/-- A set of watched accesses, one mark each (R143). -/
structure AccessSet where
  portLook : Bool
  portChange : Bool
  autoChange : Bool
  take : Bool
  deriving DecidableEq, Repr

/-- The configuration of a watch (R143). -/
structure WatchConfig where
  enabled : Bool
  cls : WatchClass
  base : Nat
  span : Nat
  accesses : AccessSet
  filter : SourceFilter
  action : WatchAction
  deriving DecidableEq, Repr

structure WatchSetItems where
  watch : Nat
  config : WatchConfig
  deriving DecidableEq, Repr

/-- SENSOR SET: the fields present (R106); `sector` is present with `none` for "no sector". -/
structure SensorSetItems where
  sensor : RecordRef
  enabled : Option Bool
  positive : Option AnalogInput
  negative : Option AnalogInput
  gain : Option Nat
  offsetTrim : Option Int
  probe : Option ProbeKind
  interval : Option Nat
  sector : Option (Option Nat)
  deriving DecidableEq, Repr

/-- SECTOR SET: the fields present (R114). -/
structure SectorSetItems where
  sector : RecordRef
  stand : Option Nat
  mode : Option SectorMode
  fixedTemp : Option Int
  hysteresis : Option Nat
  settle : Option Nat
  glide : Option Nat
  deriving DecidableEq, Repr

/-- One change of POLICY SET (R70). -/
structure PolicyChange where
  referrer : Tier
  referred : Tier
  outcome : PolicyOutcome
  deriving DecidableEq, Repr

/-- A request taken at a chip-select release: its tag, and the items of its body, or `none` when the
body does not form the items the command carries (R154, test 2). -/
structure Request (α : Type) where
  tag : Byte
  items : Option α
  deriving DecidableEq, Repr

/-! ### What the image link gives: a stored image with its fields as numbers (R165), before validation -/

structure RawFeed where
  label : Nat
  tier : Nat
  sector : Nat
  bus : Nat
  binding : Option RawHandle
  overrideBinding : Option RawHandle
  overrideAction : Nat
  lead : Option Nat
  excessPath : Int
  deriving DecidableEq, Repr

structure RawSection where
  shape : Nat
  enabled : Bool
  frequency : Nat
  gain : Int
  width : Nat
  deriving DecidableEq, Repr

structure RawProfile where
  handle : RawHandle
  /-- 1 LIVE, 2 RETIRING: the position in the list of R31. -/
  state : Nat
  label : Nat
  tier : Nat
  base : Option RawHandle
  latencyTrim : Option Int
  gainTrim : Int
  polarity : Nat
  sections : List RawSection
  deriving DecidableEq, Repr

structure RawSector where
  stand : Nat
  mode : Nat
  fixedTemp : Int
  hysteresis : Nat
  settle : Nat
  glide : Nat
  deriving DecidableEq, Repr

structure RawChannel where
  enabled : Bool
  positive : Nat
  negative : Nat
  gain : Nat
  offsetTrim : Int
  probe : Nat
  interval : Nat
  sector : Option Nat
  deriving DecidableEq, Repr

/-- The record set of the stored image (R165). -/
structure RawImage where
  feeds : List RawFeed
  profiles : List RawProfile
  sectors : List RawSector
  channels : List RawChannel
  policy : List Nat
  crossStand : Nat
  noticeMask : Nat
  deriving DecidableEq, Repr

/-- The CRC-32 an image holds: the one computed over it, or some other word. -/
inductive ImageCrc
  | computed
  | word (w : BitVec 32)
  deriving DecidableEq, Repr

/-- What the external flash holds (R166). -/
inductive FlashContents
  /-- Erased, incomplete or spoiled: no valid image. -/
  | noImage
  /-- A save is writing this record set. -/
  | writing (records : RawImage)
  | image (format : Nat) (records : RawImage) (crc : ImageCrc)
  deriving DecidableEq, Repr

/-- What a save's read-back gives (R166). -/
inductive SaveReadBack
  | noAnswer
  /-- The bytes read back are the bytes written. -/
  | intact
  /-- Other bytes are read back; their CRC-32 is computed afresh. -/
  | bytes (read : List Byte)
  deriving DecidableEq, Repr

/-- What the flash answers to a load (R168, test 1). -/
inductive FlashAnswer
  | noAnswer
  /-- It answers with what it holds. -/
  | held
  /-- It was exchanged or rewritten from outside, and answers with these contents. -/
  | exchanged (contents : FlashContents)
  deriving DecidableEq, Repr

/-! ### The commands -/

/-- One constructor for each row of spec/opcode_table.json, in the table's order. -/
inductive Instr
  | coldStart
  | coldStartEnd (startup : StartupPin)
  | alarmAssertion
  | alarmDeassertion
  | transactionBegin
  | discardedRequest
  | badFrame (tag : Byte) (reason : FrameReason)
  | badCommand (tag : Byte)
  | nop (r : Request Unit)
  | status (r : Request Unit)
  | look (r : Request LookItems)
  | set (r : Request SetItems)
  | find (r : Request FindItems)
  | createProfile (r : Request ProfileContent)
  | clone (r : Request RecordRef)
  | editSections (r : Request EditSectionsItems)
  | base (r : Request BaseItems)
  | retire (r : Request RecordRef)
  | revive (r : Request RecordRef)
  | bind (r : Request BindItems)
  | unbind (r : Request RecordRef)
  | bindOverride (r : Request BindItems)
  | unbindOverride (r : Request RecordRef)
  | lead (r : Request LeadItems)
  | clearFeed (r : Request RecordRef)
  | hold (r : Request SectorSet)
  | release (r : Request SectorSet)
  | engage (r : Request Unit)
  | disengage (r : Request Unit)
  | compactStart (r : Request Unit)
  | compactStop (r : Request Unit)
  | rebuildDependencies (r : Request Unit)
  | save (r : Request Unit)
  | load (r : Request Unit)
  | watchSet (r : Request WatchSetItems)
  | watchClear (r : Request Nat)
  | readWatch (r : Request Nat)
  | sensorSet (r : Request SensorSetItems)
  | sectorSet (r : Request SectorSetItems)
  | policySet (r : Request (List PolicyChange))
  | crossStandSet (r : Request (Option PolicyOutcome))
  | readNotices (r : Request Unit)
  | clearNotices (r : Request NoticeSet)
  | noticeMask (r : Request (Option NoticeSet))
  | blockBoundary
  | transitionComplete (feed : FeedNo)
  | sinceChangeTick (sector : SectorNo)
  | conversionStart (channel : ChannelNo)
  /-- `measured` is the input difference after the gain, in 1/2,048 of the reference, before the
  converter limits it to its range (R102). -/
  | readingComplete (channel : ChannelNo) (measured : Int)
  | resolutionStart
  | resolutionComplete
  | moveComplete
  | deferredEdit
  | saveComplete (readBack : SaveReadBack)
  | loadReadComplete (answer : FlashAnswer)
  | heldLoadReplacement
  | startupWaitExpiry
  | replyPlacement
  deriving DecidableEq, Repr

end Sys2Proof
end

