-- ==== Sys2Proof/Config.lean ====
section
/-! DEFINITION. Constants of the part, and the values the manual leaves open, which have no body. -/

namespace Sys2Proof.Config

/-- Words of the Profile Pool (R50). -/
def poolWords : Nat := 4096

/-- Header words of a profile record and words of each own section (R25). -/
def headerWords : Nat := 4
def sectionWords : Nat := 2

/-- Greatest geometric or output delay, in sub-samples (R22, R23). -/
def maxDelay : Int := 921600

/-- Entries the Dependency Pool can hold (R75). -/
def dependencyCapacity : Nat := 48

/-- Greatest chain of lead links (R11). -/
def maxDepth : Nat := 4

/-- Sections a composed profile and an own list may hold (R27, R28). -/
def maxComposed : Nat := 16
def maxOwn : Nat := 12

/-- Length of a fade or an override crossfade, in blocks (R119). -/
def fadeBlocks : Nat := 4

/-- Greatest change of delay, in sub-samples, that a glide makes by tap slip (R120). -/
def tapSlipMax : Nat := 512

/-- Blocks of 32 samples in one second (R107). -/
def blocksPerSecond : Nat := 1500

/-- Blocks in the 50 ms of a conversion (R101): 50 ms is 2,400 samples, or 75 blocks. -/
def conversionBlocks : Nat := 75

/-- Length of the start-up wait in seconds (R170). -/
def startupSeconds : Nat := 30

/-- Format number of the stored image (R165). -/
def imageFormat : Nat := 1

/-! ### Open values: the manual names each of these and gives it no bytes -/

/-- The bytes of the stored image before its CRC-32: format number and record set.
The manual leaves their layout out (00_scope.md). -/
opaque imageBytes : Nat → RawImage → List Byte

/-- The byte of STATUS for the level of the NOTICE line, by whether it is asserted (R162). -/
opaque noticeLevelByte : Bool → Byte

/-- The byte of a sector record for its overflow mark (R157). -/
opaque overflowMarkByte : Bool → Byte

/-- The byte of the LOAD-DONE detail, by whether the load ended LOADED (R167, R169). -/
opaque loadOutcomeByte : Bool → Byte

/-- Blocks done and length in a feed image when no transition is in flight (R158). -/
opaque noTransitionBytes : BitVec 32

/-- The generation byte beside handle number 0, an absent handle (R153, R158). -/
opaque absentHandleGeneration : Byte

/-- The generation byte of a record reference that a reply sends for a feed, a sector or a channel: R153 reads a generation
for a profile only, and gives none for a reply (log 13). -/
opaque unreadGenerationByte : RecordClass → Byte

/-- The bus byte of a feed image for the evacuation bus (R158 gives 0-7 only). -/
opaque evacuationBusByte : Byte

/-- The block of numbers in WATCH SET's reply, by its first and last number (R148). -/
opaque watchBlockBytes : Nat → Nat → List Byte

/-- The bytes that say a watch's last hit is absent (R148). -/
opaque absentHitBytes : List Byte

end Sys2Proof.Config
end

