-- ==== Sys2Proof/WellFormed.lean ====
section
/-! DEFINITION. Well-formed commands: every operand fits the bytes that carry it (R153). -/

namespace Sys2Proof

/-- A one-byte quantity. -/
def fitsByte (n : Nat) : Bool := n < 256

/-- A two-byte quantity. -/
def fitsWord (n : Nat) : Bool := n < 65536

/-- A two-byte quantity whose range includes negative values. -/
def fitsSigned16 (i : Int) : Bool := -32768 ≤ i && i ≤ 32767

/-- A four-byte signed quantity. -/
def fitsSigned32 (i : Int) : Bool := -2147483648 ≤ i && i ≤ 2147483647

/-- An item that may be absent. -/
def fitsOpt {α : Type} (fits : α → Bool) : Option α → Bool
  | none => true
  | some a => fits a

def RecordRef.wellFormed : RecordRef → Bool
  | .numbered _ number generation => fitsByte number && fitsByte generation
  | .current | .next | .previous | .referred => true

/-- A handle as sent: number 0 would read as an absent handle (R153). -/
def RawHandle.wellFormed (h : RawHandle) : Bool :=
  0 < h.number && fitsByte h.number && fitsByte h.generation

def EqSection.wellFormed (e : EqSection) : Bool :=
  fitsWord e.frequency && fitsSigned16 e.gain && fitsWord e.width

/-- Each section fits its 8 bytes, and the list the room that a 1,024-byte body leaves it (R151). -/
def sectionsWellFormed (room : Nat) (es : List EqSection) : Bool :=
  8 * es.length ≤ room && es.all EqSection.wellFormed

def ProfileContent.wellFormed (p : ProfileContent) : Bool :=
  fitsOpt RawHandle.wellFormed p.base &&
  fitsOpt (fun t => 0 ≤ t && t < 65535) p.latencyTrim &&
  fitsSigned16 p.gainTrim && sectionsWellFormed 1013 p.sections

def LookItems.wellFormed (i : LookItems) : Bool :=
  i.ref.wellFormed && fitsByte i.count && fitsByte i.step

def SetItems.wellFormed (i : SetItems) : Bool :=
  i.ref.wellFormed && fitsByte i.field && fitsSigned32 i.value && fitsByte i.count && fitsByte i.step

def SensorSetItems.wellFormed (i : SensorSetItems) : Bool :=
  i.sensor.wellFormed && fitsOpt fitsByte i.gain && fitsOpt fitsSigned16 i.offsetTrim &&
  fitsOpt fitsByte i.interval && fitsOpt (fitsOpt (fun n => n < 255)) i.sector

def SectorSetItems.wellFormed (i : SectorSetItems) : Bool :=
  i.sector.wellFormed && fitsOpt fitsByte i.stand && fitsOpt fitsSigned16 i.fixedTemp &&
  fitsOpt fitsByte i.hysteresis && fitsOpt fitsWord i.settle && fitsOpt fitsWord i.glide

def WatchSetItems.wellFormed (i : WatchSetItems) : Bool :=
  fitsByte i.watch && fitsByte i.config.base && fitsByte i.config.span

/-- A POLICY SET body holds at most 16 changes (R154). -/
def policyChangesWellFormed (cs : List PolicyChange) : Bool := cs.length ≤ 16

/-- A request is well formed when its items are; a body that forms no items always is. -/
def Request.wellFormed {α : Type} (items : α → Bool) (r : Request α) : Bool := fitsOpt items r.items

/-- Every operand fits its bytes. -/
def Instr.wellFormed : Instr → Bool
  | .coldStart => true
  | .coldStartEnd _ => true
  | .alarmAssertion => true
  | .alarmDeassertion => true
  | .transactionBegin => true
  | .discardedRequest => true
  | .badFrame _ _ => true
  | .badCommand _ => true
  | .nop _ => true
  | .status _ => true
  | .look r => r.wellFormed LookItems.wellFormed
  | .set r => r.wellFormed SetItems.wellFormed
  | .find r => r.wellFormed fun i => i.start.wellFormed
  | .createProfile r => r.wellFormed ProfileContent.wellFormed
  | .clone r => r.wellFormed RecordRef.wellFormed
  | .editSections r => r.wellFormed fun i => i.profile.wellFormed && sectionsWellFormed 1019 i.sections
  | .base r => r.wellFormed fun i => i.profile.wellFormed && i.base.wellFormed
  | .retire r => r.wellFormed RecordRef.wellFormed
  | .revive r => r.wellFormed RecordRef.wellFormed
  | .bind r => r.wellFormed fun i => i.feed.wellFormed && i.profile.wellFormed
  | .unbind r => r.wellFormed RecordRef.wellFormed
  | .bindOverride r => r.wellFormed fun i => i.feed.wellFormed && i.profile.wellFormed
  | .unbindOverride r => r.wellFormed RecordRef.wellFormed
  | .lead r => r.wellFormed fun i => i.follower.wellFormed && i.lead.wellFormed
  | .clearFeed r => r.wellFormed RecordRef.wellFormed
  | .hold _ => true
  | .release _ => true
  | .engage _ => true
  | .disengage _ => true
  | .compactStart _ => true
  | .compactStop _ => true
  | .rebuildDependencies _ => true
  | .save _ => true
  | .load _ => true
  | .watchSet r => r.wellFormed WatchSetItems.wellFormed
  | .watchClear r => r.wellFormed fitsByte
  | .readWatch r => r.wellFormed fitsByte
  | .sensorSet r => r.wellFormed SensorSetItems.wellFormed
  | .sectorSet r => r.wellFormed SectorSetItems.wellFormed
  | .policySet r => r.wellFormed policyChangesWellFormed
  | .crossStandSet _ => true
  | .readNotices _ => true
  | .clearNotices _ => true
  | .noticeMask _ => true
  | .blockBoundary => true
  | .transitionComplete _ => true
  | .sinceChangeTick _ => true
  | .conversionStart _ => true
  | .readingComplete _ _ => true
  | .resolutionStart => true
  | .resolutionComplete => true
  | .moveComplete => true
  | .deferredEdit => true
  | .saveComplete _ => true
  | .loadReadComplete _ => true
  | .heldLoadReplacement => true
  | .startupWaitExpiry => true
  | .replyPlacement => true

end Sys2Proof
end

