-- ==== Sys2Proof/Decode.lean ====
section
/-! DEFINITION. Codes of field values, byte order, checksums, and the reading of a released frame as a command
(R151 to R154), with the writing of one. -/

namespace Sys2Proof

/-! ### Codes of enumerated fields: the position in the manual's list, from 0 (R153) -/

def Tier.all : List Tier := [.safety, .programme, .ambient, .test]
def OverrideAction.all : List OverrideAction := [.keep, .silence, .switch]
def Polarity.all : List Polarity := [.normal, .inverted]
def Shape.all : List Shape := [.peak, .lowShelf, .highShelf, .lowCut, .highCut, .notch]
def PolicyOutcome.all : List PolicyOutcome := [.allow, .notify, .refuse]
def AnalogInput.all : List AnalogInput :=
  [.ain 0, .ain 1, .ain 2, .ain 3, .ain 4, .ain 5, .ain 6, .ain 7, .refA, .refB, .ground]
def ProbeKind.all : List ProbeKind := [.bridge, .linear]
def SectorMode.all : List SectorMode := [.sensed, .fixed]
def RecordClass.all : List RecordClass := [.feed, .profile, .sector, .sensor]
def WatchClass.all : List WatchClass := [.feed, .profile]
def SourceFilter.all : List SourceFilter := [.any, .portOnly]
def WatchAction.all : List WatchAction := [.notify, .stop]
def Sense.all : List Sense := [.matching, .inverse]

def Tier.code : Tier → Nat
  | .safety => 0 | .programme => 1 | .ambient => 2 | .test => 3
def OverrideAction.code : OverrideAction → Nat
  | .keep => 0 | .silence => 1 | .switch => 2
def Polarity.code : Polarity → Nat
  | .normal => 0 | .inverted => 1
def Shape.code : Shape → Nat
  | .peak => 0 | .lowShelf => 1 | .highShelf => 2 | .lowCut => 3 | .highCut => 4 | .notch => 5
def PolicyOutcome.code : PolicyOutcome → Nat
  | .allow => 0 | .notify => 1 | .refuse => 2
def AnalogInput.code : AnalogInput → Nat
  | .ain n => n.val | .refA => 8 | .refB => 9 | .ground => 10
def ProbeKind.code : ProbeKind → Nat
  | .bridge => 0 | .linear => 1
def SectorMode.code : SectorMode → Nat
  | .sensed => 0 | .fixed => 1
def RecordClass.code : RecordClass → Nat
  | .feed => 0 | .profile => 1 | .sector => 2 | .sensor => 3
def WatchClass.code : WatchClass → Nat
  | .feed => 0 | .profile => 1
def Access.code : Access → Nat
  | .portLook => 0 | .portChange => 1 | .autoChange => 2 | .take => 3
def SourceFilter.code : SourceFilter → Nat
  | .any => 0 | .portOnly => 1
def WatchAction.code : WatchAction → Nat
  | .notify => 0 | .stop => 1
def Sense.code : Sense → Nat
  | .matching => 0 | .inverse => 1

/-- The reason byte of a BAD-FRAME reply (R152). -/
def FrameReason.code : FrameReason → Nat
  | .short => 1 | .long => 2 | .check => 3

/-- A "yes, no" field: its list names yes first (R26, R100, R143, R153; log 8). -/
def yesNoCode (b : Bool) : Nat := if b then 0 else 1

def yesNoOfCode : Nat → Option Bool
  | 0 => some true
  | 1 => some false
  | _ => none

/-! ### Writing items: least significant byte first (R151) -/

def byte1 (n : Nat) : List Byte := [BitVec.ofNat 8 n]

def bytes2 (n : Nat) : List Byte := [BitVec.ofNat 8 n, BitVec.ofNat 8 (n / 256)]

def bytes4 (n : Nat) : List Byte := bytes2 n ++ bytes2 (n / 65536)

/-- Two's complement in `w` bits. -/
def twos (w : Nat) (i : Int) : Nat := (i % (2 ^ w : Nat)).toNat

def signed2 (i : Int) : List Byte := bytes2 (twos 16 i)

def signed4 (i : Int) : List Byte := bytes4 (twos 32 i)

/-- A two-byte temperature or conversion code, 0x8000 when absent (R153). -/
def optTemp2 : Option Int → List Byte
  | none => bytes2 0x8000
  | some t => signed2 t

def AccessSet.code (a : AccessSet) : Nat :=
  (if a.portLook then 1 else 0) + (if a.portChange then 2 else 0) +
  (if a.autoChange then 4 else 0) + (if a.take then 8 else 0)

/-- A record reference: form, class, number, generation (R153). -/
def RecordRef.bytes : RecordRef → List Byte
  | .numbered c n g => byte1 0 ++ byte1 c.code ++ byte1 n ++ byte1 g
  | .current => byte1 1 ++ byte1 0 ++ byte1 0 ++ byte1 0
  | .next => byte1 2 ++ byte1 0 ++ byte1 0 ++ byte1 0
  | .previous => byte1 3 ++ byte1 0 ++ byte1 0 ++ byte1 0
  | .referred => byte1 4 ++ byte1 0 ++ byte1 0 ++ byte1 0

/-- A section of a profile image: shape, enabled, frequency, gain, width (R158). -/
def EqSection.bytes (e : EqSection) : List Byte :=
  byte1 e.shape.code ++ byte1 (yesNoCode e.enabled) ++ bytes2 e.frequency ++ signed2 e.gain ++ bytes2 e.width

def sectionsBytes : List EqSection → List Byte
  | [] => []
  | e :: es => e.bytes ++ sectionsBytes es

/-- The handle fields of a record: number then generation, number 0 when absent (R153, R158). -/
def optHandleBytes : Option RawHandle → List Byte
  | none => byte1 0 ++ [Config.absentHandleGeneration]
  | some h => byte1 h.number ++ byte1 h.generation

/-- A latency trim, all ones when absent (R153). -/
def optTrimBytes : Option Int → List Byte
  | none => bytes2 0xFFFF
  | some t => signed2 t

/-- Bytes 10 onward of a profile image: the profile content item (R158). -/
def ProfileContent.bytes (p : ProfileContent) : List Byte :=
  bytes2 p.label.toNat ++ byte1 p.tier.code ++ optHandleBytes p.base ++ optTrimBytes p.latencyTrim ++
  signed2 p.gainTrim ++ byte1 p.polarity.code ++ byte1 p.sections.length ++ sectionsBytes p.sections

/-- The configuration of a watch, from enabled to action (R143, R148). -/
def WatchConfig.bytes (w : WatchConfig) : List Byte :=
  byte1 (yesNoCode w.enabled) ++ byte1 w.cls.code ++ byte1 w.base ++ byte1 w.span ++
  bytes2 w.accesses.code ++ byte1 w.filter.code ++ byte1 w.action.code

/-! ### Reading items -/

def readByte : List Byte → Option (Nat × List Byte)
  | b :: r => some (b.toNat, r)
  | [] => none

def readWord : List Byte → Option (Nat × List Byte)
  | a :: b :: r => some (a.toNat + 256 * b.toNat, r)
  | _ => none

def readLong (bs : List Byte) : Option (Nat × List Byte) := do
  let (lo, r) ← readWord bs
  let (hi, r) ← readWord r
  return (lo + 65536 * hi, r)

/-- The value of a two's complement number of `w` bits. -/
def ofTwos (w : Nat) (n : Nat) : Int := if 2 * n < 2 ^ w then n else (n : Int) - (2 ^ w : Nat)

def readSigned2 (bs : List Byte) : Option (Int × List Byte) := do
  let (n, r) ← readWord bs
  return (ofTwos 16 n, r)

def readSigned4 (bs : List Byte) : Option (Int × List Byte) := do
  let (n, r) ← readLong bs
  return (ofTwos 32 n, r)

/-- An enumerated item: a value beyond its list forms no item (R154, test 2). -/
def readEnum {α : Type} (all : List α) (bs : List Byte) : Option (α × List Byte) := do
  let (n, r) ← readByte bs
  let a ← all[n]?
  return (a, r)

def readYesNo (bs : List Byte) : Option (Bool × List Byte) := do
  let (n, r) ← readByte bs
  let b ← yesNoOfCode n
  return (b, r)

/-- A record reference; class, number and generation are read only with the form NUMBERED (R153). -/
def readRef (bs : List Byte) : Option (RecordRef × List Byte) := do
  let (form, r) ← readByte bs
  let (cls, r) ← readByte r
  let (number, r) ← readByte r
  let (gen, r) ← readByte r
  match form with
  | 0 =>
    let c ← RecordClass.all[cls]?
    return (.numbered c number gen, r)
  | 1 => return (.current, r)
  | 2 => return (.next, r)
  | 3 => return (.previous, r)
  | 4 => return (.referred, r)
  | _ => none

def readSection (bs : List Byte) : Option (EqSection × List Byte) := do
  let (shape, r) ← readEnum Shape.all bs
  let (enabled, r) ← readYesNo r
  let (frequency, r) ← readWord r
  let (gain, r) ← readSigned2 r
  let (width, r) ← readWord r
  return (⟨shape, enabled, frequency, gain, width⟩, r)

def readSections : Nat → List Byte → Option (List EqSection × List Byte)
  | 0, bs => some ([], bs)
  | n + 1, bs => do
    let (e, r) ← readSection bs
    let (es, r) ← readSections n r
    return (e :: es, r)

def readOptHandle (bs : List Byte) : Option (Option RawHandle × List Byte) := do
  let (number, r) ← readByte bs
  let (gen, r) ← readByte r
  return (if number = 0 then none else some ⟨number, gen⟩, r)

def readOptTrim (bs : List Byte) : Option (Option Int × List Byte) := do
  let (n, r) ← readWord bs
  return (if n = 0xFFFF then none else some (n : Int), r)

def readProfileContent (bs : List Byte) : Option (ProfileContent × List Byte) := do
  let (label, r) ← readWord bs
  let (tier, r) ← readEnum Tier.all r
  let (base, r) ← readOptHandle r
  let (trim, r) ← readOptTrim r
  let (gain, r) ← readSigned2 r
  let (polarity, r) ← readEnum Polarity.all r
  let (count, r) ← readByte r
  let (sections, r) ← readSections count r
  return (⟨BitVec.ofNat 16 label, tier, base, trim, gain, polarity, sections⟩, r)

def readLook (bs : List Byte) : Option (LookItems × List Byte) := do
  let (ref, r) ← readRef bs
  let (count, r) ← readByte r
  let (step, r) ← readByte r
  return (⟨ref, count, step⟩, r)

def readSet (bs : List Byte) : Option (SetItems × List Byte) := do
  let (ref, r) ← readRef bs
  let (field, r) ← readByte r
  let (value, r) ← readSigned4 r
  let (count, r) ← readByte r
  let (step, r) ← readByte r
  return (⟨ref, field, value, count, step⟩, r)

def readFind (bs : List Byte) : Option (FindItems × List Byte) := do
  let (cls, r) ← readEnum RecordClass.all bs
  let (pattern, r) ← readWord r
  let (mask, r) ← readWord r
  let (sense, r) ← readEnum Sense.all r
  let (start, r) ← readRef r
  return (⟨cls, BitVec.ofNat 16 pattern, BitVec.ofNat 16 mask, sense, start⟩, r)

def readEditSections (bs : List Byte) : Option (EditSectionsItems × List Byte) := do
  let (profile, r) ← readRef bs
  let (count, r) ← readByte r
  let (sections, r) ← readSections count r
  return (⟨profile, sections⟩, r)

def readTwoRefs (bs : List Byte) : Option ((RecordRef × RecordRef) × List Byte) := do
  let (a, r) ← readRef bs
  let (b, r) ← readRef r
  return ((a, b), r)

def readAccessSet (bs : List Byte) : Option (AccessSet × List Byte) := do
  let (n, r) ← readWord bs
  if n < 16 then
    return (⟨n.testBit 0, n.testBit 1, n.testBit 2, n.testBit 3⟩, r)
  else none

def readWatchSet (bs : List Byte) : Option (WatchSetItems × List Byte) := do
  let (watch, r) ← readByte bs
  let (enabled, r) ← readYesNo r
  let (cls, r) ← readEnum WatchClass.all r
  let (base, r) ← readByte r
  let (span, r) ← readByte r
  let (accesses, r) ← readAccessSet r
  let (filter, r) ← readEnum SourceFilter.all r
  let (action, r) ← readEnum WatchAction.all r
  return (⟨watch, ⟨enabled, cls, base, span, accesses, filter, action⟩⟩, r)

/-- A field that a presence set marks (R153). -/
def readIf {α : Type} (present : Bool) (read : List Byte → Option (α × List Byte)) (bs : List Byte) :
    Option (Option α × List Byte) :=
  if present then (read bs).map fun (a, r) => (some a, r) else some (none, bs)

/-- A channel's sector, 0xFF for none (R153). -/
def readOptSector (bs : List Byte) : Option (Option Nat × List Byte) := do
  let (n, r) ← readByte bs
  return (if n = 255 then none else some n, r)

def readSensorSet (bs : List Byte) : Option (SensorSetItems × List Byte) := do
  let (sensor, r) ← readRef bs
  let (set, r) ← readWord r
  if set < 256 then
    let (enabled, r) ← readIf (set.testBit 0) readYesNo r
    let (positive, r) ← readIf (set.testBit 1) (readEnum AnalogInput.all) r
    let (negative, r) ← readIf (set.testBit 2) (readEnum AnalogInput.all) r
    let (gain, r) ← readIf (set.testBit 3) readByte r
    let (offset, r) ← readIf (set.testBit 4) readSigned2 r
    let (probe, r) ← readIf (set.testBit 5) (readEnum ProbeKind.all) r
    let (interval, r) ← readIf (set.testBit 6) readByte r
    let (sector, r) ← readIf (set.testBit 7) readOptSector r
    return (⟨sensor, enabled, positive, negative, gain, offset, probe, interval, sector⟩, r)
  else none

def readSectorSet (bs : List Byte) : Option (SectorSetItems × List Byte) := do
  let (sector, r) ← readRef bs
  let (set, r) ← readWord r
  if set < 64 then
    let (stand, r) ← readIf (set.testBit 0) readByte r
    let (mode, r) ← readIf (set.testBit 1) (readEnum SectorMode.all) r
    let (temp, r) ← readIf (set.testBit 2) readSigned2 r
    let (hysteresis, r) ← readIf (set.testBit 3) readByte r
    let (settle, r) ← readIf (set.testBit 4) readWord r
    let (glide, r) ← readIf (set.testBit 5) readWord r
    return (⟨sector, stand, mode, temp, hysteresis, settle, glide⟩, r)
  else none

/-- The entry changes of POLICY SET, three bytes each to the end of the body (R70, R154). -/
def readChanges : List Byte → Option (List PolicyChange)
  | [] => some []
  | a :: b :: c :: r => do
    let referrer ← Tier.all[a.toNat]?
    let referred ← Tier.all[b.toNat]?
    let outcome ← PolicyOutcome.all[c.toNat]?
    let rest ← readChanges r
    return ⟨referrer, referred, outcome⟩ :: rest
  | _ => none

def readPolicySet (bs : List Byte) : Option (List PolicyChange) := do
  let cs ← readChanges bs
  if cs.length ≤ 16 then return cs else none

def readNoticeSet (bs : List Byte) : Option (NoticeSet × List Byte) := do
  let (n, r) ← readWord bs
  if n < 2048 then return (BitVec.ofNat 11 n, r) else none

/-- Items that must use up the whole body (R154, test 2). -/
def readWhole {α : Type} (read : List Byte → Option (α × List Byte)) (bs : List Byte) : Option α :=
  match read bs with
  | some (a, []) => some a
  | _ => none

/-- Items that the body may leave out altogether (CROSS-STAND SET, NOTICE MASK). -/
def readOrNothing {α : Type} (read : List Byte → Option (α × List Byte)) (bs : List Byte) :
    Option (Option α) :=
  match bs with
  | [] => some none
  | _ => (readWhole read bs).map some

def readNothing : List Byte → Option Unit
  | [] => some ()
  | _ => none

/-! ### Checksums -/

/-- One bit into the CRC-16 register, polynomial x^16 + x^12 + x^5 + 1 (R151). -/
def crc16Bit (reg : BitVec 16) (bit : Bool) : BitVec 16 :=
  if xor reg.msb bit then (reg <<< 1) ^^^ 0x1021#16 else reg <<< 1

/-- One byte, most significant bit first (R151). -/
def crc16Byte (reg : BitVec 16) (b : Byte) : BitVec 16 :=
  [7, 6, 5, 4, 3, 2, 1, 0].foldl (fun reg i => crc16Bit reg (b.getLsbD i)) reg

/-- The CRC-16 of the control port (R151). -/
def crc16 (bs : List Byte) : BitVec 16 := bs.foldl crc16Byte 0xFFFF#16

/-- One bit into the CRC-32 register, the polynomial of R165 in the order of bits taken least
significant first. -/
def crc32Bit (reg : BitVec 32) (bit : Bool) : BitVec 32 :=
  if xor (reg.getLsbD 0) bit then (reg >>> 1) ^^^ 0xEDB88320#32 else reg >>> 1

def crc32Byte (reg : BitVec 32) (b : Byte) : BitVec 32 :=
  [0, 1, 2, 3, 4, 5, 6, 7].foldl (fun reg i => crc32Bit reg (b.getLsbD i)) reg

/-- The CRC-32 of the stored image (R165). -/
def crc32 (bs : List Byte) : BitVec 32 := ~~~(bs.foldl crc32Byte 0xFFFFFFFF#32)

/-! ### Frames -/

/-- A frame: head (command or status code, tag), body length, body, CRC-16 (R151). -/
def frame (head tag : Byte) (body : List Byte) : List Byte :=
  let front := [head, tag] ++ bytes2 body.length ++ body
  front ++ bytes2 (crc16 front).toNat

/-- What the MOSI bytes of a transaction that carried a reply are judged to be (R152). -/
inductive FrameVerdict
  | malformed (reason : FrameReason)
  | good (code tag : Byte) (body : List Byte)
  deriving DecidableEq, Repr

/-- The three tests of R152, in their order. -/
def judgeFrame (mosi : List Byte) : FrameVerdict :=
  match mosi with
  | code :: tag :: lo :: hi :: rest =>
    let n := lo.toNat + 256 * hi.toNat
    if rest.length < n + 2 then .malformed .short
    else if 1024 < n || (rest.drop (n + 2)).any (fun b => b != 0xFF#8) then .malformed .long
    else if (rest.drop n).take 2 = bytes2 (crc16 (code :: tag :: lo :: hi :: rest.take n)).toNat then
      .good code tag (rest.take n)
    else .malformed .check
  | _ => .malformed .short

/-- The tag of a BAD-FRAME reply: the tag byte received, or 0 (R151). -/
def receivedTag : List Byte → Byte
  | _ :: tag :: _ => tag
  | _ => 0

/-- The command of a well-formed frame, by its code (R154). -/
def decodeRequest (code : Nat) (tag : Byte) (body : List Byte) : Instr :=
  match code with
  | 0x00 => .nop ⟨tag, readNothing body⟩
  | 0x01 => .status ⟨tag, readNothing body⟩
  | 0x02 => .look ⟨tag, readWhole readLook body⟩
  | 0x03 => .set ⟨tag, readWhole readSet body⟩
  | 0x04 => .find ⟨tag, readWhole readFind body⟩
  | 0x10 => .createProfile ⟨tag, readWhole readProfileContent body⟩
  | 0x11 => .clone ⟨tag, readWhole readRef body⟩
  | 0x12 => .editSections ⟨tag, readWhole readEditSections body⟩
  | 0x13 => .base ⟨tag, (readWhole readTwoRefs body).map fun (a, b) => ⟨a, b⟩⟩
  | 0x14 => .retire ⟨tag, readWhole readRef body⟩
  | 0x15 => .revive ⟨tag, readWhole readRef body⟩
  | 0x20 => .bind ⟨tag, (readWhole readTwoRefs body).map fun (a, b) => ⟨a, b⟩⟩
  | 0x21 => .unbind ⟨tag, readWhole readRef body⟩
  | 0x22 => .bindOverride ⟨tag, (readWhole readTwoRefs body).map fun (a, b) => ⟨a, b⟩⟩
  | 0x23 => .unbindOverride ⟨tag, readWhole readRef body⟩
  | 0x24 => .lead ⟨tag, (readWhole readTwoRefs body).map fun (a, b) => ⟨a, b⟩⟩
  | 0x25 => .clearFeed ⟨tag, readWhole readRef body⟩
  | 0x30 => .hold ⟨tag, (readWhole readWord body).map (BitVec.ofNat 16)⟩
  | 0x31 => .release ⟨tag, (readWhole readWord body).map (BitVec.ofNat 16)⟩
  | 0x32 => .engage ⟨tag, readNothing body⟩
  | 0x33 => .disengage ⟨tag, readNothing body⟩
  | 0x38 => .compactStart ⟨tag, readNothing body⟩
  | 0x39 => .compactStop ⟨tag, readNothing body⟩
  | 0x3A => .rebuildDependencies ⟨tag, readNothing body⟩
  | 0x40 => .save ⟨tag, readNothing body⟩
  | 0x41 => .load ⟨tag, readNothing body⟩
  | 0x48 => .watchSet ⟨tag, readWhole readWatchSet body⟩
  | 0x49 => .watchClear ⟨tag, readWhole readByte body⟩
  | 0x4A => .readWatch ⟨tag, readWhole readByte body⟩
  | 0x50 => .sensorSet ⟨tag, readWhole readSensorSet body⟩
  | 0x51 => .sectorSet ⟨tag, readWhole readSectorSet body⟩
  | 0x52 => .policySet ⟨tag, readPolicySet body⟩
  | 0x53 => .crossStandSet ⟨tag, readOrNothing (readEnum PolicyOutcome.all) body⟩
  | 0x58 => .readNotices ⟨tag, readNothing body⟩
  | 0x59 => .clearNotices ⟨tag, readWhole readNoticeSet body⟩
  | 0x5A => .noticeMask ⟨tag, readOrNothing readNoticeSet body⟩
  | _ => .badCommand tag

/-- The command that the MOSI bytes released by a transaction that carried a reply spell, total on any bytes:
a malformed frame by its reason, an unknown code by BAD_COMMAND (R152, R154). -/
def decodeFrame (mosi : List Byte) : Instr :=
  match judgeFrame mosi with
  | .malformed reason => .badFrame (receivedTag mosi) reason
  | .good code tag body => decodeRequest code.toNat tag body

/-! ### Writing a request -/

def presence (marks : List Bool) : Nat :=
  marks.foldr (fun m n => (if m then 1 else 0) + 2 * n) 0

def optBytes {α : Type} (f : α → List Byte) : Option α → List Byte
  | none => []
  | some a => f a

def SensorSetItems.bytes (i : SensorSetItems) : List Byte :=
  i.sensor.bytes ++
  bytes2 (presence [i.enabled.isSome, i.positive.isSome, i.negative.isSome, i.gain.isSome,
    i.offsetTrim.isSome, i.probe.isSome, i.interval.isSome, i.sector.isSome]) ++
  optBytes (fun b => byte1 (yesNoCode b)) i.enabled ++
  optBytes (fun a => byte1 a.code) i.positive ++
  optBytes (fun a => byte1 a.code) i.negative ++
  optBytes byte1 i.gain ++
  optBytes signed2 i.offsetTrim ++
  optBytes (fun p => byte1 p.code) i.probe ++
  optBytes byte1 i.interval ++
  optBytes (fun n => byte1 (n.getD 255)) i.sector

def SectorSetItems.bytes (i : SectorSetItems) : List Byte :=
  i.sector.bytes ++
  bytes2 (presence [i.stand.isSome, i.mode.isSome, i.fixedTemp.isSome, i.hysteresis.isSome,
    i.settle.isSome, i.glide.isSome]) ++
  optBytes byte1 i.stand ++
  optBytes (fun m => byte1 m.code) i.mode ++
  optBytes signed2 i.fixedTemp ++
  optBytes byte1 i.hysteresis ++
  optBytes bytes2 i.settle ++
  optBytes bytes2 i.glide

def changesBytes : List PolicyChange → List Byte
  | [] => []
  | c :: cs => byte1 c.referrer.code ++ byte1 c.referred.code ++ byte1 c.outcome.code ++ changesBytes cs

/-- Command code, tag and body of a request whose items are present; none for the other commands (R154). -/
def encodeRequest : Instr → Option (Nat × Byte × List Byte)
  | .nop ⟨t, some _⟩ => some (0x00, t, [])
  | .status ⟨t, some _⟩ => some (0x01, t, [])
  | .look ⟨t, some i⟩ => some (0x02, t, i.ref.bytes ++ byte1 i.count ++ byte1 i.step)
  | .set ⟨t, some i⟩ =>
    some (0x03, t, i.ref.bytes ++ byte1 i.field ++ signed4 i.value ++ byte1 i.count ++ byte1 i.step)
  | .find ⟨t, some i⟩ =>
    some (0x04, t, byte1 i.cls.code ++ bytes2 i.pattern.toNat ++ bytes2 i.mask.toNat ++
      byte1 i.sense.code ++ i.start.bytes)
  | .createProfile ⟨t, some p⟩ => some (0x10, t, p.bytes)
  | .clone ⟨t, some r⟩ => some (0x11, t, r.bytes)
  | .editSections ⟨t, some i⟩ =>
    some (0x12, t, i.profile.bytes ++ byte1 i.sections.length ++ sectionsBytes i.sections)
  | .base ⟨t, some i⟩ => some (0x13, t, i.profile.bytes ++ i.base.bytes)
  | .retire ⟨t, some r⟩ => some (0x14, t, r.bytes)
  | .revive ⟨t, some r⟩ => some (0x15, t, r.bytes)
  | .bind ⟨t, some i⟩ => some (0x20, t, i.feed.bytes ++ i.profile.bytes)
  | .unbind ⟨t, some r⟩ => some (0x21, t, r.bytes)
  | .bindOverride ⟨t, some i⟩ => some (0x22, t, i.feed.bytes ++ i.profile.bytes)
  | .unbindOverride ⟨t, some r⟩ => some (0x23, t, r.bytes)
  | .lead ⟨t, some i⟩ => some (0x24, t, i.follower.bytes ++ i.lead.bytes)
  | .clearFeed ⟨t, some r⟩ => some (0x25, t, r.bytes)
  | .hold ⟨t, some s⟩ => some (0x30, t, bytes2 s.toNat)
  | .release ⟨t, some s⟩ => some (0x31, t, bytes2 s.toNat)
  | .engage ⟨t, some _⟩ => some (0x32, t, [])
  | .disengage ⟨t, some _⟩ => some (0x33, t, [])
  | .compactStart ⟨t, some _⟩ => some (0x38, t, [])
  | .compactStop ⟨t, some _⟩ => some (0x39, t, [])
  | .rebuildDependencies ⟨t, some _⟩ => some (0x3A, t, [])
  | .save ⟨t, some _⟩ => some (0x40, t, [])
  | .load ⟨t, some _⟩ => some (0x41, t, [])
  | .watchSet ⟨t, some i⟩ => some (0x48, t, byte1 i.watch ++ i.config.bytes)
  | .watchClear ⟨t, some n⟩ => some (0x49, t, byte1 n)
  | .readWatch ⟨t, some n⟩ => some (0x4A, t, byte1 n)
  | .sensorSet ⟨t, some i⟩ => some (0x50, t, i.bytes)
  | .sectorSet ⟨t, some i⟩ => some (0x51, t, i.bytes)
  | .policySet ⟨t, some cs⟩ => some (0x52, t, changesBytes cs)
  | .crossStandSet ⟨t, some o⟩ => some (0x53, t, optBytes (fun o => byte1 o.code) o)
  | .readNotices ⟨t, some _⟩ => some (0x58, t, [])
  | .clearNotices ⟨t, some k⟩ => some (0x59, t, bytes2 k.toNat)
  | .noticeMask ⟨t, some k⟩ => some (0x5A, t, optBytes (fun k => bytes2 k.toNat) k)
  | _ => none

/-- The frame a host sends for a request (R151). -/
def encodeFrame (i : Instr) : Option (List Byte) :=
  (encodeRequest i).map fun (code, tag, body) => frame (BitVec.ofNat 8 code) tag body

/-- No row of spec/opcode_table.json gives bits, so a word of the table spells no command. -/
def decodeTableWord (_nbits _w : Nat) : Option Instr := none

end Sys2Proof
end

