-- ==== Sys2Proof/Machine/State.lean ====
section
/-! DEFINITION. The state of the block as plain data, its reset value, and the ways a step can stop. -/

namespace Sys2Proof.Machine

/-! ### Feed Table (R1) -/

/-- A handle: its place in the Handle Table and a generation. -/
structure Handle where
  ix : HandleIx
  gen : Generation
  deriving DecidableEq, Repr

inductive ResolutionState | new | queued | clean | faulted | held
  deriving DecidableEq, Repr

inductive FaultReason | range | leadUnresolved
  deriving DecidableEq, Repr

/-- A feed entry (R1). -/
structure FeedEntry where
  label : BitVec 16
  tier : Tier
  sector : SectorNo
  bus : Fin 8
  binding : Option Handle
  overrideBinding : Option Handle
  overrideAction : OverrideAction
  lead : Option FeedNo
  excessPath : Int
  geomDelay : Option Int
  revision : BitVec 8
  resolution : ResolutionState
  faultReason : Option FaultReason
  deriving DecidableEq, Repr

/-! ### Handle Table and Profile Pool (R25, R31, R50, R56) -/

inductive HandleState | free | live | retiring
  deriving DecidableEq, Repr

/-- A run of words of the Profile Pool. -/
structure Extent where
  offset : Nat
  len : Nat
  deriving DecidableEq, Repr

/-- A profile record (R25). -/
structure ProfileRecord where
  label : BitVec 16
  tier : Tier
  base : Option Handle
  latencyTrim : Option Int
  gainTrim : Int
  polarity : Polarity
  sections : List EqSection
  deriving DecidableEq, Repr

/-- A handle entry (R31), with the record that its extent holds in the pool. -/
structure HandleEntry where
  state : HandleState
  gen : Generation
  extent : Option Extent
  refCount : Nat
  inMove : Bool
  record : Option ProfileRecord
  deriving DecidableEq, Repr

inductive CompactionState | idle | running | stopping
  deriving DecidableEq, Repr

/-- The move in flight (R56). -/
structure MoveRecord where
  handle : HandleIx
  spanStart : Nat
  recordLen : Nat
  spanLen : Nat
  deriving DecidableEq, Repr

/-- The free extent list, the compaction state and the move record (R51, R56). -/
structure Pool where
  free : List Extent
  compaction : CompactionState
  move : Option MoveRecord
  deriving DecidableEq, Repr

/-! ### Dependency Pool (R75) -/

/-- The entry of each follower that has one, by its lead sector, and the overflow marks. -/
structure Dependencies where
  entries : Table (Option SectorNo) 96
  overflow : Table Bool 16
  deriving DecidableEq, Repr

/-! ### Resolver (R83) -/

structure InFlight where
  feed : FeedNo
  revision : BitVec 8
  deriving DecidableEq, Repr

structure Resolver where
  queue : List FeedNo
  inFlight : Option InFlight
  deriving DecidableEq, Repr

/-! ### Climate Unit (R100, R107) -/

structure ChannelConfig where
  enabled : Bool
  positive : AnalogInput
  negative : AnalogInput
  gain : Nat
  offsetTrim : Int
  probe : ProbeKind
  interval : Nat
  sector : Option SectorNo
  deriving DecidableEq, Repr

inductive ChannelState | off | warming | valid | faulted
  deriving DecidableEq, Repr

/-- A reading whose conversion has begun: the block boundaries left to its completion, and whether a
change of measurement or a load has left it without effect (R101, R116). -/
structure Reading where
  blocksLeft : Nat
  void : Bool
  deriving DecidableEq, Repr

/-- A sensor channel record (R100), with its reading in flight and its schedule (R101): the block
boundaries to the next scheduled completion. -/
structure Channel where
  config : ChannelConfig
  state : ChannelState
  window : List Int
  average : Option Int
  lastCode : Option Int
  reading : Option Reading
  toNext : Nat
  deriving DecidableEq, Repr

structure SectorConfig where
  stand : Fin 4
  mode : SectorMode
  fixedTemp : Int
  hysteresis : Nat
  settle : Nat
  glide : Nat
  deriving DecidableEq, Repr

inductive SpeedStatus | tracking | degraded | fixed
  deriving DecidableEq, Repr

/-- A sector record (R107); `blocks` counts the block boundaries of the second that runs. -/
structure Sector where
  config : SectorConfig
  speed : Int
  epoch : BitVec 16
  status : SpeedStatus
  sensedTemp : Option Int
  sinceChange : Option Nat
  blocks : Nat
  awaitingFix : Bool
  deferred : Bool
  deriving DecidableEq, Repr

/-! ### Render Engine (R117, R119, R129) -/

/-- Programme buses 0-7 and the evacuation bus E. -/
inductive Bus
  | programme (n : Fin 8)
  | evacuation
  deriving DecidableEq, Repr

/-- A playable setting (R89, R117). -/
structure Setting where
  outputDelay : Int
  sections : List EqSection
  gain : Int
  polarity : Polarity
  bus : Bus
  deriving DecidableEq, Repr

inductive TransitionKind | glide | fadeIn | fadeOut | crossfade
  deriving DecidableEq, Repr

/-- What the output leaves when a transition begins (R119, R125, R137). A level inside a transition has no number in the
manual: the output is kept as the way it came about (log 23). -/
inductive OutputLeft
  | silence
  | setting (s : Setting)
  /-- The output as a transition from `left` to `target` had it: what its record held when it ended early (R125). -/
  | partWay (kind : TransitionKind) (left : OutputLeft) (target : Option Setting) (blocksDone length : Nat)
  /-- The result of a cut at the level that `reached` had; for the result silence, `reached` itself (R137). -/
  | atLevelOf (result : Option Setting) (reached : OutputLeft)
  deriving DecidableEq, Repr

/-- A transition record (R119); the target `none` is silence. -/
structure Transition where
  kind : TransitionKind
  left : OutputLeft
  target : Option Setting
  blocksDone : Nat
  length : Nat
  deriving DecidableEq, Repr

inductive OutputSource | normal | standby | mute
  deriving DecidableEq, Repr

/-- The render state of a feed (R117); its output state is derived (R118). -/
structure FeedRender where
  active : Option Setting
  pending : Option Setting
  standby : Option Setting
  standbyInPlay : Option Setting
  silenceOrder : Bool
  takeStopped : Bool
  source : OutputSource
  transition : Option Transition
  deriving DecidableEq, Repr

/-- The hold of a sector (R129). -/
structure SectorHold where
  held : Bool
  request : Bool
  deriving DecidableEq, Repr

/-! ### Override Unit (R133) -/

inductive OverrideState | clear | engaged
  deriving DecidableEq, Repr

inductive OverrideSource | alarm | port
  deriving DecidableEq, Repr

structure Override where
  state : OverrideState
  alarmActive : Bool
  portActive : Bool
  applied : OverrideState
  deriving DecidableEq, Repr

/-! ### Watch Unit (R143, R145) -/

/-- The name of a record: the cursor's form (R155), and the record of a hit (R145). -/
inductive RecordName
  | feed (n : FeedNo)
  | profile (h : Handle)
  | sector (n : SectorNo)
  | sensor (n : ChannelNo)
  deriving DecidableEq, Repr

structure Hit where
  record : RecordName
  access : Access
  stopped : Bool
  repeated : Bool
  deriving DecidableEq, Repr

structure Watch where
  config : WatchConfig
  lastHit : Option Hit
  deriving DecidableEq, Repr

/-! ### Notices (R69, R163) -/

inductive ReferenceKind | bind | bindOverride | base | lead | crossStand
  deriving DecidableEq, Repr

structure PolicyDetail where
  referrer : RecordName
  referred : RecordName
  kind : ReferenceKind
  deriving DecidableEq, Repr

inductive SensorFaultDetail
  | channel (n : ChannelNo)
  | sector (n : SectorNo)
  deriving DecidableEq, Repr

inductive SaveOutcome | written | failed
  deriving DecidableEq, Repr

inductive LoadOutcome | loaded | invalid
  deriving DecidableEq, Repr

inductive NoticeKind
  | resolveFault | policy | dependencyOverflow | sensorFault | watch0 | watch1 | override
  | compactionDone | saveDone | loadDone | imageInvalid
  deriving DecidableEq, Repr

/-- An occurrence that a block reports (R163). -/
inductive Notice
  | resolveFault (feed : FeedNo) (reason : FaultReason)
  | policy (detail : PolicyDetail)
  | dependencyOverflow (sector : SectorNo)
  | sensorFault (detail : SensorFaultDetail)
  | watch (n : WatchNo)
  | override (state : OverrideState) (source : OverrideSource)
  | compactionDone
  | saveDone (outcome : SaveOutcome)
  | loadDone (outcome : LoadOutcome)
  | imageInvalid
  deriving DecidableEq, Repr

/-- The notice set (R163): a kind with a detail is flagged exactly while its detail is present. -/
structure Notices where
  resolveFault : Option (FeedNo × FaultReason)
  policy : Option PolicyDetail
  dependencyOverflow : Option SectorNo
  sensorFault : Option SensorFaultDetail
  watch0 : Bool
  watch1 : Bool
  override : Option (OverrideState × OverrideSource)
  compactionDone : Bool
  saveDone : Option SaveOutcome
  loadDone : Option LoadOutcome
  imageInvalid : Bool
  deriving DecidableEq, Repr

/-! ### Control Port (R149, R161) -/

/-- Reply status codes (R161). -/
inductive Status
  | ok | started | notReady | busy | badFrame | badCommand | badValue | outOfRange
  | stale | free | retiring | noHandle
  | inUse | hasFollowers | policyRefused | crossStand | cycle | tooDeep | tooManySections | noReference
  | noSpace | fragmented | locked | watched | saving | loading
  deriving DecidableEq, Repr

/-- What a request is answered: status and body. -/
structure Answer where
  status : Status
  body : List Byte
  deriving DecidableEq, Repr

/-- A reply in the slot: its frame is made of these (R151). -/
structure Reply where
  status : Status
  tag : Byte
  body : List Byte
  deriving DecidableEq, Repr

/-- The rest of a SET of profile fields that waits at a profile in move (R160): the handle numbers still
to take, the generation that names the first of them (its own present one when absent), and how many
records were changed before. -/
structure SetJob where
  numbers : List Nat
  gen : Option Nat
  field : Nat
  value : Int
  done : Nat
  deriving DecidableEq, Repr

/-- A content edit that waits for the move of its profile (R61). -/
inductive WaitingEdit
  | sections (items : EditSectionsItems)
  | base (items : BaseItems)
  | set (job : SetJob)
  deriving DecidableEq, Repr

/-- Where the request in progress stands: processed, its reply not yet placed, or waiting (R150). -/
inductive Work
  | answered (a : Answer)
  | waiting (e : WaitingEdit)
  deriving DecidableEq, Repr

structure InProgress where
  tag : Byte
  work : Work
  deriving DecidableEq, Repr

/-- A transaction between chip-select activation and release: the reply that MISO carries, and whether
the MOSI bytes are judged at release (R149, R150). -/
structure Transaction where
  miso : Reply
  judged : Bool
  deriving DecidableEq, Repr

structure Port where
  slot : Option Reply
  inProgress : Option InProgress
  transaction : Option Transaction
  cursor : RecordName
  deriving DecidableEq, Repr

/-! ### Image Interface (R165) -/

/-- The saved fields of a feed (R165). -/
structure SavedFeed where
  label : BitVec 16
  tier : Tier
  sector : SectorNo
  bus : Fin 8
  binding : Option Handle
  overrideBinding : Option Handle
  overrideAction : OverrideAction
  lead : Option FeedNo
  excessPath : Int
  deriving DecidableEq, Repr

structure SavedProfile where
  handle : Handle
  retiring : Bool
  record : ProfileRecord
  deriving DecidableEq, Repr

/-- The record set of an image whose fields lie in their ranges (R165, R168 test 2). -/
structure Image where
  feeds : Table SavedFeed 96
  profiles : List SavedProfile
  sectors : Table SectorConfig 16
  channels : Table ChannelConfig 8
  policy : Table PolicyOutcome 16
  crossStand : PolicyOutcome
  noticeMask : NoticeSet
  deriving DecidableEq, Repr

inductive LoadPhase
  | reading
  /-- A valid image waits for the override to clear (R142). -/
  | held (image : Image)
  deriving DecidableEq, Repr

/-- The status of the Image Interface (R165); WAITING counts the block boundaries waited. -/
inductive ImageStatus
  | idle
  | waiting (blocks : Nat)
  | saving
  | loading (phase : LoadPhase)
  deriving DecidableEq, Repr

/-! ### Pins (section 10.9) -/

structure Pins where
  resetLow : Bool
  alarm : Bool
  startup : StartupPin
  deriving DecidableEq, Repr

/-! ### The block -/

structure State where
  feeds : Table FeedEntry 96
  handles : Table HandleEntry 255
  pool : Pool
  /-- The tier policy, row by row (R67, R70). -/
  policy : Table PolicyOutcome 16
  crossStand : PolicyOutcome
  deps : Dependencies
  resolver : Resolver
  channels : Table Channel 8
  sectors : Table Sector 16
  render : Table FeedRender 96
  holds : Table SectorHold 16
  override : Override
  watches : Table Watch 2
  port : Port
  notices : Notices
  noticeMask : NoticeSet
  image : ImageStatus
  /-- What the external flash holds; it is no block of the part. -/
  flash : FlashContents
  pins : Pins
  /-- The commands that wait, first in, first out. -/
  pending : List Instr
  deriving DecidableEq, Repr

/-! ### Reset values -/

/-- R2. -/
def FeedEntry.reset : FeedEntry where
  label := 0
  tier := .programme
  sector := 0
  bus := 0
  binding := none
  overrideBinding := none
  overrideAction := .keep
  lead := none
  excessPath := 0
  geomDelay := none
  revision := 0
  resolution := .new
  faultReason := none

/-- R31. -/
def HandleEntry.reset : HandleEntry where
  state := .free
  gen := 0
  extent := none
  refCount := 0
  inMove := false
  record := none

/-- R51, R56. -/
def Pool.reset : Pool where
  free := [⟨0, Config.poolWords⟩]
  compaction := .idle
  move := none

/-- The default tier policy (R67), rows and columns SAFETY, PROGRAMME, AMBIENT, TEST. -/
def defaultPolicy : Table PolicyOutcome 16 :=
  ⟨[.allow, .notify, .refuse, .refuse,
    .allow, .allow, .allow, .notify,
    .allow, .allow, .allow, .notify,
    .allow, .allow, .allow, .allow], rfl⟩

/-- R75. -/
def Dependencies.reset : Dependencies where
  entries := Table.fill 96 none
  overflow := Table.fill 16 false

/-- R83. -/
def Resolver.reset : Resolver where
  queue := []
  inFlight := none

/-- R100: the positive input of channel n is AIN n. -/
def Channel.reset (n : ChannelNo) : Channel where
  config :=
    { enabled := false
      positive := .ain n
      negative := .ground
      gain := 1
      offsetTrim := 0
      probe := .bridge
      interval := 2
      sector := none }
  state := .off
  window := []
  average := none
  lastCode := none
  reading := none
  toNext := 0

/-- R107. -/
def Sector.reset : Sector where
  config :=
    { stand := 0
      mode := .fixed
      fixedTemp := 200
      hysteresis := 20
      settle := 30
      glide := 384 }
  speed := 34342
  epoch := 0
  status := .fixed
  sensedTemp := none
  sinceChange := none
  blocks := 0
  awaitingFix := false
  deferred := false

/-- R117. -/
def FeedRender.reset : FeedRender where
  active := none
  pending := none
  standby := none
  standbyInPlay := none
  silenceOrder := false
  takeStopped := false
  source := .normal
  transition := none

/-- R129. -/
def SectorHold.reset : SectorHold := ⟨false, false⟩

/-- R133. -/
def Override.reset : Override where
  state := .clear
  alarmActive := false
  portActive := false
  applied := .clear

/-- R143. -/
def Watch.reset : Watch where
  config :=
    { enabled := false
      cls := .feed
      base := 0
      span := 1
      accesses := ⟨false, true, false, false⟩
      filter := .any
      action := .notify }
  lastHit := none

/-- While RESET is low there is no reply, request or transaction; the cursor is FEED 0 (R149, R155). -/
def Port.reset : Port where
  slot := none
  inProgress := none
  transaction := none
  cursor := .feed 0

/-- R163. -/
def Notices.reset : Notices where
  resolveFault := none
  policy := none
  dependencyOverflow := none
  sensorFault := none
  watch0 := false
  watch1 := false
  override := none
  compactionDone := false
  saveDone := none
  loadDone := none
  imageInvalid := false

/-- The mask that holds all eleven kinds (R164). -/
def fullMask : NoticeSet := BitVec.allOnes 11

/-- The block in cold start: every block at its cold-start values, RESET low (R170).
The ALARM level, the STARTUP strap and the flash are outside the part (log 3). -/
def State.reset : State where
  feeds := Table.fill 96 FeedEntry.reset
  handles := Table.fill 255 HandleEntry.reset
  pool := Pool.reset
  policy := defaultPolicy
  crossStand := .notify
  deps := Dependencies.reset
  resolver := Resolver.reset
  channels := Table.tab Channel.reset
  sectors := Table.fill 16 Sector.reset
  render := Table.fill 96 FeedRender.reset
  holds := Table.fill 16 SectorHold.reset
  override := Override.reset
  watches := Table.fill 2 Watch.reset
  port := Port.reset
  notices := Notices.reset
  noticeMask := fullMask
  image := .idle
  flash := .noImage
  pins := ⟨true, false, .auto⟩
  pending := []

/-- The ways the block stops by itself. The manual gives none: a bad request is answered, a failed resolution or
reading is a state, so no constructor stands here and no step faults. -/
inductive Fault
  deriving DecidableEq, Repr

/-- The commands the model turns away. -/
inductive Refusal
  /-- Raised by Dispatch for a command that has no meaning yet; none is left. Stopping is safe: nothing can be
  proved of a run that goes on. -/
  | notModelled (mnemonic : String)
  deriving DecidableEq, Repr

end Sys2Proof.Machine
end

