-- ==== Sys2Proof/Machine/Flags.lean ====
section
/-! DEFINITION. The notice flags and the NOTICE line, the override's lock, and the marks of long operations. -/

namespace Sys2Proof.Machine

/-! ### Notices (R163, R164) -/

/-- All kinds, in the order of R163. -/
def NoticeKind.all : List NoticeKind :=
  [.resolveFault, .policy, .dependencyOverflow, .sensorFault, .watch0, .watch1, .override,
   .compactionDone, .saveDone, .loadDone, .imageInvalid]

def NoticeKind.code : NoticeKind → Nat
  | .resolveFault => 0 | .policy => 1 | .dependencyOverflow => 2 | .sensorFault => 3
  | .watch0 => 4 | .watch1 => 5 | .override => 6 | .compactionDone => 7
  | .saveDone => 8 | .loadDone => 9 | .imageInvalid => 10

/-- Whether a set names a kind. -/
def hasKind (set : NoticeSet) (k : NoticeKind) : Bool := set.getLsbD k.code

/-- A detail keeps the first occurrence since its flag was clear (R163). -/
def keepFirst {α : Type} (held : Option α) (occurred : α) : Option α :=
  match held with
  | some a => some a
  | none => some occurred

/-- Raising a notice sets its flag; a flag already set keeps its detail (R163). -/
def Notices.raise (n : Notices) : Notice → Notices
  | .resolveFault f r => { n with resolveFault := keepFirst n.resolveFault (f, r) }
  | .policy d => { n with policy := keepFirst n.policy d }
  | .dependencyOverflow s => { n with dependencyOverflow := keepFirst n.dependencyOverflow s }
  | .sensorFault d => { n with sensorFault := keepFirst n.sensorFault d }
  | .watch w => if w = 0 then { n with watch0 := true } else { n with watch1 := true }
  | .override st src => { n with override := keepFirst n.override (st, src) }
  | .compactionDone => { n with compactionDone := true }
  | .saveDone o => { n with saveDone := keepFirst n.saveDone o }
  | .loadDone o => { n with loadDone := keepFirst n.loadDone o }
  | .imageInvalid => { n with imageInvalid := true }

/-- The flag of a kind. -/
def Notices.flagged (n : Notices) : NoticeKind → Bool
  | .resolveFault => n.resolveFault.isSome
  | .policy => n.policy.isSome
  | .dependencyOverflow => n.dependencyOverflow.isSome
  | .sensorFault => n.sensorFault.isSome
  | .watch0 => n.watch0
  | .watch1 => n.watch1
  | .override => n.override.isSome
  | .compactionDone => n.compactionDone
  | .saveDone => n.saveDone.isSome
  | .loadDone => n.loadDone.isSome
  | .imageInvalid => n.imageInvalid

/-- The set of the given kinds. -/
def setOfKinds (kinds : List NoticeKind) : NoticeSet :=
  kinds.foldl (fun set k => set ||| (1#11 <<< k.code)) 0#11

def Notices.flags (n : Notices) : NoticeSet := setOfKinds (NoticeKind.all.filter n.flagged)

/-- Clears the flags, and with them the details, of the kinds of a set (R164). -/
def Notices.clear (n : Notices) (set : NoticeSet) : Notices where
  resolveFault := if hasKind set .resolveFault then none else n.resolveFault
  policy := if hasKind set .policy then none else n.policy
  dependencyOverflow := if hasKind set .dependencyOverflow then none else n.dependencyOverflow
  sensorFault := if hasKind set .sensorFault then none else n.sensorFault
  watch0 := !hasKind set .watch0 && n.watch0
  watch1 := !hasKind set .watch1 && n.watch1
  override := if hasKind set .override then none else n.override
  compactionDone := !hasKind set .compactionDone && n.compactionDone
  saveDone := if hasKind set .saveDone then none else n.saveDone
  loadDone := if hasKind set .loadDone then none else n.loadDone
  imageInvalid := !hasKind set .imageInvalid && n.imageInvalid

def State.raise (s : State) (occurred : Notice) : State :=
  { s with notices := s.notices.raise occurred }

/-- Whether the NOTICE line is asserted: some flagged kind is in the mask, and RESET is not low (R164). -/
def State.noticeLine (s : State) : Bool :=
  !s.pins.resetLow && NoticeKind.all.any fun k => s.notices.flagged k && hasKind s.noticeMask k

/-! ### The override (R133, R140) -/

/-- The state that the sources give: ENGAGED while either is active (R133). -/
def Override.fromSources (o : Override) : OverrideState :=
  if o.alarmActive || o.portActive then .engaged else .clear

/-- The sources as changed, the state recomputed in the same step, and the notice its change raises (R133). -/
def State.changeSources (s : State) (cause : OverrideSource) (o : Override) : State :=
  let o' := { o with state := o.fromSources }
  let s' := { s with override := o' }
  if o'.state = s.override.state then s' else s'.raise (.override o'.state cause)

/-- The locks hold while the state or the applied state is ENGAGED (R140). -/
def State.locked (s : State) : Bool :=
  s.override.state = .engaged || s.override.applied = .engaged

/-! ### Long operations (R10, R35, R165, R171) -/

/-- The refusal of a change request while a save or a load is in flight. -/
def State.longOperation (s : State) : Option Status :=
  match s.image with
  | .saving => some .saving
  | .loading _ => some .loading
  | .idle | .waiting _ => none

/-- A change request taken during the start-up wait ends it without a load (R171). -/
def State.endWait (s : State) : State :=
  match s.image with
  | .waiting _ => { s with image := .idle }
  | .idle | .saving | .loading _ => s

/-- One test of a request: the reply on failure. -/
def require (holds : Bool) (onFailure : Status) : Except Status Unit :=
  if holds then .ok () else .error onFailure

/-- The SAVING and LOADING tests (R10, R35). -/
def State.requireNoLongOperation (s : State) : Except Status Unit :=
  match s.longOperation with
  | some st => .error st
  | none => .ok ()

end Sys2Proof.Machine
end

