-- ==== Sys2Proof/Machine/Ops.lean ====
section
/-! DEFINITION. The named operations over the records: reading and replacing a record, lead chains, queuing a feed,
the free extent list, handles and their counts, compaction moves, the Dependency Pool, composed profiles. -/

namespace Sys2Proof.Machine

/-! ### One record of a table -/

def State.feed (s : State) (f : FeedNo) : FeedEntry := s.feeds.get f

def State.setFeed (s : State) (f : FeedNo) (e : FeedEntry) : State := { s with feeds := s.feeds.upd f e }

def State.handle (s : State) (h : HandleIx) : HandleEntry := s.handles.get h

def State.setHandle (s : State) (h : HandleIx) (e : HandleEntry) : State :=
  { s with handles := s.handles.upd h e }

def State.sector (s : State) (n : SectorNo) : Sector := s.sectors.get n

def State.setSector (s : State) (n : SectorNo) (e : Sector) : State := { s with sectors := s.sectors.upd n e }

def State.channel (s : State) (n : ChannelNo) : Channel := s.channels.get n

def State.setChannel (s : State) (n : ChannelNo) (c : Channel) : State :=
  { s with channels := s.channels.upd n c }

def State.renderOf (s : State) (f : FeedNo) : FeedRender := s.render.get f

def State.setRender (s : State) (f : FeedNo) (r : FeedRender) : State := { s with render := s.render.upd f r }

def allFeeds : List FeedNo := List.finRange 96

def allHandles : List HandleIx := List.finRange 255

def allSectors : List SectorNo := List.finRange 16

def allChannels : List ChannelNo := List.finRange 8

/-- The handle number, 1-255 (R31). -/
def handleNumber (h : HandleIx) : Nat := h.val + 1

/-- The place of a handle number, when there is one. -/
def handleIx (number : Nat) : Option HandleIx :=
  if h : 1 ≤ number ∧ number ≤ 255 then some ⟨number - 1, by omega⟩ else none

/-- A handle at its present generation. -/
def State.currentHandle (s : State) (h : HandleIx) : Handle := ⟨h, (s.handle h).gen⟩

/-! ### Lead chains (R1, R11) -/

/-- The followers of a feed, in feed order (R1). -/
def followersOf (lead : FeedNo → Option FeedNo) (f : FeedNo) : List FeedNo :=
  allFeeds.filter fun g => lead g = some f

/-- The feeds above `f`, nearest first, as far as `fuel` links (R11). -/
def chainAbove (lead : FeedNo → Option FeedNo) : Nat → FeedNo → List FeedNo
  | 0, _ => []
  | fuel + 1, f =>
    match lead f with
    | none => []
    | some l => l :: chainAbove lead fuel l

/-- The links of the longest chain of followers below `f`, as far as `fuel` links (R11). -/
def heightWithin (lead : FeedNo → Option FeedNo) : Nat → FeedNo → Nat
  | 0, _ => 0
  | fuel + 1, f => (followersOf lead f).foldl (fun h g => max h (heightWithin lead fuel g + 1)) 0

def State.leadOf (s : State) (f : FeedNo) : Option FeedNo := (s.feed f).lead

/-- Depth (R11); no chain without a cycle has more than 95 links. -/
def State.depth (s : State) (f : FeedNo) : Nat := (chainAbove s.leadOf 96 f).length

def State.height (s : State) (f : FeedNo) : Nat := heightWithin s.leadOf 96 f

def State.hasFollowers (s : State) (f : FeedNo) : Bool := !(followersOf s.leadOf f).isEmpty

/-! ### Queuing (R84) -/

def appendOnce (q : List FeedNo) (f : FeedNo) : List FeedNo := if f ∈ q then q else q ++ [f]

/-- Queuing a feed (R84). -/
def State.queueFeed (s : State) (f : FeedNo) : State :=
  let e := s.feed f
  { s with
    feeds := s.feeds.upd f { e with revision := e.revision + 1, resolution := .queued, faultReason := none }
    resolver := { s.resolver with queue := appendOnce s.resolver.queue f } }

/-- Queuing several feeds, in the order given (R85). -/
def State.queueFeeds (s : State) (fs : List FeedNo) : State := fs.foldl State.queueFeed s

/-! ### The free extent list (R51 to R55) -/

/-- First-fit allocation of `n` words: the extent and the list after it (R53). -/
def firstFit (n : Nat) : List Extent → Option (Extent × List Extent)
  | [] => none
  | e :: es =>
    if n ≤ e.len then
      some (⟨e.offset, n⟩, if e.len = n then es else ⟨e.offset + n, e.len - n⟩ :: es)
    else
      (firstFit n es).map fun (x, rest) => (x, e :: rest)

/-- The free words (R50). -/
def freeWords (free : List Extent) : Nat := (free.map Extent.len).sum

/-- Returning an extent: inserted in address order and merged with its neighbours (R52). -/
def giveBack (x : Extent) : List Extent → List Extent
  | [] => [x]
  | e :: es =>
    if x.offset + x.len = e.offset then ⟨x.offset, x.len + e.len⟩ :: es
    else if x.offset < e.offset then x :: e :: es
    else if e.offset + e.len = x.offset then
      match es with
      | [] => [⟨e.offset, e.len + x.len⟩]
      | n :: ns =>
        if x.offset + x.len = n.offset then ⟨e.offset, e.len + x.len + n.len⟩ :: ns
        else ⟨e.offset, e.len + x.len⟩ :: n :: ns
    else e :: giveBack x es

/-- The allocation of a new record, with the replies of its failure (R53). -/
def allocate (n : Nat) (free : List Extent) : Except Status (Extent × List Extent) :=
  match firstFit n free with
  | some r => .ok r
  | none => .error (if freeWords free < n then .noSpace else .fragmented)

/-- The first `k` words of the free extent that begins at `offset`, when it has that many: the list after. -/
def takeAt (offset k : Nat) : List Extent → Option (List Extent)
  | [] => none
  | e :: es =>
    if e.offset = offset then
      if k ≤ e.len then some (if e.len = k then es else ⟨e.offset + k, e.len - k⟩ :: es) else none
    else (takeAt offset k es).map fun rest => e :: rest

/-- The resize of a record from extent `x` to `n` words: its extent and the free list after (R54, R55). -/
def resize (x : Extent) (n : Nat) (free : List Extent) : Except Status (Extent × List Extent) :=
  if n ≤ x.len then
    .ok (⟨x.offset, n⟩, if n = x.len then free else giveBack ⟨x.offset + n, x.len - n⟩ free)
  else
    match takeAt (x.offset + x.len) (n - x.len) free with
    | some rest => .ok (⟨x.offset, n⟩, rest)
    | none =>
      match firstFit n free with
      | some (y, rest) => .ok (y, giveBack x rest)
      | none => .error (if freeWords free < n - x.len then .noSpace else .fragmented)

/-- Words of a record with this many own sections (R25). -/
def recordWords (sections : Nat) : Nat := Config.headerWords + Config.sectionWords * sections

/-! ### Compaction moves (R56 to R62) -/

/-- The handle whose extent begins at `offset`. -/
def State.handleAt (s : State) (offset : Nat) : Option HandleIx :=
  allHandles.find? fun h => ((s.handle h).extent.map Extent.offset) = some offset

/-- The lowest free extent with a record directly above it, and that record's handle (R58). -/
def State.chooseMove (s : State) : Option (Extent × HandleIx) :=
  s.pool.free.findSome? fun e => (s.handleAt (e.offset + e.len)).map fun h => (e, h)

/-- The begin of a move of `h` into the free extent `e` (R58). -/
def State.beginMove (s : State) (e : Extent) (h : HandleIx) : State :=
  let entry := s.handle h
  let len := (entry.extent.map Extent.len).getD 0
  { s with
    handles := s.handles.upd h { entry with extent := some ⟨e.offset, e.len + len⟩, inMove := true }
    pool :=
      { free := s.pool.free.filter (fun x => x.offset != e.offset)
        compaction := s.pool.compaction
        move := some ⟨h, e.offset, len, e.len + len⟩ } }

/-- Compaction looks for its next move: it begins, or compaction completes (R57, R60, R62). -/
def State.nextMove (s : State) : State :=
  match s.chooseMove with
  | some (e, h) => ({ s with pool := { s.pool with compaction := .running } }).beginMove e h
  | none => ({ s with pool := { s.pool with compaction := .idle } }).raise .compactionDone

/-- What follows in the same step when a request has freed the handle in move and so abandoned the move (R62). -/
def State.afterAbandon (s : State) : State :=
  match s.pool.move, s.pool.compaction with
  | some _, _ => s
  | none, .idle => s
  | none, .running => s.nextMove
  | none, .stopping => { s with pool := { s.pool with compaction := .idle } }

/-! ### Handles and counts (R33, R34) -/

/-- Freeing one handle, its base left aside: FREE, next generation, its extent (the whole span while in move) back
on the free list, and a move of it abandoned (R34, R62). -/
def State.freeOne (s : State) (h : HandleIx) : State :=
  let e := s.handle h
  { s with
    handles := s.handles.upd h
      { state := .free, gen := e.gen + 1, extent := none, refCount := 0, inMove := false, record := none }
    pool :=
      { s.pool with
        free := match e.extent with
          | some x => giveBack x s.pool.free
          | none => s.pool.free
        move := if e.inMove then none else s.pool.move } }

def State.raiseCount (s : State) (h : HandleIx) : State :=
  let e := s.handle h
  s.setHandle h { e with refCount := e.refCount + 1 }

def State.lowerCount (s : State) (h : HandleIx) : State :=
  let e := s.handle h
  s.setHandle h { e with refCount := e.refCount - 1 }

/-- Whether a handle is freed as its count stands (R33). -/
def HandleEntry.exhausted (e : HandleEntry) : Bool := e.state = .retiring && e.refCount = 0

/-- A base loses one reference; it has no base itself (R28, R34). -/
def State.dropBase (s : State) (b : HandleIx) : State :=
  let s := s.lowerCount b
  if (s.handle b).exhausted then s.freeOne b else s

/-- The base that a handle's record names. -/
def State.baseOf (s : State) (h : HandleIx) : Option Handle := (s.handle h).record.bind ProfileRecord.base

/-- Freeing a handle, with the cascade to its base (R34). -/
def State.freeHandle (s : State) (h : HandleIx) : State :=
  let s' := s.freeOne h
  match s.baseOf h with
  | some b => s'.dropBase b.ix
  | none => s'

/-- A reference to `h` is removed: its count falls, and a RETIRING handle whose count reaches 0 is freed (R33). -/
def State.dropReference (s : State) (h : HandleIx) : State :=
  let s := s.lowerCount h
  if (s.handle h).exhausted then s.freeHandle h else s

/-- Removing a reference that may be absent. -/
def State.dropOptional (s : State) : Option Handle → State
  | some h => s.dropReference h.ix
  | none => s

/-- A reference to `new` takes the place of `old`: the count rises before the other falls (R33). -/
def State.replaceReference (s : State) (old : Option Handle) (new : HandleIx) : State :=
  (s.raiseCount new).dropOptional old

/-- The profiles that name `h` as base (R28). -/
def State.derivedOf (s : State) (h : HandleIx) : List HandleIx :=
  allHandles.filter fun d => (s.baseOf d).map Handle.ix = some h

def State.isBase (s : State) (h : HandleIx) : Bool := !(s.derivedOf h).isEmpty

/-- The number of own sections of a profile. -/
def State.ownCount (s : State) (h : HandleIx) : Nat :=
  match (s.handle h).record with
  | some r => r.sections.length
  | none => 0

/-- Whether a binding reaches profile `h`: it names `h`, or a profile that names `h` as base (R36). -/
def State.reaches (s : State) (h : HandleIx) : Option Handle → Bool
  | some b => b.ix = h || (s.baseOf b.ix).map Handle.ix = some h
  | none => false

/-- The feeds a content edit of `h` queues, in feed order (R36). -/
def State.feedsReaching (s : State) (h : HandleIx) : List FeedNo :=
  allFeeds.filter fun f => s.reaches h (s.feed f).binding || s.reaches h (s.feed f).overrideBinding

/-- Whether `h` is the override binding of some feed, or the base of such a profile (R35, R140). -/
def State.isOverrideProfile (s : State) (h : HandleIx) : Bool :=
  allFeeds.any fun f => s.reaches h (s.feed f).overrideBinding

/-- Writes back a profile's record. -/
def State.setRecord (s : State) (h : HandleIx) (r : ProfileRecord) : State :=
  let e := s.handle h
  s.setHandle h { e with record := some r }

/-! ### Composed profiles (R29) -/

/-- `i` held within `lo .. hi`. -/
def clampInt (lo hi i : Int) : Int := if i < lo then lo else if hi < i then hi else i

structure Composed where
  sections : List EqSection
  latencyTrim : Int
  gain : Int
  polarity : Polarity
  deriving DecidableEq, Repr

/-- A profile with its base, when it has one (R29). -/
def composeWith (p : ProfileRecord) : Option ProfileRecord → Composed
  | none => ⟨p.sections, p.latencyTrim.getD 0, clampInt (-600) 120 p.gainTrim, p.polarity⟩
  | some b =>
    ⟨b.sections ++ p.sections, (p.latencyTrim.or b.latencyTrim).getD 0,
      clampInt (-600) 120 (p.gainTrim + b.gainTrim), p.polarity⟩

/-- The composed profile of a handle, read from the records as they stand. -/
def State.composed (s : State) (h : HandleIx) : Option Composed :=
  (s.handle h).record.map fun p => composeWith p (p.base.bind fun b => (s.handle b.ix).record)

/-! ### Dependency Pool (R75 to R82) -/

/-- The entries the pool holds. -/
def Dependencies.count (d : Dependencies) : Nat :=
  (allFeeds.filter fun f => (d.entries.get f).isSome).length

def Dependencies.remove (d : Dependencies) (f : FeedNo) : Dependencies :=
  { d with entries := d.entries.upd f none }

def Dependencies.mark (d : Dependencies) (n : SectorNo) : Dependencies :=
  { d with overflow := d.overflow.upd n true }

/-- An entry is recorded where there is room; else the lead's sector is marked (R76, R77). -/
def Dependencies.record (d : Dependencies) (leadSector : SectorNo) (f : FeedNo) : Dependencies :=
  if d.count < Config.dependencyCapacity then { d with entries := d.entries.upd f (some leadSector) }
  else d.mark leadSector

/-- The sector of a feed's lead, when it lies in another sector than the feed. -/
def State.crossSectorLead (s : State) (f : FeedNo) : Option SectorNo :=
  match (s.feed f).lead with
  | some l => if (s.feed l).sector = (s.feed f).sector then none else some (s.feed l).sector
  | none => none

/-- The feeds with a cross-sector lead, in feed order, with their lead sectors. -/
def State.crossSectorFollowers (s : State) : List (FeedNo × SectorNo) :=
  allFeeds.filterMap fun f => (s.crossSectorLead f).map fun n => (f, n)

/-- The pool rebuilt from the Feed Table: the first 48 cross-sector followers in feed order are recorded, and the
lead sectors of the others marked (R82, R169). -/
def State.rebuiltDependencies (s : State) : Dependencies :=
  s.crossSectorFollowers.foldl (fun d fn => d.record fn.2 fn.1) Dependencies.reset

/-- The lead sector of the first follower that a rebuild leaves unrecorded (R82). -/
def State.firstUnrecorded (s : State) : Option SectorNo :=
  (s.crossSectorFollowers[Config.dependencyCapacity]?).map Prod.snd

/-- The rebuild as one step, with its notice (R82). -/
def State.rebuildDependencies (s : State) : State :=
  let s' := { s with deps := s.rebuiltDependencies }
  match s.firstUnrecorded with
  | some n => s'.raise (.dependencyOverflow n)
  | none => s'

/-! ### The tier policy (R67, R68) -/

def policyIx (referrer referred : Tier) : Fin 16 :=
  ⟨4 * referrer.code + referred.code, by cases referrer <;> cases referred <;> decide⟩

/-- The outcome for a referrer tier and a referred tier (R67). -/
def State.policyFor (s : State) (referrer referred : Tier) : PolicyOutcome :=
  s.policy.get (policyIx referrer referred)

/-- The outcome for a referrer tier and a profile's tier. -/
def State.policyToProfile (s : State) (referrer : Tier) (h : HandleIx) : PolicyOutcome :=
  match (s.handle h).record with
  | some p => s.policyFor referrer p.tier
  | none => .allow

/-- A NOTIFY outcome of a taken request raises the POLICY notice (R69). -/
def State.notifyPolicy (s : State) (outcome : PolicyOutcome) (d : PolicyDetail) : State :=
  if outcome = .notify then s.raise (.policy d) else s

/-! ### Watches (R144, R145) -/

/-- The number a watch compares, with its class; sectors and channels are not watched. -/
def RecordName.watchNumber : RecordName → Option (WatchClass × Nat)
  | .feed f => some (.feed, f.val)
  | .profile h => some (.profile, handleNumber h.ix)
  | .sector _ => none
  | .sensor _ => none

end Sys2Proof.Machine

namespace Sys2Proof

/-- First number of the block of a watch (R144). -/
def WatchConfig.blockStart (w : WatchConfig) : Nat := w.base - w.base % w.span

def WatchConfig.blockEnd (w : WatchConfig) : Nat := w.blockStart + w.span - 1

def AccessSet.has (a : AccessSet) : Access → Bool
  | .portLook => a.portLook
  | .portChange => a.portChange
  | .autoChange => a.autoChange
  | .take => a.take

/-- Accesses made at the port (R144). -/
def Access.isPort : Access → Bool
  | .portLook | .portChange => true
  | .autoChange | .take => false

/-- Whether a watch covers a record (R144). -/
def WatchConfig.covers (w : WatchConfig) (r : Machine.RecordName) : Bool :=
  w.enabled &&
  match r.watchNumber with
  | some (cls, n) => w.cls = cls && w.blockStart ≤ n && n ≤ w.blockEnd
  | none => false

/-- Whether a watch observes an access (R144). -/
def WatchConfig.observes (w : WatchConfig) (a : Access) : Bool :=
  w.accesses.has a && (a.isPort || w.filter = .any)

def WatchConfig.hits (w : WatchConfig) (a : Access) (r : Machine.RecordName) : Bool := w.covers r && w.observes a

end Sys2Proof

namespace Sys2Proof.Machine

/-- Whether an access is stopped: some watch that hits has the action STOP (R145). -/
def State.stops (s : State) (a : Access) (r : RecordName) : Bool :=
  (List.finRange 2).any fun i =>
    let w := (s.watches.get i).config
    w.hits a r && w.action = .stop

/-- The hit that a watch records (R145). -/
def Watch.recordHit (w : Watch) (r : RecordName) (a : Access) (stopped : Bool) : Watch :=
  { w with lastHit := some ⟨r, a, stopped, w.lastHit.isSome⟩ }

/-- The test of one watch: on a hit it records it and raises its notice. -/
def State.testWatch (a : Access) (r : RecordName) (stopped : Bool) (s : State) (i : WatchNo) : State :=
  let w := s.watches.get i
  if w.config.hits a r then
    ({ s with watches := s.watches.upd i (w.recordHit r a stopped) }).raise (.watch i)
  else s

/-- The watch test of an access: every hit recorded, and whether the access is stopped (R145). -/
def State.watchTest (s : State) (a : Access) (r : RecordName) : State × Bool :=
  let stopped := s.stops a r
  ((List.finRange 2).foldl (State.testWatch a r stopped) s, stopped)

/-! ### Taking a change request (R10, R35, R171) -/

/-- The end of the order of tests of R10 and R35: the first failure gives the reply; else the watches are tested, and
an unstopped request is taken, its effect and what it brings about in one step. -/
def State.takeChange {α : Type} (s : State) (tested : Except Status α) (record : α → RecordName)
    (effect : α → State → State) : State × Except Status α :=
  match tested with
  | .error st => (s, .error st)
  | .ok a =>
    let (s', stopped) := s.watchTest .portChange (record a)
    if stopped then (s', .error .watched) else ((effect a s').afterAbandon.endWait, .ok a)

end Sys2Proof.Machine
end

