-- ==== Sys2Proof/Machine/Operands.lean ====
section
/-! DEFINITION. Operands of requests: references and the cursor, names of profiles, ranges of records, and the
content and values that requests supply. -/

namespace Sys2Proof.Machine

/-! ### References (R153, R155, R156) -/

/-- What a reference yields, before the class and the range are tested. -/
structure Target where
  cls : RecordClass
  number : Nat
  gen : Nat
  deriving DecidableEq, Repr

/-- What a record's name yields as a reference. Only a profile's generation is read (R153): the 0 of the other classes is
tested nowhere and sent in no reply (log 13). -/
def RecordName.target : RecordName → Target
  | .feed f => ⟨.feed, f.val, 0⟩
  | .profile h => ⟨.profile, handleNumber h.ix, h.gen.val⟩
  | .sector n => ⟨.sector, n.val, 0⟩
  | .sensor n => ⟨.sensor, n.val, 0⟩

/-- Whether a number names a record of a class: feeds 0-95, handles 1-255, sectors 0-15, sensors 0-7. -/
def inClass (cls : RecordClass) (n : Nat) : Bool :=
  match cls with
  | .feed => n ≤ 95
  | .profile => 1 ≤ n && n ≤ 255
  | .sector => n ≤ 15
  | .sensor => n ≤ 7

/-- The present generation of a handle number; 0 for the other classes. -/
def State.presentGen (s : State) (cls : RecordClass) (n : Nat) : Nat :=
  match cls with
  | .profile =>
    match handleIx n with
    | some h => (s.handle h).gen.val
    | none => 0
  | .feed | .sector | .sensor => 0

/-- The test of a profile's name (R32). -/
def State.nameHandle (s : State) (number gen : Nat) : Except Status HandleIx :=
  match handleIx number with
  | none => .error .outOfRange
  | some h =>
    if (s.handle h).state = .free then .error .free
    else if (s.handle h).gen.val = gen then .ok h
    else .error .stale

def handleTarget (h : Handle) : Target := ⟨.profile, handleNumber h.ix, h.gen.val⟩

/-- A field that REFERRED follows. -/
def referredTo : Option Target → Except Status Target
  | some t => .ok t
  | none => .error .noReference

/-- What a reference yields against the cursor (R156). -/
def State.resolve (s : State) : RecordRef → Except Status Target
  | .numbered cls number generation => .ok ⟨cls, number, generation⟩
  | .current => .ok s.port.cursor.target
  | .next =>
    let t := s.port.cursor.target
    if inClass t.cls (t.number + 1) then .ok ⟨t.cls, t.number + 1, s.presentGen t.cls (t.number + 1)⟩
    else .error .outOfRange
  | .previous =>
    let t := s.port.cursor.target
    if t.number ≠ 0 && inClass t.cls (t.number - 1) then
      .ok ⟨t.cls, t.number - 1, s.presentGen t.cls (t.number - 1)⟩
    else .error .outOfRange
  | .referred =>
    match s.port.cursor with
    | .feed f => referredTo ((s.feed f).binding.map handleTarget)
    | .profile h => do
      let ix ← s.nameHandle (handleNumber h.ix) h.gen.val
      referredTo ((s.baseOf ix).map handleTarget)
    | .sensor n => referredTo ((s.channel n).config.sector.map fun k => ⟨.sector, k.val, 0⟩)
    | .sector _ => .error .noReference

/-- A yielded class that the request does not accept in that place is no reference (R156). -/
def requireClass (t : Target) (cls : RecordClass) : Except Status Unit := require (t.cls = cls) .noReference

def State.refFeed (s : State) (ref : RecordRef) : Except Status FeedNo := do
  let t ← s.resolve ref
  requireClass t .feed
  if h : t.number < 96 then return ⟨t.number, h⟩ else throw .outOfRange

def State.refSector (s : State) (ref : RecordRef) : Except Status SectorNo := do
  let t ← s.resolve ref
  requireClass t .sector
  if h : t.number < 16 then return ⟨t.number, h⟩ else throw .outOfRange

def State.refSensor (s : State) (ref : RecordRef) : Except Status ChannelNo := do
  let t ← s.resolve ref
  requireClass t .sensor
  if h : t.number < 8 then return ⟨t.number, h⟩ else throw .outOfRange

/-- A profile that a request names (R32). -/
def State.refProfile (s : State) (ref : RecordRef) : Except Status HandleIx := do
  let t ← s.resolve ref
  requireClass t .profile
  s.nameHandle t.number t.gen

/-- The class that a reference would yield, whether or not it yields a record. -/
def State.refClass (s : State) : RecordRef → Option RecordClass
  | .numbered cls _ _ => some cls
  | .current | .next | .previous => some s.port.cursor.target.cls
  | .referred =>
    match s.port.cursor with
    | .feed _ => some .profile
    | .profile _ => some .profile
    | .sensor _ => some .sector
    | .sector _ => none

/-! ### The part of R154's second test that looks at references -/

/-- A numbered reference must be of a class the command accepts in its place (R154). -/
def accepts (cls : RecordClass) : RecordRef → Bool
  | .numbered c _ _ => c = cls
  | .current | .next | .previous | .referred => true

def SensorSetFormed (i : SensorSetItems) : Bool :=
  accepts .sensor i.sensor &&
  (i.enabled.isSome || i.positive.isSome || i.negative.isSome || i.gain.isSome || i.offsetTrim.isSome ||
    i.probe.isSome || i.interval.isSome || i.sector.isSome)

def SectorSetFormed (i : SectorSetItems) : Bool :=
  accepts .sector i.sector &&
  (i.stand.isSome || i.mode.isSome || i.fixedTemp.isSome || i.hysteresis.isSome || i.settle.isSome ||
    i.glide.isSome)

/-- NONE in BASE: number 0 of class PROFILE (R154). -/
def isNoBase : RecordRef → Bool
  | .numbered .profile 0 _ => true
  | _ => false

/-- NONE in LEAD: number 255 of class FEED (R154). -/
def isNoLead : RecordRef → Bool
  | .numbered .feed 255 _ => true
  | _ => false

/-! ### Ranges of records (R157, R160) -/

/-- first, first + step, …, first + (count - 1) × step. -/
def recordNumbers (first count step : Nat) : List Nat :=
  (List.range count).map fun i => first + i * step

def oneToSixteen (n : Nat) : Bool := 1 ≤ n && n ≤ 16

/-! ### Profile content (R25, R26, R27) -/

def inRangeInt (lo hi i : Int) : Bool := lo ≤ i && i ≤ hi

def sectionInRange (e : EqSection) : Bool :=
  20 ≤ e.frequency && e.frequency ≤ 20000 && inRangeInt (-240) 120 e.gain && 30 ≤ e.width && e.width ≤ 1600

def sectionsInRange (es : List EqSection) : Bool := es.length ≤ Config.maxOwn && es.all sectionInRange

def trimInRange : Option Int → Bool
  | none => true
  | some t => inRangeInt 0 7680 t

def gainTrimInRange (g : Int) : Bool := inRangeInt (-600) 120 g

def contentInRange (p : ProfileContent) : Bool :=
  trimInRange p.latencyTrim && gainTrimInRange p.gainTrim && sectionsInRange p.sections

/-! ### Values of SET (R10, R39, R160) -/

/-- A change of one settable field of a feed (R10). -/
inductive FeedChange
  | label (v : BitVec 16)
  | tier (v : Tier)
  | sector (v : SectorNo)
  | bus (v : Fin 8)
  | path (v : Int)
  | action (v : OverrideAction)
  deriving DecidableEq, Repr

/-- A change of one settable field of a profile (R39). -/
inductive ProfileChange
  | label (v : BitVec 16)
  | tier (v : Tier)
  | latencyTrim (v : Option Int)
  | gainTrim (v : Int)
  | polarity (v : Polarity)
  deriving DecidableEq, Repr

def wordOf (v : Int) : Option (BitVec 16) :=
  if inRangeInt 0 65535 v then some (BitVec.ofNat 16 v.toNat) else none

def enumOf {α : Type} (all : List α) (v : Int) : Option α := if 0 ≤ v then all[v.toNat]? else none

def finOf (n : Nat) (v : Int) : Option (Fin n) :=
  if h : 0 ≤ v ∧ v.toNat < n then some ⟨v.toNat, h.2⟩ else none

/-- The feed change that a field and a value name, within the field's range (R10, step 2; R4, R5, R17, R18). -/
def feedChange (field : Nat) (v : Int) : Option FeedChange :=
  match field with
  | 0 => (wordOf v).map .label
  | 1 => (enumOf Tier.all v).map .tier
  | 2 => (finOf 16 v).map .sector
  | 3 => (finOf 8 v).map .bus
  | 4 => if inRangeInt (-250000) 250000 v then some (.path v) else none
  | 5 => (enumOf OverrideAction.all v).map .action
  | _ => none

/-- The profile change that a field and a value name, within the field's range (R27, R39); a latency trim of -1 is
absent (R160). -/
def profileChange (field : Nat) (v : Int) : Option ProfileChange :=
  match field with
  | 0 => (wordOf v).map .label
  | 1 => (enumOf Tier.all v).map .tier
  | 2 => if v = -1 then some (.latencyTrim none)
         else if inRangeInt 0 7680 v then some (.latencyTrim (some v)) else none
  | 3 => if gainTrimInRange v then some (.gainTrim v) else none
  | 4 => (enumOf Polarity.all v).map .polarity
  | _ => none

/-- Latency trim, gain trim and polarity are content (R36). -/
def ProfileChange.isContent : ProfileChange → Bool
  | .label _ | .tier _ => false
  | .latencyTrim _ | .gainTrim _ | .polarity _ => true

end Sys2Proof.Machine
end

