-- ==== Sys2Proof/Machine/Images.lean ====
section
/-! DEFINITION. The bytes of replies: status codes, record images, hits, notices (R151, R153, R157, R158, R161 to R164). -/

namespace Sys2Proof.Machine

/-- The byte of a status code (R161). -/
def Status.code : Status → Nat
  | .ok => 0x00 | .started => 0x01
  | .notReady => 0x10 | .busy => 0x11 | .badFrame => 0x12 | .badCommand => 0x13 | .badValue => 0x14
  | .outOfRange => 0x15
  | .stale => 0x20 | .free => 0x21 | .retiring => 0x22 | .noHandle => 0x23
  | .inUse => 0x30 | .hasFollowers => 0x31 | .policyRefused => 0x32 | .crossStand => 0x33
  | .cycle => 0x34 | .tooDeep => 0x35 | .tooManySections => 0x36 | .noReference => 0x37
  | .noSpace => 0x40 | .fragmented => 0x41
  | .locked => 0x50 | .watched => 0x51 | .saving => 0x52 | .loading => 0x53

/-- The frame of a reply, with its CRC-16 (R151). -/
def Reply.frame (r : Reply) : List Byte := Sys2Proof.frame (BitVec.ofNat 8 r.status.code) r.tag r.body

/-! ### Codes of the state's enumerated fields, in list order (R153) -/

def ResolutionState.code : ResolutionState → Nat
  | .new => 0 | .queued => 1 | .clean => 2 | .faulted => 3 | .held => 4

/-- An optional enumerated field counts from 1 (R153, R158). -/
def FaultReason.code : FaultReason → Nat
  | .range => 1 | .leadUnresolved => 2

def HandleState.code : HandleState → Nat
  | .free => 0 | .live => 1 | .retiring => 2

def CompactionState.code : CompactionState → Nat
  | .idle => 0 | .running => 1 | .stopping => 2

def ChannelState.code : ChannelState → Nat
  | .off => 0 | .warming => 1 | .valid => 2 | .faulted => 3

def SpeedStatus.code : SpeedStatus → Nat
  | .tracking => 0 | .degraded => 1 | .fixed => 2

def OutputSource.code : OutputSource → Nat
  | .normal => 0 | .standby => 1 | .mute => 2

/-- An optional enumerated field counts from 1 (R153, R158). -/
def TransitionKind.code : TransitionKind → Nat
  | .glide => 1 | .fadeIn => 2 | .fadeOut => 3 | .crossfade => 4

def OverrideState.code : OverrideState → Nat
  | .clear => 0 | .engaged => 1

def OverrideSource.code : OverrideSource → Nat
  | .alarm => 0 | .port => 1

/-- A source of the override: active, released (R133). -/
def sourceCode (active : Bool) : Nat := if active then 0 else 1

def ReferenceKind.code : ReferenceKind → Nat
  | .bind => 0 | .bindOverride => 1 | .base => 2 | .lead => 3 | .crossStand => 4

def SaveOutcome.code : SaveOutcome → Nat
  | .written => 0 | .failed => 1

/-- Output states (R117, R118). -/
inductive OutputState | silent | steady | gliding | fading | onStandby | overrideSilent
  deriving DecidableEq, Repr

def OutputState.code : OutputState → Nat
  | .silent => 0 | .steady => 1 | .gliding => 2 | .fading => 3 | .onStandby => 4 | .overrideSilent => 5

/-- The output state follows from the source, the transition and ACTIVE (R118). -/
def FeedRender.outputState (r : FeedRender) : OutputState :=
  match r.transition with
  | some t =>
    match t.kind with
    | .glide => .gliding
    | .fadeIn | .fadeOut | .crossfade => .fading
  | none =>
    match r.source with
    | .normal => if r.active.isSome then .steady else .silent
    | .standby => .onStandby
    | .mute => .overrideSilent

/-! ### Items -/

def bit (b : Bool) (weight : Nat) : Nat := if b then weight else 0

/-- A set of sectors (R153). -/
def sectorSetOf (member : SectorNo → Bool) : Nat :=
  (allSectors.map fun n => bit (member n) (2 ^ n.val)).sum

def Handle.raw (h : Handle) : RawHandle := ⟨handleNumber h.ix, h.gen.val⟩

/-- The generation byte of a record reference in a reply: a profile's generation, for the other classes a free value, the
model's choice (R145, R153; log 13). -/
def RecordName.generationByte : RecordName → Byte
  | .profile h => BitVec.ofNat 8 h.gen.val
  | .feed _ => Config.unreadGenerationByte .feed
  | .sector _ => Config.unreadGenerationByte .sector
  | .sensor _ => Config.unreadGenerationByte .sensor

/-- A record reference of form NUMBERED in a reply (R153). -/
def RecordName.bytes (r : RecordName) : List Byte :=
  byte1 0 ++ byte1 r.target.cls.code ++ byte1 r.target.number ++ [r.generationByte]

/-- A four-byte delay, all ones when absent (R153). -/
def optDelay4 : Option Int → List Byte
  | none => bytes4 0xFFFFFFFF
  | some d => signed4 d

def Bus.byte : Bus → Byte
  | .programme n => BitVec.ofNat 8 n.val
  | .evacuation => Config.evacuationBusByte

/-- Output delay and bus of a slot, all ones when absent (R158). -/
def slotBytes : Option Setting → List Byte
  | none => bytes4 0xFFFFFFFF ++ byte1 0xFF
  | some p => signed4 p.outputDelay ++ [p.bus.byte]

def optEnum {α : Type} (code : α → Nat) : Option α → List Byte
  | none => byte1 0
  | some a => byte1 (code a)

/-- Blocks done and length of the transition (R158). -/
def progressBytes : Option Transition → List Byte
  | none => bytes4 Config.noTransitionBytes.toNat
  | some t => bytes2 t.blocksDone ++ bytes2 t.length

def FeedRender.presence (r : FeedRender) : Nat :=
  bit r.active.isSome 1 + bit r.pending.isSome 2 + bit r.standby.isSome 4 + bit r.silenceOrder 8 +
  bit r.takeStopped 16

/-- The 41 bytes of a feed (R158). -/
def State.feedImage (s : State) (f : FeedNo) : List Byte :=
  let e := s.feed f
  let r := s.renderOf f
  byte1 f.val ++ bytes2 e.label.toNat ++ byte1 e.tier.code ++ byte1 e.sector.val ++ byte1 e.bus.val ++
  optHandleBytes (e.binding.map Handle.raw) ++ optHandleBytes (e.overrideBinding.map Handle.raw) ++
  byte1 e.overrideAction.code ++ byte1 ((e.lead.map Fin.val).getD 0xFF) ++
  signed4 e.excessPath ++ optDelay4 e.geomDelay ++ byte1 e.revision.toNat ++ byte1 e.resolution.code ++
  optEnum FaultReason.code e.faultReason ++
  byte1 r.outputState.code ++ byte1 r.source.code ++ byte1 r.presence ++
  slotBytes r.active ++ slotBytes r.pending ++
  optEnum TransitionKind.code (r.transition.map Transition.kind) ++ progressBytes r.transition

/-- The content item of a stored record. -/
def ProfileRecord.content (p : ProfileRecord) : ProfileContent where
  label := p.label
  tier := p.tier
  base := p.base.map Handle.raw
  latencyTrim := p.latencyTrim
  gainTrim := p.gainTrim
  polarity := p.polarity
  sections := p.sections

/-- The bytes of a profile: 3 when FREE, else 21 and 8 for each own section (R158). The in-move mark's list names
set first (R31; log 8). -/
def State.profileImage (s : State) (h : HandleIx) : List Byte :=
  let e := s.handle h
  let head := byte1 (handleNumber h) ++ byte1 e.gen.val ++ byte1 e.state.code
  match e.state, e.record with
  | .free, _ => head
  | _, none => head
  | _, some p =>
    let x := e.extent.getD ⟨0, 0⟩
    head ++ bytes2 e.refCount ++ bytes2 x.offset ++ bytes2 x.len ++ byte1 (yesNoCode e.inMove) ++
    p.content.bytes

def SectorConfig.bytes (c : SectorConfig) : List Byte :=
  byte1 c.stand.val ++ byte1 c.mode.code ++ signed2 c.fixedTemp

/-- A since change, four bytes, all ones when absent (R153). -/
def optSeconds4 : Option Nat → List Byte
  | none => bytes4 0xFFFFFFFF
  | some n => bytes4 n

/-- The fields of a sector in the order of R107, then held flag, hold request and overflow mark (R157). -/
def State.sectorImage (s : State) (n : SectorNo) : List Byte :=
  let e := s.sector n
  let h := s.holds.get n
  e.config.bytes ++ bytes2 e.speed.toNat ++ bytes2 e.epoch.toNat ++ byte1 e.config.hysteresis ++
  bytes2 e.config.settle ++ bytes2 e.config.glide ++ byte1 e.status.code ++ optTemp2 e.sensedTemp ++
  optSeconds4 e.sinceChange ++ byte1 (yesNoCode e.awaitingFix) ++ byte1 (yesNoCode e.deferred) ++
  byte1 (yesNoCode h.held) ++ byte1 (yesNoCode h.request) ++
  [Config.overflowMarkByte (s.deps.overflow.get n)]

/-- The fields of a channel in the order of R100, the window as its count (R157). -/
def State.sensorImage (s : State) (n : ChannelNo) : List Byte :=
  let c := s.channel n
  let g := c.config
  byte1 (yesNoCode g.enabled) ++ byte1 g.positive.code ++ byte1 g.negative.code ++ byte1 g.gain ++
  signed2 g.offsetTrim ++ byte1 g.probe.code ++ byte1 g.interval ++
  byte1 ((g.sector.map Fin.val).getD 0xFF) ++ byte1 c.state.code ++ byte1 c.window.length ++
  optTemp2 c.average ++ optTemp2 c.lastCode

/-- The image of a record (R157). -/
def State.recordImage (s : State) : RecordName → List Byte
  | .feed f => s.feedImage f
  | .profile h => s.profileImage h.ix
  | .sector n => s.sectorImage n
  | .sensor n => s.sensorImage n

/-- A record of a reply: its image after a byte for its length (R157). -/
def lengthAndImage (image : List Byte) : List Byte := byte1 image.length ++ image

/-! ### Override, watches and notices -/

/-- State, both sources, applied state (R135, R162). -/
def Override.bytes (o : Override) : List Byte :=
  byte1 o.state.code ++ byte1 (sourceCode o.alarmActive) ++ byte1 (sourceCode o.portActive) ++
  byte1 o.applied.code

/-- A last hit (R145, R148). -/
def optHitBytes : Option Hit → List Byte
  | none => Config.absentHitBytes
  | some h =>
    h.record.bytes ++ byte1 h.access.code ++ byte1 (yesNoCode h.stopped) ++ byte1 (yesNoCode h.repeated)

def SensorFaultDetail.record : SensorFaultDetail → RecordName
  | .channel n => .sensor n
  | .sector n => .sector n

/-- The detail of a kind, empty when it has none (R163). -/
def Notices.detail (n : Notices) : NoticeKind → List Byte
  | .resolveFault => optBytes (fun (f, r) => byte1 f.val ++ byte1 r.code) n.resolveFault
  | .policy =>
    optBytes (fun d => d.referrer.bytes ++ d.referred.bytes ++ byte1 d.kind.code) n.policy
  | .dependencyOverflow => optBytes (fun k => byte1 k.val) n.dependencyOverflow
  | .sensorFault => optBytes (fun d => d.record.bytes) n.sensorFault
  | .watch0 => []
  | .watch1 => []
  | .override => optBytes (fun (st, src) => byte1 st.code ++ byte1 src.code) n.override
  | .compactionDone => []
  | .saveDone => optBytes (fun o => byte1 o.code) n.saveDone
  | .loadDone => optBytes (fun o => [Config.loadOutcomeByte (o = .loaded)]) n.loadDone
  | .imageInvalid => []

/-- The details of the flagged kinds of a set, in the order of R163. -/
def Notices.details (n : Notices) (set : NoticeSet) : List Byte :=
  (NoticeKind.all.filter (hasKind set)).flatMap n.detail

/-- Whole seconds of the start-up wait left (R165; log 30). -/
def secondsLeft (blocks : Nat) : Nat :=
  (Config.startupSeconds * Config.blocksPerSecond - blocks) / Config.blocksPerSecond

/-- The Image Interface's status, with the seconds of a wait or the phase of a load (R165). -/
def ImageStatus.bytes : ImageStatus → List Byte
  | .idle => byte1 0
  | .waiting blocks => byte1 1 ++ byte1 (secondsLeft blocks)
  | .saving => byte1 2
  | .loading .reading => byte1 3 ++ byte1 0
  | .loading (.held _) => byte1 3 ++ byte1 1

end Sys2Proof.Machine
end

