-- ==== Sys2Proof/Machine/Port.lean ====
section
/-! DEFINITION. The Control Port: transactions, the taking of requests, reply placement, and the requests that read
records and act on notices (R149 to R164). -/

namespace Sys2Proof.Machine

abbrev Result := Host.Outcome State Fault Refusal

/-! ### Transactions and the reply slot (R149, R150) -/

/-- What MISO carries, decided when chip select becomes active (R149). -/
def State.beginTransaction (s : State) : State :=
  match s.port.slot with
  | some reply => { s with port := { s.port with slot := none, transaction := some ⟨reply, true⟩ } }
  | none =>
    let tag := match s.port.inProgress with
      | some p => p.tag
      | none => 0
    { s with port := { s.port with transaction := some ⟨⟨.notReady, tag, []⟩, false⟩ } }

/-- The byte that MISO carries at place `i` of a transaction: the reply or the NOT-READY header, then 0xFF for every
further byte (R149, R150). -/
def Transaction.misoByte (t : Transaction) (i : Nat) : Byte := t.miso.frame[i]?.getD 0xFF

/-- The byte that MISO drives at place `i`: 0xFF while RESET is low, else what the transaction in progress carries; with no
transaction in progress nothing is clocked (R149). -/
def State.misoByte (s : State) (i : Nat) : Option Byte :=
  if s.pins.resetLow then some 0xFF else s.port.transaction.map fun t => t.misoByte i

/-- The chip-select release: the transaction ends, and whether its MOSI bytes are judged (R149, R150). A release with
no transaction begun stands for the whole transaction (log 5). -/
def State.endTransaction (s : State) : State × Bool :=
  let s := if s.port.transaction.isNone then s.beginTransaction else s
  let judged := match s.port.transaction with
    | some t => t.judged
    | none => false
  ({ s with port := { s.port with transaction := none } }, judged)

def State.setInProgress (s : State) (tag : Byte) (w : Work) : State :=
  { s with port := { s.port with inProgress := some ⟨tag, w⟩ } }

/-- A refusal's reply has an empty body, except where a rule gives one (R154). -/
def refusal (st : Status) : Answer := ⟨st, []⟩

def okBody (body : List Byte) : Answer := ⟨.ok, body⟩

/-- The reply to a request that was taken whole or refused whole. -/
def answerOf {α : Type} (okReply : α → Answer) : Except Status α → Answer
  | .ok a => okReply a
  | .error st => refusal st

/-- The release of a well-formed request (R149, R150, R154): while RESET is low the port takes nothing; the bytes of a
transaction that began during a request in progress are discarded; a body that forms no items is refused with
BAD-VALUE; else the request runs. The request is then in progress until its reply is placed. -/
def serve {α : Type} (r : Request α) (formed : α → Bool) (run : α → State → State × Work) (s : State) : State :=
  if s.pins.resetLow then s
  else
    let (s, judged) := s.endTransaction
    if judged then
      match r.items with
      | some a =>
        if formed a then
          let (s', w) := run a s
          s'.setInProgress r.tag w
        else s.setInProgress r.tag (.answered (refusal .badValue))
      | none => s.setInProgress r.tag (.answered (refusal .badValue))
    else s

/-- A request that is answered in its own step. -/
def serveNow {α : Type} (r : Request α) (formed : α → Bool) (run : α → State → State × Answer) (s : State) :
    State :=
  serve r formed (fun a s => let (s', ans) := run a s; (s', .answered ans)) s

/-- Items that R154 puts no further test to. -/
def anyItems {α : Type} (_ : α) : Bool := true

/-- TRANSACTION_BEGIN: chip select is ignored while RESET is low (R149); one already active stays as it is (log 6). -/
def execTransactionBegin (s : State) : Result :=
  .next (if s.pins.resetLow || s.port.transaction.isSome then s else s.beginTransaction)

/-- DISCARDED_REQUEST: the release of a transaction that carried NOT-READY (R150). -/
def execDiscardedRequest (s : State) : Result :=
  .next <|
    match s.port.transaction with
    | some t => if t.judged then s else { s with port := { s.port with transaction := none } }
    | none => s

/-- BAD_FRAME: a BAD-FRAME reply is placed in the slot at once (R152). -/
def execBadFrame (tag : Byte) (reason : FrameReason) (s : State) : Result :=
  .next <|
    if s.pins.resetLow then s
    else
      let (s, judged) := s.endTransaction
      if judged then
        { s with port := { s.port with slot := some ⟨.badFrame, tag, byte1 reason.code⟩ } }
      else s

/-- BAD_COMMAND (R154, test 1). -/
def execBadCommand (tag : Byte) (s : State) : Result :=
  .next <| serveNow ⟨tag, some ()⟩ anyItems (fun _ s => (s, refusal .badCommand)) s

/-- REPLY_PLACEMENT: the reply of a processed request fills the slot; an edit that waits goes on waiting (R150, R61). -/
def execReplyPlacement (s : State) : Result :=
  .next <|
    match s.port.inProgress with
    | some ⟨tag, .answered a⟩ =>
      { s with port := { s.port with slot := some ⟨a.status, tag, a.body⟩, inProgress := none } }
    | some ⟨_, .waiting _⟩ => s
    | none => s

def State.setCursor (s : State) (r : RecordName) : State := { s with port := { s.port with cursor := r } }

/-! ### NOP and STATUS (R162) -/

def execNop (r : Request Unit) (s : State) : Result :=
  .next <| serveNow r anyItems (fun _ s => (s, okBody [])) s

/-- The body of STATUS (R162). -/
def State.statusBody (s : State) : List Byte :=
  s.override.bytes ++ byte1 s.pool.compaction.code ++ s.image.bytes ++
  bytes2 s.notices.flags.toNat ++ bytes2 s.noticeMask.toNat ++ [Config.noticeLevelByte s.noticeLine]

def execStatus (r : Request Unit) (s : State) : Result :=
  .next <| serveNow r anyItems (fun _ s => (s, okBody s.statusBody)) s

/-! ### LOOK (R157) -/

/-- The record of a class and number, a profile at its present generation. -/
def State.recordNamed (s : State) (cls : RecordClass) (n : Nat) : Option RecordName :=
  match cls with
  | .feed => if h : n < 96 then some (.feed ⟨n, h⟩) else none
  | .profile => (handleIx n).map fun h => .profile (s.currentHandle h)
  | .sector => if h : n < 16 then some (.sector ⟨n, h⟩) else none
  | .sensor => if h : n < 8 then some (.sensor ⟨n, h⟩) else none

/-- The first record of a LOOK, when a profile, must not be named under a stale generation; a FREE handle is returned
whatever generation names it (R32). -/
def State.lookName (s : State) (t : Target) : Except Status Unit :=
  match t.cls with
  | .profile =>
    match s.nameHandle t.number t.gen with
    | .ok _ => .ok ()
    | .error .free => .ok ()
    | .error st => .error st
  | .feed | .sector | .sensor => .ok ()

/-- The class and the numbers a LOOK asks for (R157). The manual gives no order for a number out of range and a stale first
name in one request: the model answers OUT-OF-RANGE before STALE, its own choice (log 40). -/
def State.lookPlan (s : State) (i : LookItems) : Except Status (RecordClass × List Nat) := do
  require (oneToSixteen i.count && oneToSixteen i.step) .badValue
  let t ← s.resolve i.ref
  let ns := recordNumbers t.number i.count i.step
  require (ns.all (inClass t.cls)) .outOfRange
  s.lookName t
  return (t.cls, ns)

/-- The body of a LOOK: class, number of records, records (R157). -/
def lookBody (cls : RecordClass) (images : List (List Byte)) : List Byte :=
  byte1 cls.code ++ byte1 images.length ++ images.flatMap lengthAndImage

/-- The records returned one at a time, each a PORT-LOOK access; a watch that stops one ends the LOOK (R157, R146). -/
def lookLoop (cls : RecordClass) : List RecordName → List (List Byte) → State → State × Answer
  | [], images, s => (s, okBody (lookBody cls images))
  | r :: rest, images, s =>
    let (s', stopped) := s.watchTest .portLook r
    if stopped then (s', ⟨.watched, lookBody cls images ++ r.bytes⟩)
    else lookLoop cls rest (images ++ [s'.recordImage r]) (s'.setCursor r)

def State.look (s : State) (i : LookItems) : State × Answer :=
  match s.lookPlan i with
  | .error st => (s, refusal st)
  | .ok (cls, ns) => lookLoop cls (ns.filterMap (s.recordNamed cls)) [] s

def execLook (r : Request LookItems) (s : State) : Result :=
  .next <| serveNow r anyItems (fun i s => s.look i) s

/-! ### FIND (R159) -/

/-- A label agrees with the pattern in every bit that the mask leaves clear; NOT inverts the outcome. -/
def labelMatches (i : FindItems) (label : BitVec 16) : Bool :=
  let agrees := (label ^^^ i.pattern) &&& ~~~i.mask = 0
  match i.sense with
  | .matching => agrees
  | .inverse => !agrees

/-- The label of a record that FIND compares; FREE handles are passed over. -/
def State.labelOf (s : State) : RecordName → Option (BitVec 16)
  | .feed f => some (s.feed f).label
  | .profile h => if (s.handle h.ix).state = .free then none else (s.handle h.ix).record.map ProfileRecord.label
  | .sector _ => none
  | .sensor _ => none

/-- The matches of a scan and the last number examined; it stops after the 32nd match. -/
def findLoop (s : State) (i : FindItems) : List Nat → List RecordName → Nat → List RecordName × Nat
  | [], found, last => (found, last)
  | n :: rest, found, _ =>
    let hit := (s.recordNamed i.cls n).filter fun r => ((s.labelOf r).map (labelMatches i)).getD false
    match hit with
    | none => findLoop s i rest found n
    | some r =>
      if found.length + 1 = 32 then (found ++ [r], n) else findLoop s i rest (found ++ [r]) n

/-- The last number of a class. -/
def lastOfClass : RecordClass → Nat
  | .feed => 95
  | .profile => 255
  | .sector => 15
  | .sensor => 7

/-- The start of a scan; only its number is used (R159). -/
def State.findStart (s : State) (i : FindItems) : Except Status Nat := do
  require (i.cls = .feed || i.cls = .profile) .badValue
  let t ← s.resolve i.start
  require (inClass i.cls t.number) .outOfRange
  return t.number

/-- A match: a feed number, or a handle number with its generation. -/
def matchBytes (r : RecordName) : List Byte :=
  match r with
  | .profile h => byte1 (handleNumber h.ix) ++ byte1 h.gen.val
  | .feed f => byte1 f.val
  | .sector n => byte1 n.val
  | .sensor n => byte1 n.val

def State.find (s : State) (i : FindItems) : State × Answer :=
  match s.findStart i with
  | .error st => (s, refusal st)
  | .ok start =>
    let (found, last) := findLoop s i (List.range' start (lastOfClass i.cls + 1 - start)) [] start
    let s' := match found.getLast? with
      | some r => s.setCursor r
      | none => s
    (s', okBody (byte1 found.length ++ found.flatMap matchBytes ++ byte1 last))

def execFind (r : Request FindItems) (s : State) : Result :=
  .next <| serveNow r anyItems (fun i s => s.find i) s

/-! ### Notices (R164) -/

def execReadNotices (r : Request Unit) (s : State) : Result :=
  .next <| serveNow r anyItems
    (fun _ s => (s, okBody (bytes2 s.notices.flags.toNat ++ bytes2 s.noticeMask.toNat ++
      s.notices.details fullMask))) s

/-- CLEAR NOTICES returns the named kinds as they stood, then clears them, as one step. -/
def execClearNotices (r : Request NoticeSet) (s : State) : Result :=
  .next <| serveNow r anyItems
    (fun kinds s => ({ s with notices := s.notices.clear kinds },
      okBody (bytes2 (s.notices.flags &&& kinds).toNat ++ s.notices.details kinds))) s

/-- NOTICE MASK: one that changes the mask is a change request (R164, R165, R171). -/
def State.changeMask (s : State) : Option NoticeSet → State × Answer
  | none => (s, okBody (bytes2 s.noticeMask.toNat))
  | some m =>
    if m = s.noticeMask then (s, okBody (bytes2 m.toNat))
    else
      match s.longOperation with
      | some st => (s, refusal st)
      | none => (({ s with noticeMask := m }).endWait, okBody (bytes2 m.toNat))

def execNoticeMask (r : Request (Option NoticeSet)) (s : State) : Result :=
  .next <| serveNow r anyItems (fun m s => s.changeMask m) s

end Sys2Proof.Machine
end

