-- ==== Sys2Proof/Machine/Resolver.lean ====
section
/-! DEFINITION. The Resolver: the start of a resolution, its computation, its outcome at completion, the delivery of
settings, and propagation (R21 to R24, R80, R81, R86 to R98). -/

namespace Sys2Proof.Machine

/-! ### The computation (R21, R22, R88 to R90) -/

/-- A quotient rounded to the nearest integer, halves away from zero (R21). -/
def roundDiv (n d : Int) : Int := if 0 ≤ n then (2 * n + d) / (2 * d) else -((-2 * n + d) / (2 * d))

/-- The contribution of a link (R21). -/
def contribution (path speed : Int) : Int := roundDiv (76800 * path) speed

def delayInRange (d : Int) : Bool := 0 ≤ d && d ≤ Config.maxDelay

/-- The lead's stored geometric delay, 0 for a root (R22, R88 check 1). -/
def State.leadDelay (s : State) (f : FeedNo) : Except FaultReason Int :=
  match (s.feed f).lead with
  | none => .ok 0
  | some l =>
    match (s.feed l).geomDelay with
    | some d => .ok d
    | none => .error .leadUnresolved

def State.speedOf (s : State) (f : FeedNo) : Int := (s.sector (s.feed f).sector).speed

/-- The geometric delay (R22, R88). -/
def State.geometric (s : State) (f : FeedNo) : Except FaultReason Int :=
  match s.leadDelay f with
  | .error r => .error r
  | .ok d =>
    let g := d + contribution (s.feed f).excessPath (s.speedOf f)
    if delayInRange g then .ok g else .error .range

/-- The setting of a composed profile at a geometric delay (R89, R90). -/
def Composed.setting (c : Composed) (g : Int) (bus : Bus) : Setting where
  outputDelay := g + c.latencyTrim
  sections := c.sections
  gain := c.gain
  polarity := c.polarity
  bus := bus

/-- The setting for a binding, when there is one; a delay out of range faults (R23, R89, R90). A bound handle without a
record, which no run reaches, gives no setting (log 22). -/
def State.settingFor (s : State) (g : Int) (bus : Bus) (binding : Option Handle) :
    Except FaultReason (Option Setting) :=
  match binding.bind fun h => s.composed h.ix with
  | none => .ok none
  | some c => if delayInRange (g + c.latencyTrim) then .ok (some (c.setting g bus)) else .error .range

/-- What a resolution without a fault computes. -/
structure Resolved where
  delay : Int
  normal : Option Setting
  standby : Option Setting
  deriving DecidableEq, Repr

/-- The computation of a resolution, its inputs read at its completion (R87 to R90; log 21). -/
def State.resolution (s : State) (f : FeedNo) : Except FaultReason Resolved := do
  let g ← s.geometric f
  let normal ← s.settingFor g (.programme (s.feed f).bus) (s.feed f).binding
  let standby ← s.settingFor g .evacuation (s.feed f).overrideBinding
  return ⟨g, normal, standby⟩

/-! ### Delivery (R96, R97) -/

/-- The settled normal setting; absent is silence. A glide or fade that does not play the normal setting leaves ACTIVE
(R96; log 26). -/
def FeedRender.settled (r : FeedRender) : Option Setting :=
  match r.transition, r.source with
  | some t, .normal =>
    match t.kind with
    | .glide | .fadeIn => t.target
    | .fadeOut => none
    | .crossfade => r.active
  | _, _ => r.active

/-- PENDING as the Resolver writes or removes it; a write or a removal clears the take stopped mark (R96, R123). -/
def FeedRender.putPending (r : FeedRender) : Option Setting → FeedRender
  | some p => { r with pending := some p, takeStopped := false }
  | none => if r.pending.isSome then { r with pending := none, takeStopped := false } else r

/-- The delivery of the normal setting (R96). -/
def FeedRender.deliverNormal (r : FeedRender) (n : Option Setting) : FeedRender :=
  if n = r.settled then { r.putPending none with silenceOrder := false }
  else { r.putPending n with silenceOrder := n.isNone }

/-- The delivery of the standby setting (R97): an equal setting already in the slot stays. -/
def FeedRender.deliverStandby (r : FeedRender) (p : Option Setting) : FeedRender := { r with standby := p }

/-! ### Propagation (R80, R81, R98) -/

/-- Source 1: the feeds of L's sector whose lead is L. -/
def State.tableFollowers (s : State) (l : FeedNo) : List FeedNo :=
  allFeeds.filter fun f => (s.feed f).sector = (s.feed l).sector && (s.feed f).lead = some l

/-- Source 2: the followers of L that the Dependency Pool names. -/
def State.poolFollowers (s : State) (l : FeedNo) : List FeedNo :=
  allFeeds.filter fun f => s.deps.entries.get f = some (s.feed l).sector && (s.feed f).lead = some l

/-- Source 3: the conservative sweep, when L's sector carries its mark (R81). -/
def State.sweep (s : State) (l : FeedNo) : List FeedNo :=
  if s.deps.overflow.get (s.feed l).sector then
    allFeeds.filter fun f => (s.feed f).sector ≠ (s.feed l).sector && (s.feed f).lead.isSome
  else []

/-- The feeds a change of L's delay queues, each once, at its first place (R80). -/
def State.followersToQueue (s : State) (l : FeedNo) : List FeedNo :=
  (s.tableFollowers l ++ s.poolFollowers l ++ s.sweep l).foldl appendOnce []

def State.propagate (s : State) (l : FeedNo) : State := s.queueFeeds (s.followersToQueue l)

/-! ### Start and completion (R86, R91 to R95) -/

/-- RESOLUTION_START: the head leaves the queue and its revision is noted (R86). With a resolution in flight or an empty
queue it has no effect (log 1). -/
def execResolutionStart (s : State) : Result :=
  .next <|
    match s.resolver.inFlight, s.resolver.queue with
    | none, f :: rest => { s with resolver := ⟨rest, some ⟨f, (s.feed f).revision⟩⟩ }
    | _, _ => s

/-- Whether the feed in flight has been queued since its resolution started (R92). -/
def State.stale (s : State) (x : InFlight) : Bool :=
  (s.feed x.feed).revision ≠ x.revision || s.resolver.queue.contains x.feed

/-- A fault (R93). -/
def State.faultFeed (s : State) (f : FeedNo) (r : FaultReason) : State :=
  let e := s.feed f
  (s.setFeed f { e with resolution := .faulted, faultReason := some r }).raise (.resolveFault f r)

/-- A held result (R94). -/
def State.holdFeed (s : State) (f : FeedNo) : State :=
  let e := s.feed f
  s.setFeed f { e with resolution := .held, faultReason := none }

/-- Steps 1 and 2 of a success (R95). -/
def State.storeDelay (s : State) (f : FeedNo) (g : Int) : State :=
  let e := s.feed f
  s.setFeed f { e with geomDelay := some g, resolution := .clean, faultReason := none }

/-- Steps 3 and 4. -/
def State.deliver (s : State) (f : FeedNo) (r : Resolved) : State :=
  let x := s.renderOf f
  s.setRender f ((x.deliverNormal r.normal).deliverStandby r.standby)

/-- A success (R95). -/
def State.succeed (s : State) (f : FeedNo) (r : Resolved) : State :=
  let before := (s.feed f).geomDelay
  let s' := (s.storeDelay f r.delay).deliver f r
  if before = some r.delay then s' else s'.propagate f

/-- The outcome of a resolution that is not stale (R91, tests 2 to 4). -/
def State.concludeResolution (s : State) (f : FeedNo) : State :=
  match s.resolution f with
  | .error r => s.faultFeed f r
  | .ok r =>
    let (s', stopped) := s.watchTest .autoChange (.feed f)
    if stopped then s'.holdFeed f else s'.succeed f r

def State.clearInFlight (s : State) : State := { s with resolver := { s.resolver with inFlight := none } }

/-- RESOLUTION_COMPLETE; with none in flight it has no effect (R91; log 1). -/
def execResolutionComplete (s : State) : Result :=
  .next <|
    match s.resolver.inFlight with
    | none => s
    | some x => if s.stale x then s.clearInFlight else s.clearInFlight.concludeResolution x.feed

end Sys2Proof.Machine
end

