-- ==== Sys2Proof/Machine/Climate.lean ====
section
/-! DEFINITION. The Climate Unit: readings, evaluation of sectors, speed changes, SENSOR SET and SECTOR SET
(R100 to R115). -/

namespace Sys2Proof.Machine

/-! ### From conversion code to temperature (R102, R103) -/

/-- The raw conversion code: an input beyond an end of the range yields the end code (R102). -/
def conversionCode (measured : Int) : Int := clampInt (-2048) 2047 measured

def atRangeEnd (c : Int) : Bool := c = -2048 || c = 2047

/-- `gain` times the input-referred value u: c - 64 × offset trim × gain (R102). -/
def inputReferred (g : ChannelConfig) (c : Int) : Int := c - 64 * g.offsetTrim * g.gain

/-- The points of the BRIDGE curve: u, and t in 0.1 °C (R103). -/
def bridgeCurve : List (Int × Int) :=
  [(-720, -300), (-485, -200), (-245, -100), (0, 0), (250, 100), (505, 200), (765, 300), (1030, 400),
   (1300, 500), (1575, 600)]

/-- The segment of the curve that serves u = `x / gain`: its ends bound u, the first and the last extended (R103). -/
def bridgeSegment (x gain : Int) : List (Int × Int) → Option ((Int × Int) × (Int × Int))
  | a :: b :: rest =>
    if rest.isEmpty || x ≤ b.1 * gain then some (a, b) else bridgeSegment x gain (b :: rest)
  | _ => none

/-- The temperature on a segment, rounded once (R103). -/
def onSegment (x gain : Int) (low high : Int × Int) : Int :=
  roundDiv (low.2 * (gain * (high.1 - low.1)) + (x - low.1 * gain) * (high.2 - low.2)) (gain * (high.1 - low.1))

/-- The temperature of a reading, in 0.1 °C (R103). -/
def readingTemp (g : ChannelConfig) (c : Int) : Int :=
  let x := inputReferred g c
  match g.probe with
  | .linear => roundDiv x g.gain
  | .bridge =>
    match bridgeSegment x g.gain bridgeCurve with
    | some (low, high) => onSegment x g.gain low high
    | none => 0

def plausible (t : Int) : Bool := -300 ≤ t && t ≤ 600

/-- A mean rounded to 0.1 °C, halves away from zero; absent for no value (R100, R109). -/
def meanOf : List Int → Option Int
  | [] => none
  | ts => some (roundDiv ts.sum ts.length)

/-- The speed of sound for a temperature (R108). -/
def speedAt (t : Int) : Int := 33130 + roundDiv (606 * t) 100

/-! ### Evaluation of a sector (R109 to R113) -/

/-- The averages of the VALID channels of a sector. -/
def State.validAverages (s : State) (n : SectorNo) : List Int :=
  allChannels.filterMap fun k =>
    let c := s.channel k
    if c.config.sector = some n && c.state = .valid then c.average else none

def statusFor (mode : SectorMode) (sensed : Option Int) : SpeedStatus :=
  match mode with
  | .fixed => .fixed
  | .sensed => if sensed.isSome then .tracking else .degraded

/-- A status evaluation: the sensed temperature and the speed status, with the notice of a change to DEGRADED
(R109, R111). -/
def State.statusEvaluation (s : State) (n : SectorNo) : State :=
  let e := s.sector n
  let sensed := meanOf (s.validAverages n)
  let status := statusFor e.config.mode sensed
  let s' := s.setSector n { e with sensedTemp := sensed, status := status }
  if status = .degraded && e.status ≠ .degraded then s'.raise (.sensorFault (.sector n)) else s'

/-- The feeds of a sector, in feed order. -/
def State.feedsOfSector (s : State) (n : SectorNo) : List FeedNo :=
  allFeeds.filter fun f => (s.feed f).sector = n

/-- The fields of a sector after a change of its speed (R112). -/
def Sector.changeSpeed (e : Sector) (c : Int) : Sector :=
  { e with speed := c, epoch := e.epoch + 1, sinceChange := some 0, blocks := 0, awaitingFix := false }

/-- A speed change (R112). -/
def State.changeSpeed (s : State) (n : SectorNo) (c : Int) : State :=
  (s.setSector n ((s.sector n).changeSpeed c)).queueFeeds (s.feedsOfSector n)

/-- The settle interval has elapsed (R110). -/
def Sector.settled (e : Sector) : Bool :=
  e.deferred ||
  match e.sinceChange with
  | none => true
  | some t => e.config.settle ≤ t

/-- Whether the speed test passes for candidate `c` (R110). -/
def Sector.testPasses (e : Sector) (c : Int) : Bool :=
  (e.awaitingFix && c ≠ e.speed) || (e.config.hysteresis ≤ (c - e.speed).natAbs && e.settled)

/-- The awaiting fix mark after a test that fails: cleared when the candidate equals the speed (R110; log 35). -/
def Sector.afterFailedTest (e : Sector) (c : Int) : Sector :=
  { e with awaitingFix := e.awaitingFix && c ≠ e.speed }

/-- The speed test of a full evaluation, by the override's state (R110, R113). -/
def State.speedTest (s : State) (n : SectorNo) (t : Int) : State :=
  let e := s.sector n
  let c := speedAt t
  match e.testPasses c, s.override.state with
  | true, .clear => (s.setSector n { e with deferred := false }).changeSpeed n c
  | true, .engaged => s.setSector n { e with deferred := true }
  | false, .clear => s.setSector n { e.afterFailedTest c with deferred := false }
  | false, .engaged => s.setSector n (e.afterFailedTest c)

/-- A full evaluation (R109). -/
def State.fullEvaluation (s : State) (n : SectorNo) : State :=
  let s' := s.statusEvaluation n
  match (s'.sector n).config.mode, (s'.sector n).sensedTemp with
  | .sensed, some t => s'.speedTest n t
  | _, _ => s'

/-! ### Readings (R101, R104, R105) -/

/-- A reading that is rejected (R104). -/
def Channel.reject (c : Channel) (code : Int) : Channel :=
  { c with lastCode := some code, window := [], average := none, state := .faulted }

/-- The window with a temperature appended, at most eight (R105). -/
def pushReading (w : List Int) (t : Int) : List Int :=
  let w' := w ++ [t]
  if 8 < w'.length then w'.tail else w'

/-- The state after a plausible reading, by the window after it (R105). -/
def stateAfterReading (st : ChannelState) (w : List Int) : ChannelState :=
  match st with
  | .valid => .valid
  | .faulted | .warming | .off => if w.length = 8 then .valid else .warming

/-- A plausible reading (R105, steps 1 to 4). -/
def Channel.accept (c : Channel) (code t : Int) : Channel :=
  let w := pushReading c.window t
  { c with lastCode := some code, window := w, average := meanOf w, state := stateAfterReading c.state w }

def State.evaluateOptional (s : State) : Option SectorNo → State
  | some n => s.fullEvaluation n
  | none => s

/-- The effect of a reading with code `code` on its channel and sector (R104, R105). -/
def State.applyReading (s : State) (k : ChannelNo) (code : Int) : State :=
  let c := s.channel k
  let t := readingTemp c.config code
  let s' :=
    if atRangeEnd code || !plausible t then (s.setChannel k (c.reject code)).raise (.sensorFault (.channel k))
    else s.setChannel k (c.accept code t)
  s'.evaluateOptional c.config.sector

/-- The blocks of one reading interval (R101, R107; log 29). -/
def Channel.intervalBlocks (c : Channel) : Nat := c.config.interval * Config.blocksPerSecond

/-- CONVERSION_START: the conversion begins, and the schedule goes on to the next reading (R101; log 29). A disabled
channel, or one whose conversion runs, takes none. -/
def execConversionStart (k : ChannelNo) (s : State) : Result :=
  .next <|
    let c := s.channel k
    if c.config.enabled && c.reading.isNone then
      s.setChannel k
        { c with reading := some ⟨Config.conversionBlocks, false⟩, toNext := c.toNext + c.intervalBlocks }
    else s

/-- The reading that completes: none that began leaves the schedule to restart from here (log 29). -/
def Channel.endReading (c : Channel) : Channel :=
  match c.reading with
  | some _ => { c with reading := none }
  | none => { c with toNext := c.intervalBlocks }

def Channel.readingVoid (c : Channel) : Bool :=
  match c.reading with
  | some r => r.void
  | none => false

/-- READING_COMPLETE: a reading left without effect changes no more than its own end, and a disabled channel takes none
(R101, R104, R105). -/
def execReadingComplete (k : ChannelNo) (measured : Int) (s : State) : Result :=
  .next <|
    let c := s.channel k
    if c.readingVoid then s.setChannel k { c with reading := none }
    else if c.config.enabled then (s.setChannel k c.endReading).applyReading k (conversionCode measured)
    else s

/-- SINCE_CHANGE_TICK: at the 1,500th block boundary, one more whole second since the speed change, stopping at 65,535
(R107); before it there is no tick (log 28). -/
def execSinceChangeTick (n : SectorNo) (s : State) : Result :=
  .next <|
    let e := s.sector n
    match e.sinceChange with
    | some t =>
      if Config.blocksPerSecond ≤ e.blocks then
        s.setSector n { e with sinceChange := some (min 65535 (t + 1)), blocks := e.blocks - Config.blocksPerSecond }
      else s
    | none => s

/-! ### SENSOR SET (R106) -/

def optAll {α : Type} (p : α → Bool) : Option α → Bool
  | none => true
  | some a => p a

def gainAllowed (g : Nat) : Bool := g = 1 || g = 2 || g = 4 || g = 8

/-- A sector as sent: none, or a number. -/
def optSectorNo : Option Nat → Option SectorNo
  | none => none
  | some n => if h : n < 16 then some ⟨n, h⟩ else none

/-- The configuration with the supplied fields stored. -/
def sensorApplied (i : SensorSetItems) (g : ChannelConfig) : ChannelConfig where
  enabled := i.enabled.getD g.enabled
  positive := i.positive.getD g.positive
  negative := i.negative.getD g.negative
  gain := i.gain.getD g.gain
  offsetTrim := i.offsetTrim.getD g.offsetTrim
  probe := i.probe.getD g.probe
  interval := i.interval.getD g.interval
  sector := match i.sector with
    | some n => optSectorNo n
    | none => g.sector

/-- Test 2 of R106: the values in their sets, and the two inputs not the same after the request. -/
def sensorValuesAllowed (i : SensorSetItems) (g : ChannelConfig) : Bool :=
  optAll gainAllowed i.gain && optAll (inRangeInt (-15) 15) i.offsetTrim &&
  optAll (fun n => 1 ≤ n && n ≤ 60) i.interval && optAll (optAll fun n => n ≤ 15) i.sector &&
  (sensorApplied i g).positive ≠ (sensorApplied i g).negative

def State.testSensorSet (s : State) (i : SensorSetItems) : Except Status ChannelNo := do
  let k ← s.refSensor i.sensor
  require (sensorValuesAllowed i (s.channel k).config) .badValue
  s.requireNoLongOperation
  return k

/-- Whether a change of measurement has been made. -/
def measurementChanged (old new : ChannelConfig) : Bool :=
  old.positive ≠ new.positive || old.negative ≠ new.negative || old.gain ≠ new.gain ||
  old.offsetTrim ≠ new.offsetTrim || old.probe ≠ new.probe

def Reading.voided (r : Reading) : Reading := { r with void := true }

/-- A change of measurement of an enabled channel (R101, R106). -/
def Channel.restartMeasurement (c : Channel) : Channel :=
  { c with state := .warming, window := [], average := none, reading := c.reading.map Reading.voided }

/-- The start of a channel's schedule (R101). -/
def Channel.startSchedule (c : Channel) : Channel := { c with toNext := c.intervalBlocks }

/-- The channel after a taken SENSOR SET, by the fields that changed (R106). -/
def Channel.configure (c : Channel) (new : ChannelConfig) : Channel :=
  let c' := { c with config := new }
  match c.config.enabled, new.enabled with
  | false, true => { c' with state := .warming, window := [], average := none }.startSchedule
  | true, false => { c' with state := .off, window := [], average := none, reading := none, toNext := 0 }
  | true, true =>
    let c' := if measurementChanged c.config new then c'.restartMeasurement else c'
    if c.config.interval ≠ new.interval then c'.startSchedule else c'
  | false, false => c'

/-- Whether a taken SENSOR SET brings status evaluations (R106). -/
def needsEvaluation (old new : ChannelConfig) : Bool :=
  old.enabled ≠ new.enabled || (old.enabled && measurementChanged old new) || old.sector ≠ new.sector

/-- The sectors evaluated: the one before the request, then the one after it (R106; log 36). -/
def sectorsToEvaluate (old new : ChannelConfig) : List SectorNo :=
  if needsEvaluation old new then
    old.sector.toList ++ (if new.sector = old.sector then [] else new.sector.toList)
  else []

/-- Taking a SENSOR SET (R106). -/
def State.applySensorSet (s : State) (k : ChannelNo) (i : SensorSetItems) : State :=
  let c := s.channel k
  let new := sensorApplied i c.config
  (((sectorsToEvaluate c.config new).foldl State.statusEvaluation (s.setChannel k (c.configure new))).setCursor
    (.sensor k)).endWait

/-- SENSOR SET and its reply: the channel record in the bytes of LOOK's image, without a length byte, the model's choice
(R106, R157; log 41). -/
def State.requestSensorSet (s : State) (i : SensorSetItems) : State × Answer :=
  match s.testSensorSet i with
  | .error st => (s, refusal st)
  | .ok k =>
    let s' := s.applySensorSet k i
    (s', okBody (s'.sensorImage k))

def execSensorSet (r : Request SensorSetItems) (s : State) : Result :=
  .next <| serveNow r SensorSetFormed (fun i s => s.requestSensorSet i) s

/-! ### SECTOR SET (R114, R115) -/

def sectorApplied (i : SectorSetItems) (g : SectorConfig) : SectorConfig where
  stand := match i.stand with
    | some n => if h : n < 4 then ⟨n, h⟩ else g.stand
    | none => g.stand
  mode := i.mode.getD g.mode
  fixedTemp := i.fixedTemp.getD g.fixedTemp
  hysteresis := i.hysteresis.getD g.hysteresis
  settle := i.settle.getD g.settle
  glide := i.glide.getD g.glide

/-- Test 2 of R114: the values within the ranges of R107. -/
def sectorValuesAllowed (i : SectorSetItems) : Bool :=
  optAll (fun n => n < 4) i.stand && optAll plausible i.fixedTemp &&
  optAll (fun n => 5 ≤ n && n ≤ 200) i.hysteresis && optAll (fun n => 5 ≤ n && n ≤ 600) i.settle &&
  optAll (fun n => 8 ≤ n && n ≤ 1536) i.glide

/-- Whether a feed of the sector has a lead in another sector, or is the lead of a feed in another (R114). -/
def State.sectorLinked (s : State) (n : SectorNo) : Bool :=
  allFeeds.any fun f =>
    match (s.feed f).lead with
    | some l => ((s.feed f).sector = n) != ((s.feed l).sector = n)
    | none => false

def State.testSectorSet (s : State) (i : SectorSetItems) : Except Status SectorNo := do
  let n ← s.refSector i.sector
  require (sectorValuesAllowed i) .badValue
  s.requireNoLongOperation
  require (!(s.locked && (i.mode.isSome || i.fixedTemp.isSome))) .locked
  require ((sectorApplied i (s.sector n).config).stand = (s.sector n).config.stand || !s.sectorLinked n) .inUse
  return n

/-- The sector ends in FIXED mode, by a change: its status, its marks, and its speed at once (R115). -/
def State.fixSector (s : State) (n : SectorNo) : State :=
  let e := s.sector n
  let c := speedAt e.config.fixedTemp
  let s' := s.setSector n { e with status := .fixed, awaitingFix := false, deferred := false }
  if c = e.speed then s' else s'.changeSpeed n c

/-- The sector enters SENSED mode (R115). -/
def State.senseSector (s : State) (n : SectorNo) : State :=
  let e := s.sector n
  (s.setSector n { e with awaitingFix := true }).statusEvaluation n

/-- What a change of mode or of the fixed temperature does (R115). -/
def State.actOnMode (s : State) (n : SectorNo) (old : SectorConfig) : State :=
  let new := (s.sector n).config
  match old.mode, new.mode with
  | .fixed, .sensed => s.senseSector n
  | .sensed, .fixed => s.fixSector n
  | .fixed, .fixed => if new.fixedTemp = old.fixedTemp then s else s.fixSector n
  | .sensed, .sensed => s

/-- Taking a SECTOR SET (R114). -/
def State.applySectorSet (s : State) (n : SectorNo) (i : SectorSetItems) : State :=
  let e := s.sector n
  (((s.setSector n { e with config := sectorApplied i e.config }).actOnMode n e.config).setCursor (.sector n)).endWait

/-- SECTOR SET and its reply. R114 has it carry the sector record, whose bytes R157 lays out for LOOK alone, with three
fields of other blocks after it (R107). The model sends LOOK's image, those fields with it and no length byte before it:
its own choice (log 41). -/
def State.requestSectorSet (s : State) (i : SectorSetItems) : State × Answer :=
  match s.testSectorSet i with
  | .error st => (s, refusal st)
  | .ok n =>
    let s' := s.applySectorSet n i
    (s', okBody (s'.sectorImage n))

def execSectorSet (r : Request SectorSetItems) (s : State) : Result :=
  .next <| serveNow r SectorSetFormed (fun i s => s.requestSectorSet i) s

end Sys2Proof.Machine
end

