-- ==== Sys2Proof/Machine/Feeds.lean ====
section
/-! DEFINITION. Feed requests: the changes of one field, leads, bindings, CLEAR FEED (R4 to R20, R43 to R46). -/

namespace Sys2Proof.Machine

/-! ### The override lock on a feed's geometry (R10 step 4, R17, R18) -/

/-- A SWITCH feed's geometry is locked while the override is ENGAGED. -/
def State.requireGeometryFree (s : State) (f : FeedNo) : Except Status Unit :=
  require (!(s.locked && (s.feed f).overrideAction = .switch)) .locked

def State.requireUnlocked (s : State) : Except Status Unit := require (!s.locked) .locked

/-! ### SET of a feed field -/

/-- A feed in use keeps its tier (R4, R72). -/
def State.feedInUse (s : State) (f : FeedNo) : Bool :=
  (s.feed f).binding.isSome || (s.feed f).overrideBinding.isSome || (s.feed f).lead.isSome || s.hasFollowers f

/-- The value test of R6: SWITCH is not set, it comes with an override binding. -/
def FeedChange.settable : FeedChange → Bool
  | .action .switch => false
  | _ => true

/-- The lock and the own checks of a change of one field (R10 steps 4 and 5). -/
def State.testFeedField (s : State) (f : FeedNo) : FeedChange → Except Status Unit
  | .label _ => .ok ()
  | .tier _ => require (!s.feedInUse f) .inUse
  | .sector _ => do
    s.requireGeometryFree f
    require (!((s.feed f).lead.isSome || s.hasFollowers f)) .inUse
  | .bus _ => .ok ()
  | .path _ => s.requireGeometryFree f
  | .action _ => do
    s.requireUnlocked
    require (s.feed f).overrideBinding.isNone .inUse

/-- The tests of R10, steps 2 to 5, for SET of one feed. A field byte beyond the feed list is refused here with BAD-VALUE,
record by record, after the reference and the range and with the body of R160. R154 test 2 would refuse a value beyond a
list before any of these, with an empty body, and R10 names the field at step 2: the place is the model's own choice
(log 43). -/
def State.testSetFeed (s : State) (f : FeedNo) (field : Nat) (value : Int) : Except Status FeedChange := do
  match feedChange field value with
  | none => throw .badValue
  | some c =>
    require c.settable .badValue
    s.requireNoLongOperation
    s.testFeedField f c
    return c

/-- What a taken SET does; label, tier and override action queue nothing (R4, R5, R6, R17, R18). -/
def State.applyFeedChange (s : State) (f : FeedNo) (c : FeedChange) : State :=
  let e := s.feed f
  match c with
  | .label v => s.setFeed f { e with label := v }
  | .tier v => s.setFeed f { e with tier := v }
  | .sector v => (s.setFeed f { e with sector := v }).queueFeed f
  | .bus v => (s.setFeed f { e with bus := v }).queueFeed f
  | .path v => (s.setFeed f { e with excessPath := v }).queueFeed f
  | .action v => s.setFeed f { e with overrideAction := v }

def State.setOneFeed (s : State) (f : FeedNo) (field : Nat) (value : Int) : State × Except Status FeedChange :=
  s.takeChange (s.testSetFeed f field value) (fun _ => .feed f) (fun c s => s.applyFeedChange f c)

/-- The body of a SET that stopped: records changed and the record refused (R160). -/
def setStopped (st : Status) (done : Nat) (refused : RecordName) : Answer := ⟨st, byte1 done ++ refused.bytes⟩

/-- The records of a SET one at a time, in ascending order (R160). -/
def setFeedsLoop (field : Nat) (value : Int) : List FeedNo → Nat → State → State × Answer
  | [], done, s => (s, okBody (byte1 done))
  | f :: rest, done, s =>
    match s.setOneFeed f field value with
    | (s', .ok _) => setFeedsLoop field value rest (done + 1) (s'.setCursor (.feed f))
    | (s', .error st) => (s', setStopped st done (.feed f))

/-! ### LEAD (R12 to R16) -/

/-- The cycle check (R13). -/
def State.wouldCycle (s : State) (f l : FeedNo) : Bool := l = f || (chainAbove s.leadOf 96 l).contains f

/-- The depth check (R14). -/
def State.wouldBeTooDeep (s : State) (f l : FeedNo) : Bool := Config.maxDepth < s.depth l + 1 + s.height f

def State.standOf (s : State) (f : FeedNo) : Fin 4 := (s.sector (s.feed f).sector).config.stand

/-- The cross-stand outcome of a lead; within one stand the setting is not applied (R73). -/
def State.crossStandFor (s : State) (f l : FeedNo) : PolicyOutcome :=
  if s.standOf f = s.standOf l then .allow else s.crossStand

/-- What a tested LEAD would store. -/
structure LeadPlan where
  follower : FeedNo
  lead : Option FeedNo
  deriving DecidableEq, Repr

/-- The own checks of LEAD with a feed (R12). -/
def State.testLeadTo (s : State) (f l : FeedNo) : Except Status Unit := do
  require (!s.wouldCycle f l) .cycle
  require (!s.wouldBeTooDeep f l) .tooDeep
  require (s.policyFor (s.feed f).tier (s.feed l).tier ≠ .refuse) .policyRefused
  require (s.crossStandFor f l ≠ .refuse) .crossStand

/-- The lead a reference names, or none for NONE. -/
def State.refLead (s : State) (ref : RecordRef) : Except Status (Option FeedNo) :=
  if isNoLead ref then .ok none else (s.refFeed ref).map some

def State.testOptLead (s : State) (f : FeedNo) : Option FeedNo → Except Status Unit
  | some l => s.testLeadTo f l
  | none => .ok ()

def State.testLead (s : State) (i : LeadItems) : Except Status LeadPlan := do
  let f ← s.refFeed i.follower
  let l ← s.refLead i.lead
  s.requireNoLongOperation
  s.requireGeometryFree f
  s.testOptLead f l
  return ⟨f, l⟩

/-- The dependency entry of a follower after a taken LEAD; removal comes first (R15, R16, R76, R77). -/
def State.updateDependency (s : State) (f : FeedNo) : State :=
  let removed := s.deps.remove f
  match s.crossSectorLead f with
  | none => { s with deps := removed }
  | some n =>
    let s' := { s with deps := removed.record n f }
    if removed.count < Config.dependencyCapacity then s' else s'.raise (.dependencyOverflow n)

def State.storeLead (s : State) (f : FeedNo) (l : Option FeedNo) : State :=
  let e := s.feed f
  (s.setFeed f { e with lead := l }).updateDependency f

/-- The POLICY notices of a LEAD: the tier policy first, the cross-stand setting second (R69). -/
def State.notifyLead (s : State) (f l : FeedNo) : State :=
  (s.notifyPolicy (s.policyFor (s.feed f).tier (s.feed l).tier) ⟨.feed f, .feed l, .lead⟩).notifyPolicy
    (s.crossStandFor f l) ⟨.feed f, .feed l, .crossStand⟩

def State.notifyOptLead (s : State) (f : FeedNo) : Option FeedNo → State
  | some l => s.notifyLead f l
  | none => s

/-- Taking a LEAD (R15, R16). -/
def State.applyLead (s : State) (p : LeadPlan) : State :=
  ((s.storeLead p.follower p.lead).notifyOptLead p.follower p.lead).queueFeed p.follower

def State.requestLead (s : State) (i : LeadItems) : State × Answer :=
  let (s', r) := s.takeChange (s.testLead i) (fun p => .feed p.follower) (fun p s => s.applyLead p)
  (s', answerOf (fun _ => okBody []) r)

def execLead (r : Request LeadItems) (s : State) : Result :=
  .next <| serveNow r (fun i => accepts .feed i.follower && accepts .feed i.lead) (fun i s => s.requestLead i) s

/-! ### CLEAR FEED (R20) -/

def State.testClearFeed (s : State) (ref : RecordRef) : Except Status FeedNo := do
  let f ← s.refFeed ref
  s.requireNoLongOperation
  require (!(s.locked && (s.feed f).overrideAction ≠ .keep)) .locked
  require (!s.hasFollowers f) .hasFollowers
  return f

/-- The cold-start values, label, tier, sector and revision kept; both bindings lose their references (R20). -/
def State.applyClearFeed (s : State) (f : FeedNo) : State :=
  let e := s.feed f
  let s := s.setFeed f
    { e with
      bus := 0, binding := none, overrideBinding := none, overrideAction := .keep, lead := none
      excessPath := 0, geomDelay := none }
  let s := { s with deps := s.deps.remove f }
  ((s.dropOptional e.binding).dropOptional e.overrideBinding).queueFeed f

def State.requestClearFeed (s : State) (ref : RecordRef) : State × Answer :=
  let (s', r) := s.takeChange (s.testClearFeed ref) (fun f => .feed f) (fun f s => s.applyClearFeed f)
  (s', answerOf (fun _ => okBody []) r)

def execClearFeed (r : Request RecordRef) (s : State) : Result :=
  .next <| serveNow r (accepts .feed) (fun i s => s.requestClearFeed i) s

/-! ### BIND, UNBIND, BIND-OVERRIDE, UNBIND-OVERRIDE (R43 to R46) -/

/-- A feed and the profile it would bind. -/
structure BindPlan where
  feed : FeedNo
  profile : HandleIx
  deriving DecidableEq, Repr

/-- The three checks of R43: the name, RETIRING, the tier policy. -/
def State.testBindTo (s : State) (f : FeedNo) (ref : RecordRef) : Except Status BindPlan := do
  let h ← s.refProfile ref
  require ((s.handle h).state ≠ .retiring) .retiring
  require (s.policyToProfile (s.feed f).tier h ≠ .refuse) .policyRefused
  return ⟨f, h⟩

def State.testBind (s : State) (i : BindItems) : Except Status BindPlan := do
  let f ← s.refFeed i.feed
  s.requireNoLongOperation
  s.testBindTo f i.profile

/-- Taking a BIND (R43). -/
def State.applyBind (s : State) (p : BindPlan) : State :=
  let e := s.feed p.feed
  let outcome := s.policyToProfile e.tier p.profile
  let h := s.currentHandle p.profile
  (((s.setFeed p.feed { e with binding := some h }).replaceReference e.binding p.profile).notifyPolicy outcome
    ⟨.feed p.feed, .profile h, .bind⟩).queueFeed p.feed

def State.requestBind (s : State) (i : BindItems) : State × Answer :=
  let (s', r) := s.takeChange (s.testBind i) (fun p => .feed p.feed) (fun p s => s.applyBind p)
  (s', answerOf (fun _ => okBody []) r)

def bindFormed (i : BindItems) : Bool := accepts .feed i.feed && accepts .profile i.profile

def execBind (r : Request BindItems) (s : State) : Result :=
  .next <| serveNow r bindFormed (fun i s => s.requestBind i) s

def State.testUnbind (s : State) (ref : RecordRef) : Except Status FeedNo := do
  let f ← s.refFeed ref
  s.requireNoLongOperation
  return f

/-- Taking an UNBIND (R44). -/
def State.applyUnbind (s : State) (f : FeedNo) : State :=
  let e := s.feed f
  ((s.setFeed f { e with binding := none }).dropOptional e.binding).queueFeed f

def State.requestUnbind (s : State) (ref : RecordRef) : State × Answer :=
  let (s', r) := s.takeChange (s.testUnbind ref) (fun f => .feed f) (fun f s => s.applyUnbind f)
  (s', answerOf (fun _ => okBody []) r)

def execUnbind (r : Request RecordRef) (s : State) : Result :=
  .next <| serveNow r (accepts .feed) (fun i s => s.requestUnbind i) s

def State.testBindOverride (s : State) (i : BindItems) : Except Status BindPlan := do
  let f ← s.refFeed i.feed
  s.requireNoLongOperation
  s.requireUnlocked
  s.testBindTo f i.profile

/-- Taking a BIND-OVERRIDE: the action becomes SWITCH (R6, R45). -/
def State.applyBindOverride (s : State) (p : BindPlan) : State :=
  let e := s.feed p.feed
  let outcome := s.policyToProfile e.tier p.profile
  let h := s.currentHandle p.profile
  (((s.setFeed p.feed { e with overrideBinding := some h, overrideAction := .switch }).replaceReference
    e.overrideBinding p.profile).notifyPolicy outcome
    ⟨.feed p.feed, .profile h, .bindOverride⟩).queueFeed p.feed

def State.requestBindOverride (s : State) (i : BindItems) : State × Answer :=
  let (s', r) := s.takeChange (s.testBindOverride i) (fun p => .feed p.feed) (fun p s => s.applyBindOverride p)
  (s', answerOf (fun _ => okBody []) r)

def execBindOverride (r : Request BindItems) (s : State) : Result :=
  .next <| serveNow r bindFormed (fun i s => s.requestBindOverride i) s

def State.testUnbindOverride (s : State) (ref : RecordRef) : Except Status FeedNo := do
  let f ← s.refFeed ref
  s.requireNoLongOperation
  s.requireUnlocked
  return f

/-- Taking an UNBIND-OVERRIDE: the action becomes KEEP, whatever it was (R6, R46). -/
def State.applyUnbindOverride (s : State) (f : FeedNo) : State :=
  let e := s.feed f
  ((s.setFeed f { e with overrideBinding := none, overrideAction := .keep }).dropOptional
    e.overrideBinding).queueFeed f

def State.requestUnbindOverride (s : State) (ref : RecordRef) : State × Answer :=
  let (s', r) := s.takeChange (s.testUnbindOverride ref) (fun f => .feed f) (fun f s => s.applyUnbindOverride f)
  (s', answerOf (fun _ => okBody []) r)

def execUnbindOverride (r : Request RecordRef) (s : State) : Result :=
  .next <| serveNow r (accepts .feed) (fun i s => s.requestUnbindOverride i) s

end Sys2Proof.Machine
end

