-- ==== Sys2Proof/Machine/Profiles.lean ====
section
/-! DEFINITION. Profile requests: CREATE PROFILE, CLONE, EDIT SECTIONS, BASE, RETIRE, REVIVE, and SET of feed and
profile fields (R27 to R49, R160). -/

namespace Sys2Proof.Machine

/-! ### Tests that several requests share (R35) -/

/-- Step 4: a content edit of an override profile, or of the base of one, is locked (R35, R140). -/
def State.requireContentFree (s : State) (h : HandleIx) : Except Status Unit :=
  require (!(s.locked && s.isOverrideProfile h)) .locked

/-- Step 5. -/
def State.requireNotRetiring (s : State) (h : HandleIx) : Except Status Unit :=
  require ((s.handle h).state ≠ .retiring) .retiring

def State.hasBase (s : State) (h : HandleIx) : Bool := (s.baseOf h).isSome

/-- The tests that storing a base asks of it: it has no base itself, the composed profile keeps to 16 sections, and
the tier policy does not refuse the pair (R28, R30, R37, R41). -/
def State.testBaseOf (s : State) (tier : Tier) (own : Nat) (b : HandleIx) : Except Status Unit := do
  require (!s.hasBase b) .tooDeep
  require (s.ownCount b + own ≤ Config.maxComposed) .tooManySections
  require (s.policyToProfile tier b ≠ .refuse) .policyRefused

/-- Whether a content edit of the profile that a reference names would wait: the profile is in move (R35, R61). -/
def State.editWaits (s : State) (ref : RecordRef) : Bool :=
  match s.refProfile ref with
  | .ok h => (s.handle h).inMove
  | .error _ => false

/-! ### CREATE PROFILE and CLONE (R37, R38) -/

/-- What a tested CREATE PROFILE or CLONE would make. -/
structure CreatePlan where
  handle : HandleIx
  extent : Extent
  free : List Extent
  record : ProfileRecord
  deriving DecidableEq, Repr

/-- The lowest-numbered FREE handle (R37). -/
def State.lowestFree (s : State) : Option HandleIx :=
  allHandles.find? fun h => (s.handle h).state = .free

/-- The tests of a record's base, when it names one (R37). -/
def State.testNewBase (s : State) (r : ProfileRecord) : Except Status Unit :=
  match r.base with
  | none => .ok ()
  | some b => do
    s.requireNotRetiring b.ix
    s.testBaseOf r.tier r.sections.length b.ix

/-- Steps 5 to 7 of R35 for a new record. -/
def State.testNewRecord (s : State) (r : ProfileRecord) : Except Status CreatePlan := do
  s.testNewBase r
  match s.lowestFree with
  | none => throw .noHandle
  | some h =>
    let (x, free) ← allocate (recordWords r.sections.length) s.pool.free
    return ⟨h, x, free, r⟩

/-- The names a CREATE PROFILE gives: its base (R32, R35 step 2). -/
def State.nameBase (s : State) : Option RawHandle → Except Status (Option Handle)
  | none => .ok none
  | some b => (s.nameHandle b.number b.generation).map fun h => some (s.currentHandle h)

def State.testCreate (s : State) (p : ProfileContent) : Except Status CreatePlan := do
  require (contentInRange p) .badValue
  let base ← s.nameBase p.base
  s.requireNoLongOperation
  s.testNewRecord
    { label := p.label, tier := p.tier, base := base, latencyTrim := p.latencyTrim, gainTrim := p.gainTrim
      polarity := p.polarity, sections := p.sections }

/-- The new handle at the generation it holds. -/
def State.newHandle (s : State) (p : CreatePlan) : Handle := s.currentHandle p.handle

/-- A new record's reference to its base (R33, R37). -/
def State.referToBase (s : State) (h : Handle) (r : ProfileRecord) : State :=
  match r.base with
  | none => s
  | some b =>
    (s.raiseCount b.ix).notifyPolicy (s.policyToProfile r.tier b.ix) ⟨.profile h, .profile b, .base⟩

/-- Taking a CREATE PROFILE or CLONE: the handle becomes LIVE, the record is written, the cursor moves (R37). -/
def State.applyCreate (s : State) (p : CreatePlan) : State :=
  let h := s.newHandle p
  let s' := s.setHandle p.handle
    { state := .live, gen := h.gen, extent := some p.extent, refCount := 0, inMove := false
      record := some p.record }
  (({ s' with pool := { s'.pool with free := p.free } }).referToBase h p.record).setCursor (.profile h)

/-- The reply of CREATE PROFILE and CLONE carries the new handle (R37). -/
def newHandleReply (h : Handle) : Answer := okBody (byte1 (handleNumber h.ix) ++ byte1 h.gen.val)

def State.requestNew (s : State) (tested : Except Status CreatePlan) : State × Answer :=
  let (s', r) := s.takeChange tested (fun p => .profile (s.newHandle p)) (fun p s => s.applyCreate p)
  (s', answerOf (fun p => newHandleReply (s.newHandle p)) r)

def execCreateProfile (r : Request ProfileContent) (s : State) : Result :=
  .next <| serveNow r anyItems (fun p s => s.requestNew (s.testCreate p)) s

def State.testClone (s : State) (ref : RecordRef) : Except Status CreatePlan := do
  let h ← s.refProfile ref
  s.requireNoLongOperation
  match (s.handle h).record with
  | some r => s.testNewRecord r
  | none => throw .free

def execClone (r : Request RecordRef) (s : State) : Result :=
  .next <| serveNow r (accepts .profile) (fun ref s => s.requestNew (s.testClone ref)) s

/-! ### EDIT SECTIONS (R40) -/

/-- What a tested EDIT SECTIONS would store. -/
structure EditPlan where
  handle : HandleIx
  extent : Extent
  free : List Extent
  deriving DecidableEq, Repr

/-- The section limit with P's base and with every profile that names P as base (R30). -/
def State.sectionsFit (s : State) (h : HandleIx) (n : Nat) : Bool :=
  (match s.baseOf h with
    | some b => s.ownCount b.ix + n ≤ Config.maxComposed
    | none => true) &&
  (s.derivedOf h).all fun d => n + s.ownCount d ≤ Config.maxComposed

def State.testEditSections (s : State) (i : EditSectionsItems) : Except Status EditPlan := do
  require (sectionsInRange i.sections) .badValue
  let h ← s.refProfile i.profile
  s.requireNoLongOperation
  s.requireContentFree h
  s.requireNotRetiring h
  require (s.sectionsFit h i.sections.length) .tooManySections
  let (x, free) ← resize ((s.handle h).extent.getD ⟨0, 0⟩) (recordWords i.sections.length) s.pool.free
  return ⟨h, x, free⟩

/-- Taking an EDIT SECTIONS: list and extent as one step, then the feeds of a content edit (R36, R40). -/
def State.applyEditSections (s : State) (sections : List EqSection) (p : EditPlan) : State :=
  let e := s.handle p.handle
  let s' := s.setHandle p.handle
    { e with extent := some p.extent, record := e.record.map fun r => { r with sections := sections } }
  ({ s' with pool := { s'.pool with free := p.free } }).queueFeeds (s.feedsReaching p.handle)

/-- EDIT SECTIONS tested and taken or refused, with no wait. -/
def State.requestEditSections (s : State) (i : EditSectionsItems) : State × Answer :=
  let (s', r) := s.takeChange (s.testEditSections i) (fun p => .profile (s.currentHandle p.handle))
    (fun p s => s.applyEditSections i.sections p)
  (s', answerOf (fun _ => okBody []) r)

/-- A content edit waits while its profile is in move, else it is answered in its step (R61). -/
def State.editOrWait (s : State) (ref : RecordRef) (edit : WaitingEdit) (now : State × Answer) : State × Work :=
  if s.editWaits ref then (s, .waiting edit) else (now.1, .answered now.2)

def execEditSections (r : Request EditSectionsItems) (s : State) : Result :=
  .next <| serve r (fun i => accepts .profile i.profile)
    (fun i s => s.editOrWait i.profile (.sections i) (s.requestEditSections i)) s

/-! ### BASE (R41, R42) -/

structure BasePlan where
  handle : HandleIx
  base : Option Handle
  deriving DecidableEq, Repr

/-- The base a reference names, or none for NONE. -/
def State.refBase (s : State) (ref : RecordRef) : Except Status (Option HandleIx) :=
  if isNoBase ref then .ok none else (s.refProfile ref).map some

def State.tierOf (s : State) (h : HandleIx) : Tier :=
  match (s.handle h).record with
  | some r => r.tier
  | none => .programme

/-- Steps 5 and 6 of R35 for BASE with a profile (R41); BASE with NONE passes none of them (R42). -/
def State.testNewBaseOf (s : State) (h : HandleIx) : Option HandleIx → Except Status Unit
  | none => .ok ()
  | some b => do
    s.requireNotRetiring b
    require (b ≠ h && !s.isBase h) .tooDeep
    s.testBaseOf (s.tierOf h) (s.ownCount h) b

def State.testBase (s : State) (i : BaseItems) : Except Status BasePlan := do
  let h ← s.refProfile i.profile
  let b ← s.refBase i.base
  s.requireNoLongOperation
  s.requireContentFree h
  s.requireNotRetiring h
  s.testNewBaseOf h b
  return ⟨h, b.map s.currentHandle⟩

/-- Writes the base field of a record. -/
def State.storeBase (s : State) (h : HandleIx) (b : Option Handle) : State :=
  let e := s.handle h
  s.setHandle h { e with record := e.record.map fun r => { r with base := b } }

/-- The counts and the notice of a change of base (R41, R42). -/
def State.changeBaseReference (s : State) (h : HandleIx) (old new : Option Handle) : State :=
  match new with
  | none => s.dropOptional old
  | some b =>
    (s.replaceReference old b.ix).notifyPolicy (s.policyToProfile (s.tierOf h) b.ix)
      ⟨.profile (s.currentHandle h), .profile b, .base⟩

/-- Taking a BASE (R41, R42). -/
def State.applyBase (s : State) (p : BasePlan) : State :=
  ((s.storeBase p.handle p.base).changeBaseReference p.handle (s.baseOf p.handle) p.base).queueFeeds
    (s.feedsReaching p.handle)

def State.requestBase (s : State) (i : BaseItems) : State × Answer :=
  let (s', r) := s.takeChange (s.testBase i) (fun p => .profile (s.currentHandle p.handle))
    (fun p s => s.applyBase p)
  (s', answerOf (fun _ => okBody []) r)

def execBase (r : Request BaseItems) (s : State) : Result :=
  .next <| serve r (fun i => accepts .profile i.profile && accepts .profile i.base)
    (fun i s => s.editOrWait i.profile (.base i) (s.requestBase i)) s

/-! ### SET of a profile field (R39) -/

/-- The tests of R35 for SET of one profile, named by number and generation; a label is never refused (R39). -/
def State.testSetProfile (s : State) (number gen field : Nat) (value : Int) :
    Except Status (HandleIx × ProfileChange) := do
  match profileChange field value with
  | none => throw .badValue
  | some c =>
    let h ← s.nameHandle number gen
    s.requireNoLongOperation
    match c with
    | .label _ => return (h, c)
    | .tier _ =>
      s.requireNotRetiring h
      require ((s.handle h).refCount = 0 && !s.hasBase h) .inUse
      return (h, c)
    | .latencyTrim _ | .gainTrim _ | .polarity _ =>
      s.requireContentFree h
      s.requireNotRetiring h
      return (h, c)

def ProfileRecord.change (r : ProfileRecord) : ProfileChange → ProfileRecord
  | .label v => { r with label := v }
  | .tier v => { r with tier := v }
  | .latencyTrim v => { r with latencyTrim := v }
  | .gainTrim v => { r with gainTrim := v }
  | .polarity v => { r with polarity := v }

/-- Taking a SET of a profile field; a content edit queues the feeds that reach the profile (R36, R39). -/
def State.applyProfileChange (s : State) (h : HandleIx) (c : ProfileChange) : State :=
  let e := s.handle h
  let s' := s.setHandle h { e with record := e.record.map fun r => r.change c }
  if c.isContent then s'.queueFeeds (s.feedsReaching h) else s'

def State.setOneProfile (s : State) (number gen field : Nat) (value : Int) :
    State × Except Status (HandleIx × ProfileChange) :=
  s.takeChange (s.testSetProfile number gen field value) (fun p => .profile (s.currentHandle p.1))
    (fun p s => s.applyProfileChange p.1 p.2)

/-- Whether a change of the field is a content edit (R36). -/
def contentField (field : Nat) : Bool := field = 2 || field = 3 || field = 4

/-- Whether SET of this record would wait: a content edit of a profile in move, named at its generation (R61, R160). -/
def State.setWaits (s : State) (field number gen : Nat) : Bool :=
  contentField field &&
  match s.nameHandle number gen with
  | .ok h => (s.handle h).inMove
  | .error _ => false

def profileRef (number gen : Nat) : RecordRef := .numbered .profile number gen

/-- The records of a SET of profiles one at a time: the first is named under the generation given, the others under
their present ones; one in move makes the request wait there (R160). -/
def setProfilesLoop (field : Nat) (value : Int) : List Nat → Option Nat → Nat → State → State × Work
  | [], _, done, s => (s, .answered (okBody (byte1 done)))
  | n :: rest, named, done, s =>
    let gen := named.getD (s.presentGen .profile n)
    if s.setWaits field n gen then (s, .waiting (.set ⟨n :: rest, named, field, value, done⟩))
    else
      match s.setOneProfile n gen field value with
      | (s', .ok (h, _)) =>
        setProfilesLoop field value rest none (done + 1) (s'.setCursor (.profile (s'.currentHandle h)))
      | (s', .error st) => (s', .answered ⟨st, byte1 done ++ (profileRef n gen).bytes⟩)

/-! ### SET with count and step (R160) -/

/-- The class, first generation and numbers of the records of a SET (R160). -/
def State.setRange (s : State) (i : SetItems) : Except Status (Target × List Nat) := do
  require (oneToSixteen i.count && oneToSixteen i.step) .badValue
  let t ← s.resolve i.ref
  require (t.cls = .feed || t.cls = .profile) .noReference
  let ns := recordNumbers t.number i.count i.step
  require (ns.all (inClass t.cls)) .outOfRange
  return (t, ns)

/-- Whether a SET waits, untested, at its first record, a profile in move (R61, R160). -/
def State.setFirstWaits (s : State) (i : SetItems) : Bool :=
  match s.setRange i with
  | .ok (t, _) => t.cls = .profile && s.setWaits i.field t.number t.gen
  | .error _ => false

/-- Supplied profile content is checked before anything else (R27), but for a content edit that waits: its content is
checked when the move completes (R35, R61; log 16). A field byte beyond the profile list is refused with the content,
the model's own choice (log 43). -/
def State.setContentBad (s : State) (i : SetItems) : Bool :=
  s.refClass i.ref = some .profile && (profileChange i.field i.value).isNone && !s.setFirstWaits i

/-- The records of a SET, once its content has been checked (R27, R160). -/
def State.setPlan (s : State) (i : SetItems) : Except Status (Target × List Nat) := do
  require (!s.setContentBad i) .badValue
  s.setRange i

def feedsOf (ns : List Nat) : List FeedNo :=
  ns.filterMap fun n => if h : n < 96 then some ⟨n, h⟩ else none

def State.requestSet (s : State) (i : SetItems) : State × Work :=
  match s.setPlan i with
  | .error st => (s, .answered (refusal st))
  | .ok (t, ns) =>
    match t.cls with
    | .feed =>
      let (s', a) := setFeedsLoop i.field i.value (feedsOf ns) 0 s
      (s', .answered a)
    | .profile => setProfilesLoop i.field i.value ns (some t.gen) 0 s
    | .sector | .sensor => (s, .answered (refusal .noReference))

def execSet (r : Request SetItems) (s : State) : Result :=
  .next <| serve r (fun i => accepts .feed i.ref || accepts .profile i.ref) (fun i s => s.requestSet i) s

/-! ### RETIRE and REVIVE (R47, R49) -/

def State.testNamed (s : State) (ref : RecordRef) : Except Status HandleIx := do
  let h ← s.refProfile ref
  s.requireNoLongOperation
  return h

/-- Taking a RETIRE: by state and count (R47). -/
def State.applyRetire (s : State) (h : HandleIx) : State :=
  let e := s.handle h
  match e.state with
  | .live => if e.refCount = 0 then s.freeHandle h else s.setHandle h { e with state := .retiring }
  | .free | .retiring => s

def State.requestRetire (s : State) (ref : RecordRef) : State × Answer :=
  let (s', r) := s.takeChange (s.testNamed ref) (fun h => .profile (s.currentHandle h)) (fun h s => s.applyRetire h)
  (s', answerOf (fun _ => okBody []) r)

def execRetire (r : Request RecordRef) (s : State) : Result :=
  .next <| serveNow r (accepts .profile) (fun ref s => s.requestRetire ref) s

/-- Taking a REVIVE: RETIRING returns to LIVE, LIVE stays (R49). -/
def State.applyRevive (s : State) (h : HandleIx) : State :=
  let e := s.handle h
  match e.state with
  | .retiring => s.setHandle h { e with state := .live }
  | .free | .live => s

def State.requestRevive (s : State) (ref : RecordRef) : State × Answer :=
  let (s', r) := s.takeChange (s.testNamed ref) (fun h => .profile (s.currentHandle h)) (fun h s => s.applyRevive h)
  (s', answerOf (fun _ => okBody []) r)

def execRevive (r : Request RecordRef) (s : State) : Result :=
  .next <| serveNow r (accepts .profile) (fun ref s => s.requestRevive ref) s

end Sys2Proof.Machine
end

