-- ==== Sys2Proof/Machine/Compaction.lean ====
section
/-! DEFINITION. Compaction: COMPACT START and STOP, the completion of a move, and the content edit that waits for it
(R56 to R66). -/

namespace Sys2Proof.Machine

/-! ### COMPACT START and COMPACT STOP (R57, R64) -/

def State.compactionIdle (s : State) : Bool := s.pool.compaction = .idle

/-- No SAVE, LOAD or start-up wait is in flight. -/
def State.imageIdle (s : State) : Bool := s.image = .idle

def State.requestCompactStart (s : State) : State × Answer :=
  if s.compactionIdle && s.imageIdle then (s.nextMove, ⟨.started, []⟩) else (s, refusal .busy)

def execCompactStart (r : Request Unit) (s : State) : Result :=
  .next <| serveNow r anyItems (fun _ s => s.requestCompactStart) s

def State.requestCompactStop (s : State) : State × Answer :=
  match s.pool.compaction with
  | .running => ({ s with pool := { s.pool with compaction := .stopping } }, okBody [])
  | .stopping => (s, okBody [])
  | .idle => (s, okBody [])

def execCompactStop (r : Request Unit) (s : State) : Result :=
  .next <| serveNow r anyItems (fun _ s => s.requestCompactStop) s

/-! ### The completion of a move (R60, R61) -/

/-- Steps 1 and 2: the record ends at its destination, and the rest of its span returns to the list. -/
def State.settleMove (s : State) (m : MoveRecord) : State :=
  let e := s.handle m.handle
  { s with
    handles := s.handles.upd m.handle { e with extent := some ⟨m.spanStart, m.recordLen⟩, inMove := false }
    pool :=
      { s.pool with free := giveBack ⟨m.spanStart + m.recordLen, m.spanLen - m.recordLen⟩ s.pool.free } }

/-- A waiting edit tested and, if it passes, taken, against the records and watches of this moment (R61). -/
def State.runEdit (s : State) : WaitingEdit → State × Work
  | .sections i => let (s', a) := s.requestEditSections i; (s', .answered a)
  | .base i => let (s', a) := s.requestBase i; (s', .answered a)
  | .set job => setProfilesLoop job.field job.value job.numbers job.gen job.done s

/-- The reply of an edit that waited fills the slot in the same step (R61). -/
def State.placeEditReply (s : State) (tag : Byte) : Work → State
  | .answered a =>
    { s with port := { s.port with slot := some ⟨a.status, tag, a.body⟩, inProgress := none } }
  | .waiting e => s.setInProgress tag (.waiting e)

/-- The content edit that waits for the move, with its tag. -/
def State.waitingEdit (s : State) : Option (Byte × WaitingEdit) :=
  match s.port.inProgress with
  | some ⟨tag, .waiting e⟩ => some (tag, e)
  | some ⟨_, .answered _⟩ => none
  | none => none

/-- Step 3. -/
def State.takeWaitingEdit (s : State) : State :=
  match s.waitingEdit with
  | some (tag, e) => let (s', w) := s.runEdit e; s'.placeEditReply tag w
  | none => s

/-- Step 4: the move record goes, and compaction begins its next move, completes or ends. -/
def State.endMove (s : State) : State :=
  let s := { s with pool := { s.pool with move := none } }
  match s.pool.compaction, s.chooseMove with
  | .stopping, some _ => { s with pool := { s.pool with compaction := .idle } }
  | _, _ => s.nextMove

/-- The four steps of R60, as one. -/
def State.completeMove (s : State) : State :=
  match s.pool.move with
  | some m => (s.settleMove m).takeWaitingEdit.endMove
  | none => s

/-- MOVE_COMPLETE; with no move in flight it has no effect (log 1). -/
def execMoveComplete (s : State) : Result := .next s.completeMove

/-- DEFERRED_EDIT: the waiting content edit is taken at the completion of its profile's move; the two rows name one
step of the block, this one only while an edit waits (R60 step 3, R61; log 31). -/
def execDeferredEdit (s : State) : Result :=
  .next <| if s.waitingEdit.isSome then s.completeMove else s

end Sys2Proof.Machine
end

