-- ==== Sys2Proof/Machine/OverrideUnit.lean ====
section
/-! DEFINITION. The Override Unit: the ALARM line, ENGAGE and DISENGAGE (R133 to R135). -/

namespace Sys2Proof.Machine

/-- The level of the ALARM line, which the unit follows once RESET is high (R133, R134). -/
def State.setAlarm (s : State) (level : Bool) : State :=
  let s' := { s with pins := { s.pins with alarm := level } }
  if s.pins.resetLow then s' else s'.changeSources .alarm { s.override with alarmActive := level }

def execAlarmAssertion (s : State) : Result := .next (s.setAlarm true)

def execAlarmDeassertion (s : State) : Result := .next (s.setAlarm false)

/-- ENGAGE and DISENGAGE: the port source, and the reply as the unit then stands (R135). -/
def State.setPortSource (s : State) (active : Bool) : State × Answer :=
  let s' := s.changeSources .port { s.override with portActive := active }
  (s', okBody s'.override.bytes)

def execEngage (r : Request Unit) (s : State) : Result :=
  .next <| serveNow r anyItems (fun _ s => s.setPortSource true) s

def execDisengage (r : Request Unit) (s : State) : Result :=
  .next <| serveNow r anyItems (fun _ s => s.setPortSource false) s

end Sys2Proof.Machine
end

