-- ==== Sys2Proof/Machine/References.lean ====
section
/-! DEFINITION. The Reference Check Unit's settings and the rebuild of the Dependency Pool (R70, R74, R82). -/

namespace Sys2Proof.Machine

/-! ### POLICY SET (R70) -/

def changePair (c : PolicyChange) : Fin 16 := policyIx c.referrer c.referred

/-- No two changes name the same pair. -/
def pairsDistinct (cs : List PolicyChange) : Bool := (cs.map changePair).Nodup

def storeChange (t : Table PolicyOutcome 16) (c : PolicyChange) : Table PolicyOutcome 16 :=
  t.upd (changePair c) c.outcome

/-- The 16 entries, row by row. -/
def State.policyBytes (s : State) : List Byte :=
  (List.finRange 16).flatMap fun i => byte1 (s.policy.get i).code

/-- POLICY SET: an empty list reads the table in every state (R70). The manual gives no order for a list that names a pair
twice and a save or load in flight: the model answers BAD-VALUE before SAVING and LOADING, its own choice (log 42). -/
def State.requestPolicySet (s : State) (cs : List PolicyChange) : State × Answer :=
  if cs.isEmpty then (s, okBody s.policyBytes)
  else if !pairsDistinct cs then (s, refusal .badValue)
  else
    match s.longOperation with
    | some st => (s, refusal st)
    | none =>
      let s' := ({ s with policy := cs.foldl storeChange s.policy }).endWait
      (s', okBody s'.policyBytes)

def execPolicySet (r : Request (List PolicyChange)) (s : State) : Result :=
  .next <| serveNow r (fun cs => cs.length ≤ 16) (fun cs s => s.requestPolicySet cs) s

/-! ### CROSS-STAND SET (R74) -/

/-- CROSS-STAND SET: with nothing it reads the setting in every state (R74). -/
def State.requestCrossStandSet (s : State) : Option PolicyOutcome → State × Answer
  | none => (s, okBody (byte1 s.crossStand.code))
  | some v =>
    match s.longOperation with
    | some st => (s, refusal st)
    | none => (({ s with crossStand := v }).endWait, okBody (byte1 v.code))

def execCrossStandSet (r : Request (Option PolicyOutcome)) (s : State) : Result :=
  .next <| serveNow r anyItems (fun v s => s.requestCrossStandSet v) s

/-! ### REBUILD DEPENDENCIES (R82) -/

/-- Whether a LOAD is in flight. -/
def State.loading (s : State) : Bool :=
  match s.image with
  | .loading _ => true
  | .idle | .waiting _ | .saving => false

/-- Feeds found, entries recorded, the marked sectors (R82). -/
def State.rebuildBody (s : State) : List Byte :=
  byte1 s.crossSectorFollowers.length ++ byte1 s.deps.count ++ bytes2 (sectorSetOf s.deps.overflow.get)

def State.requestRebuild (s : State) : State × Answer :=
  if s.loading then (s, refusal .loading)
  else
    let s' := s.rebuildDependencies
    (s', okBody s'.rebuildBody)

def execRebuildDependencies (r : Request Unit) (s : State) : Result :=
  .next <| serveNow r anyItems (fun _ s => s.requestRebuild) s

end Sys2Proof.Machine
end

