-- ==== Sys2Proof/Machine/Render.lean ====
section
/-! DEFINITION. The Render Engine: block boundaries, transitions, the take of PENDING, sector holds, and what the
override's engagement and disengagement do to each feed (R117 to R131, R136 to R141). -/

namespace Sys2Proof.Machine

/-! ### HOLD and RELEASE (R129 to R131) -/

def SectorHold.ask (h : SectorHold) (yes : Bool) : SectorHold := { h with request := yes }

/-- The hold requests of the named sectors become `yes` (R130, R131). -/
def State.requestHolds (s : State) (set : SectorSet) (yes : Bool) : State :=
  { s with holds := Table.tab fun n => if set.getLsbD n.val then (s.holds.get n).ask yes else s.holds.get n }

/-- The sectors with a hold request, and the sectors held. -/
def State.holdBody (s : State) : List Byte :=
  bytes2 (sectorSetOf fun n => (s.holds.get n).request) ++ bytes2 (sectorSetOf fun n => (s.holds.get n).held)

def State.changeHolds (s : State) (set : SectorSet) (yes : Bool) : State × Answer :=
  if set = 0 then (s, refusal .badValue)
  else
    let s' := s.requestHolds set yes
    (s', okBody s'.holdBody)

def execHold (r : Request SectorSet) (s : State) : Result :=
  .next <| serveNow r anyItems (fun set s => s.changeHolds set true) s

def execRelease (r : Request SectorSet) (s : State) : Result :=
  .next <| serveNow r anyItems (fun set s => s.changeHolds set false) s

/-! ### Transitions (R119, R120, R122, R125) -/

def OutputLeft.ofSetting : Option Setting → OutputLeft
  | some p => .setting p
  | none => .silence

/-- The setting that the output source plays when no transition is in flight; absent is silence (R117, R127). -/
def FeedRender.played (r : FeedRender) : Option Setting :=
  match r.source with
  | .normal => r.active
  | .standby => r.standbyInPlay
  | .mute => none

/-- The output of a transition when so many of its blocks have been heard (R119, R125; log 23). -/
def Transition.outputAfter (t : Transition) (blocksDone : Nat) : OutputLeft :=
  .partWay t.kind t.left t.target blocksDone t.length

/-- What the output plays between two boundaries: a transition in flight as far as it is counted, else the setting of its
source (R117). -/
def FeedRender.outputNow (r : FeedRender) : OutputLeft :=
  match r.transition with
  | some t => t.outputAfter t.blocksDone
  | none => .ofSetting r.played

/-- What the output plays as a boundary finds it: one more block of a transition in flight has been heard than the last
boundary counted (R119, R125, R137, R141). -/
def FeedRender.outputAtBoundary (r : FeedRender) : OutputLeft :=
  match r.transition with
  | some t => t.outputAfter (t.blocksDone + 1)
  | none => .ofSetting r.played

/-- The two ways in which a glide changes the output delay (R120). -/
inductive GlideMethod | tapSlip | tapCrossfade
  deriving DecidableEq, Repr

/-- The method of a glide, by the size of the change of delay: 512 sub-samples are 32 samples (R120). -/
def glideMethod (old new : Int) : GlideMethod := if (new - old).natAbs ≤ Config.tapSlipMax then .tapSlip else .tapCrossfade

/-- The method of a glide in flight; its record's two ends, fixed when it began, choose it (R120). -/
def Transition.method (t : Transition) : Option GlideMethod :=
  match t.kind, t.left, t.target with
  | .glide, .setting old, some new => some (glideMethod old.outputDelay new.outputDelay)
  | _, _, _ => none

/-! ### What moves (R119, R120) -/

/-- A level between silence and the full level of a setting; part of the way as its two ends and the blocks done, since the
manual gives no curve (log 23). -/
inductive Level
  | silent
  | full
  | partWay (start stop : Level) (blocksDone length : Nat)
  deriving DecidableEq, Repr

/-- A level that moves from `start` to `stop`. -/
def Level.toward (start stop : Level) (blocksDone length : Nat) : Level :=
  if length ≤ blocksDone then stop
  else if start = stop || blocksDone = 0 then start
  else .partWay start stop blocksDone length

/-- The delay at which a setting is played: one value, or on its way between two by a method of R120. -/
inductive PlayedDelay
  | steady (d : Int)
  | moving (method : GlideMethod) (old new : Int) (blocksDone length : Nat)
  deriving DecidableEq, Repr

/-- A setting as an output plays it. -/
structure Voice where
  delay : PlayedDelay
  sections : List EqSection
  gain : Int
  polarity : Polarity
  bus : Bus
  level : Level
  deriving DecidableEq, Repr

def Setting.voice (p : Setting) (level : Level) : Voice :=
  ⟨.steady p.outputDelay, p.sections, p.gain, p.polarity, p.bus, level⟩

/-- A GLIDE: the delay moves, and everything else is the target's from the first block (R119, R120). -/
def Setting.glidingVoice (new : Setting) (old : Int) (blocksDone length : Nat) : Voice :=
  { new.voice .full with
    delay :=
      if length ≤ blocksDone then .steady new.outputDelay
      else .moving (glideMethod old new.outputDelay) old new.outputDelay blocksDone length }

/-- A voice of the output that a FADE-OUT or a CROSSFADE leaves (R119). -/
def Voice.falling (v : Voice) (blocksDone length : Nat) : Voice :=
  { v with level := v.level.toward .silent blocksDone length }

/-- The level of a setting at rest; absent is silence. -/
def levelOf (p : Option Setting) : Level := if p.isSome then .full else .silent

/-- The level that an output has reached as a whole (R119, R137; log 23). -/
def OutputLeft.level : OutputLeft → Level
  | .silence => .silent
  | .setting _ => .full
  | .partWay .glide _ _ _ _ => .full
  | .partWay .fadeIn left _ done length => left.level.toward .full done length
  | .partWay .fadeOut left _ done length => left.level.toward .silent done length
  | .partWay .crossfade left target done length => left.level.toward (levelOf target) done length
  | .atLevelOf _ reached => reached.level

/-- The voices of an output, by the table of R119: a GLIDE moves the delay; a FADE-IN raises the level of its target; a
FADE-OUT lowers the output it began from; a CROSSFADE lowers that output and raises its target, each with its own complete
setting. A cut leaves its result at the level reached (R137). -/
def OutputLeft.voices : OutputLeft → List Voice
  | .silence => []
  | .setting p => [p.voice .full]
  | .partWay .glide (.setting old) (some new) done length => [new.glidingVoice old.outputDelay done length]
  | .partWay .glide _ target _ _ => target.toList.map fun p => p.voice .full
  | .partWay .fadeIn left target done length =>
    target.toList.map fun p => p.voice (left.level.toward .full done length)
  | .partWay .fadeOut left _ done length => left.voices.map fun v => v.falling done length
  | .partWay .crossfade left target done length =>
    (left.voices.map fun v => v.falling done length) ++
      target.toList.map fun p => p.voice (Level.silent.toward .full done length)
  | .atLevelOf (some p) reached => [p.voice reached.level]
  | .atLevelOf none reached => reached.voices

/-- What a feed's output plays (R117, R119). -/
def FeedRender.voices (r : FeedRender) : List Voice := r.outputNow.voices

/-! ### Begin and end of a transition (R119, R122, R125) -/

/-- The begin of a transition: blocks done is 0 and the length is fixed (R119). -/
def FeedRender.begin (r : FeedRender) (kind : TransitionKind) (left : OutputLeft) (target : Option Setting)
    (length : Nat) : FeedRender :=
  { r with transition := some ⟨kind, left, target, 0, length⟩ }

/-- A fade or a crossfade takes 4 blocks (R119). -/
def FeedRender.beginFade (r : FeedRender) (kind : TransitionKind) (left : OutputLeft) (target : Option Setting) :
    FeedRender :=
  r.begin kind left target Config.fadeBlocks

/-- The completion of a transition, by its kind and the output source (R122). The pairs the table leaves out, which no
run reaches, change no setting (log 37). -/
def FeedRender.complete (r : FeedRender) (t : Transition) : FeedRender :=
  let r' := { r with transition := none }
  match t.kind, r.source with
  | .glide, .normal => { r' with active := t.target }
  | .glide, .standby => { r' with standbyInPlay := t.target }
  | .fadeIn, .normal => { r' with active := t.target }
  | .fadeOut, .normal => { r' with active := none }
  | .fadeOut, .mute => r'
  | .crossfade, .standby => { r' with standbyInPlay := t.target }
  | .crossfade, .normal => { r' with active := t.target }
  | .glide, .mute | .fadeIn, .standby | .fadeIn, .mute | .fadeOut, .standby | .crossfade, .mute => r'

/-- One block more of a transition, and its completion when it reaches its length (R121, test 2). -/
def FeedRender.advance (r : FeedRender) (t : Transition) : FeedRender :=
  let t' := { t with blocksDone := t.blocksDone + 1 }
  if t'.blocksDone = t'.length then r.complete t' else { r with transition := some t' }

/-- A transition in flight is cut short: its completion's effect is made at once (R125). -/
def FeedRender.cutShort (r : FeedRender) : FeedRender :=
  match r.transition with
  | some t => r.complete t
  | none => r

/-- The output as a cut leaves it: the cut's result, at the level the output had reached (R137, step 1; log 23). -/
def FeedRender.outputAfterCut (r : FeedRender) : OutputLeft :=
  match r.transition with
  | some _ => .atLevelOf r.cutShort.played r.outputAtBoundary
  | none => r.outputAtBoundary

/-- TRANSITION_COMPLETE: a transition whose blocks done has reached its length completes (R122). The boundary that
reaches the length completes it in its own step (R121), so that none is left for this command (log 27). -/
def execTransitionComplete (f : FeedNo) (s : State) : Result :=
  .next <|
    let r := s.renderOf f
    match r.transition with
    | some t => if t.blocksDone = t.length then s.setRender f (r.complete t) else s
    | none => s

/-! ### One feed's step (R121, R123, R126, R128, R138) -/

/-- A silence order for an output that does not carry ACTIVE (R126, R137 step 2). -/
def FeedRender.dropQuietly (r : FeedRender) : FeedRender :=
  if r.silenceOrder then { r with silenceOrder := false, active := none } else r

/-- A silence order carried out by a feed's own step (R126; log 24). -/
def FeedRender.carrySilence (r : FeedRender) : FeedRender :=
  match r.source with
  | .normal => ({ r with silenceOrder := false }).beginFade .fadeOut r.outputAtBoundary none
  | .standby => r.dropQuietly
  | .mute => r.dropQuietly

/-- PENDING `p` taken by a feed whose source is NORMAL (R120, R123). -/
def FeedRender.take (r : FeedRender) (p : Setting) (glide : Nat) : FeedRender :=
  let r' := { r with pending := none }
  match r.active with
  | none => r'.beginFade .fadeIn .silence (some p)
  | some a =>
    if a.outputDelay = p.outputDelay then { r' with active := some p }
    else r'.begin .glide (.setting a) (some p) glide

/-- The standby update of a feed on STANDBY (R128). -/
def FeedRender.updateStandby (r : FeedRender) (glide : Nat) : FeedRender :=
  if r.standby = r.standbyInPlay then r
  else
    match r.standby, r.standbyInPlay with
    | some p, some q =>
      if q.outputDelay = p.outputDelay then { r with standbyInPlay := some p }
      else r.begin .glide (.setting q) (some p) glide
    | some p, none => r.begin .glide .silence (some p) glide
    | none, _ => r

/-- A STANDBY that arrives for a muted SWITCH feed (R138). -/
def FeedRender.lateStandby (r : FeedRender) : FeedRender :=
  match r.standby with
  | some p =>
    ({ r with standbyInPlay := some p, source := .standby }).beginFade .crossfade .silence (some p)
  | none => r

/-- The conditions of R123 other than the output source and the watches: the PENDING that may be taken. -/
def State.takeable (s : State) (f : FeedNo) : Option Setting :=
  let r := s.renderOf f
  if (s.holds.get (s.feed f).sector).held || r.takeStopped then none else r.pending

/-- The take of a feed's PENDING, when it is due and no watch stops it; a stopped take sets the mark (R123). -/
def State.testTake (s : State) (f : FeedNo) : State × Option Setting :=
  match s.takeable f with
  | none => (s, none)
  | some p =>
    let (s', stopped) := s.watchTest .take (.feed f)
    if stopped then
      let r := s'.renderOf f
      (s'.setRender f { r with takeStopped := true }, none)
    else (s', some p)

def State.glideOf (s : State) (f : FeedNo) : Nat := (s.sector (s.feed f).sector).config.glide

/-- Test 4 of R121. -/
def State.stepTake (s : State) (f : FeedNo) : State :=
  match s.testTake f with
  | (s', some p) => s'.setRender f ((s'.renderOf f).take p (s'.glideOf f))
  | (s', none) => s'

/-- Whether a muted feed looks for a late STANDBY (R138). -/
def State.looksForStandby (s : State) (f : FeedNo) : Bool :=
  s.override.applied = .engaged && (s.feed f).overrideAction = .switch

/-- A feed's step (R121). -/
def State.stepFeed (s : State) (f : FeedNo) : State :=
  let r := s.renderOf f
  if r.silenceOrder then s.setRender f r.carrySilence
  else
    match r.transition, r.source with
    | some t, _ => s.setRender f (r.advance t)
    | none, .standby => s.setRender f (r.updateStandby (s.glideOf f))
    | none, .mute => if s.looksForStandby f then s.setRender f r.lateStandby else s
    | none, .normal => s.stepTake f

/-! ### Engagement and disengagement of one feed (R137, R141) -/

/-- Step 3 of R137: `sw` says whether the action is SWITCH, `left` is the output that step 1 leaves. -/
def FeedRender.leaveNormal (r : FeedRender) (sw : Bool) (left : OutputLeft) : FeedRender :=
  match sw, r.standby with
  | true, some p =>
    ({ r with source := .standby, standbyInPlay := some p }).beginFade .crossfade left (some p)
  | _, _ => ({ r with source := .mute, standbyInPlay := none }).beginFade .fadeOut left none

/-- The three steps of R137; the output that step 1 leaves stands through the silence order of step 2. -/
def FeedRender.engage (r : FeedRender) (sw : Bool) : FeedRender :=
  r.cutShort.dropQuietly.leaveNormal sw r.outputAfterCut

/-- The engagement at a feed (R137). -/
def State.engageFeed (s : State) (f : FeedNo) : State :=
  match (s.feed f).overrideAction with
  | .keep => s.stepFeed f
  | .silence => s.setRender f ((s.renderOf f).engage false)
  | .switch => s.setRender f ((s.renderOf f).engage true)

/-- Step 4 of R141: the return from STANDBY or MUTE to a taken PENDING, to ACTIVE or to silence. -/
def FeedRender.return (r : FeedRender) (left : OutputLeft) (taken : Option Setting) : FeedRender :=
  let r' := { r with standbyInPlay := none, source := .normal, transition := none }
  match r.source, taken with
  | .mute, some p => ({ r' with pending := none }).beginFade .fadeIn left (some p)
  | .mute, none => if r.active.isSome then r'.beginFade .fadeIn left r.active else r'
  | _, some p => ({ r' with pending := none, active := some p }).beginFade .crossfade left (some p)
  | _, none => r'.beginFade .crossfade left r.active

/-- The disengagement at a feed (R141). -/
def State.disengageFeed (s : State) (f : FeedNo) : State :=
  let r := s.renderOf f
  match r.source with
  | .normal => s.stepFeed f
  | .standby | .mute =>
    let (s', taken) := (s.setRender f ({ r with transition := none }).dropQuietly).testTake f
    s'.setRender f ((s'.renderOf f).return r.outputAtBoundary taken)

/-! ### The block boundary (R107, R121, R129, R136) -/

/-- Each held flag takes its hold request (R129). -/
def State.updateHolds (s : State) : State :=
  { s with holds := Table.tab fun n => ⟨(s.holds.get n).request, (s.holds.get n).request⟩ }

/-- What a boundary does to a feed, by the override's state and applied state (R136). -/
def State.boundaryFeed (state applied : OverrideState) : State → FeedNo → State :=
  match state, applied with
  | .engaged, .clear => State.engageFeed
  | .clear, .engaged => State.disengageFeed
  | .clear, .clear => State.stepFeed
  | .engaged, .engaged => State.stepFeed

def State.applyOverride (s : State) : State := { s with override := { s.override with applied := s.override.state } }

/-- The compare of R136 and the feeds, in feed order (log 25). -/
def State.stepFeeds (s : State) : State :=
  allFeeds.foldl (State.boundaryFeed s.override.state s.override.applied) s.applyOverride

def Sector.countBlock (e : Sector) : Sector :=
  if e.sinceChange.isSome then { e with blocks := e.blocks + 1 } else e

def Reading.countBlock (x : Reading) : Reading := { x with blocksLeft := x.blocksLeft - 1 }

def Channel.countBlock (c : Channel) : Channel :=
  { c with toNext := c.toNext - 1, reading := c.reading.map Reading.countBlock }

def ImageStatus.countBlock : ImageStatus → ImageStatus
  | .waiting n => .waiting (n + 1)
  | .idle => .idle
  | .saving => .saving
  | .loading p => .loading p

/-- The clocks that count blocks: since change, the reading schedules, the start-up wait (R107; log 28, 29, 30). -/
def State.countBlocks (s : State) : State :=
  { s with
    sectors := Table.tab fun n => (s.sector n).countBlock
    channels := Table.tab fun k => (s.channel k).countBlock
    image := s.image.countBlock }

/-- BLOCK_BOUNDARY; while RESET is low it finds every feed silent and changes nothing (R132). -/
def execBlockBoundary (s : State) : Result :=
  .next <| if s.pins.resetLow then s else s.updateHolds.stepFeeds.countBlocks

end Sys2Proof.Machine
end

