-- ==== Sys2Proof/Machine/ImageRecords.lean ====
section
/-! DEFINITION. The record set of the stored image: what a save writes, and the tests that a load puts to what it reads
(R165, R166, R168). -/

namespace Sys2Proof.Machine

/-! ### What a save writes (R165) -/

def FeedEntry.saved (e : FeedEntry) : RawFeed where
  label := e.label.toNat
  tier := e.tier.code
  sector := e.sector.val
  bus := e.bus.val
  binding := e.binding.map Handle.raw
  overrideBinding := e.overrideBinding.map Handle.raw
  overrideAction := e.overrideAction.code
  lead := e.lead.map Fin.val
  excessPath := e.excessPath

def savedSection (x : EqSection) : RawSection where
  shape := x.shape.code
  enabled := x.enabled
  frequency := x.frequency
  gain := x.gain
  width := x.width

def ProfileRecord.saved (p : ProfileRecord) (h : Handle) (st : HandleState) : RawProfile where
  handle := h.raw
  state := st.code
  label := p.label.toNat
  tier := p.tier.code
  base := p.base.map Handle.raw
  latencyTrim := p.latencyTrim
  gainTrim := p.gainTrim
  polarity := p.polarity.code
  sections := p.sections.map savedSection

def SectorConfig.saved (g : SectorConfig) : RawSector where
  stand := g.stand.val
  mode := g.mode.code
  fixedTemp := g.fixedTemp
  hysteresis := g.hysteresis
  settle := g.settle
  glide := g.glide

def ChannelConfig.saved (g : ChannelConfig) : RawChannel where
  enabled := g.enabled
  positive := g.positive.code
  negative := g.negative.code
  gain := g.gain
  offsetTrim := g.offsetTrim
  probe := g.probe.code
  interval := g.interval
  sector := g.sector.map Fin.val

/-- The saved record of a LIVE or RETIRING handle. -/
def State.savedProfile (s : State) (h : HandleIx) : Option RawProfile :=
  match (s.handle h).state with
  | .free => none
  | .live | .retiring => (s.handle h).record.map fun p => p.saved (s.currentHandle h) (s.handle h).state

/-- The record set as it stands (R165). -/
def State.savedRecords (s : State) : RawImage where
  feeds := allFeeds.map fun f => (s.feed f).saved
  profiles := allHandles.filterMap s.savedProfile
  sectors := allSectors.map fun n => (s.sector n).config.saved
  channels := allChannels.map fun k => (s.channel k).config.saved
  policy := (List.finRange 16).map fun i => (s.policy.get i).code
  crossStand := s.crossStand.code
  noticeMask := s.noticeMask.toNat

/-! ### The ranges of a loaded image (R168, test 2) -/

/-- Exactly `n` records, each in its ranges. -/
def readTable {α β : Type} (n : Nat) (read : α → Option β) (xs : List α) : Option (Table β n) :=
  match xs.mapM read with
  | some ys => if h : ys.length = n then some ⟨ys, h⟩ else none
  | none => none

def whenTrue {α : Type} (b : Bool) (a : α) : Option α := if b then some a else none

def readFinNat (n v : Nat) : Option (Fin n) := if h : v < n then some ⟨v, h⟩ else none

def readLabel (v : Nat) : Option (BitVec 16) := whenTrue (v < 65536) (BitVec.ofNat 16 v)

/-- An optional field: absent, or read. -/
def readOptional {α β : Type} (read : α → Option β) : Option α → Option (Option β)
  | none => some none
  | some a => (read a).map some

/-- A handle of an image: number 1-255, generation 0-15. -/
def readHandle (r : RawHandle) : Option Handle := do
  let ix ← handleIx r.number
  let gen ← readFinNat 16 r.generation
  return ⟨ix, gen⟩

def readFeedRecord (r : RawFeed) : Option SavedFeed := do
  let label ← readLabel r.label
  let tier ← Tier.all[r.tier]?
  let sector ← readFinNat 16 r.sector
  let bus ← readFinNat 8 r.bus
  let binding ← readOptional readHandle r.binding
  let overrideBinding ← readOptional readHandle r.overrideBinding
  let action ← OverrideAction.all[r.overrideAction]?
  let lead ← readOptional (readFinNat 96) r.lead
  let path ← whenTrue (inRangeInt (-250000) 250000 r.excessPath) r.excessPath
  return ⟨label, tier, sector, bus, binding, overrideBinding, action, lead, path⟩

def readSectionRecord (r : RawSection) : Option EqSection := do
  let shape ← Shape.all[r.shape]?
  let x : EqSection := ⟨shape, r.enabled, r.frequency, r.gain, r.width⟩
  whenTrue (sectionInRange x) x

/-- LIVE is 1 and RETIRING is 2 (R31). -/
def readRetiring : Nat → Option Bool
  | 1 => some false
  | 2 => some true
  | _ => none

def readProfileRecord (r : RawProfile) : Option SavedProfile := do
  let handle ← readHandle r.handle
  let retiring ← readRetiring r.state
  let label ← readLabel r.label
  let tier ← Tier.all[r.tier]?
  let base ← readOptional readHandle r.base
  let trim ← whenTrue (trimInRange r.latencyTrim) r.latencyTrim
  let gain ← whenTrue (gainTrimInRange r.gainTrim) r.gainTrim
  let polarity ← Polarity.all[r.polarity]?
  let sections ← r.sections.mapM readSectionRecord
  whenTrue (sections.length ≤ Config.maxOwn)
    ⟨handle, retiring, ⟨label, tier, base, trim, gain, polarity, sections⟩⟩

def sectorConfigInRange (g : SectorConfig) : Bool :=
  plausible g.fixedTemp && 5 ≤ g.hysteresis && g.hysteresis ≤ 200 && 5 ≤ g.settle && g.settle ≤ 600 &&
  8 ≤ g.glide && g.glide ≤ 1536

def readSectorRecord (r : RawSector) : Option SectorConfig := do
  let stand ← readFinNat 4 r.stand
  let mode ← SectorMode.all[r.mode]?
  let g : SectorConfig := ⟨stand, mode, r.fixedTemp, r.hysteresis, r.settle, r.glide⟩
  whenTrue (sectorConfigInRange g) g

def channelConfigInRange (g : ChannelConfig) : Bool :=
  gainAllowed g.gain && inRangeInt (-15) 15 g.offsetTrim && 1 ≤ g.interval && g.interval ≤ 60 &&
  g.positive ≠ g.negative

def readChannelRecord (r : RawChannel) : Option ChannelConfig := do
  let positive ← AnalogInput.all[r.positive]?
  let negative ← AnalogInput.all[r.negative]?
  let probe ← ProbeKind.all[r.probe]?
  let sector ← readOptional (readFinNat 16) r.sector
  let g : ChannelConfig := ⟨r.enabled, positive, negative, r.gain, r.offsetTrim, probe, r.interval, sector⟩
  whenTrue (channelConfigInRange g) g

/-- Test 2 but for the handle numbers being distinct. -/
def readRecords (r : RawImage) : Option Image := do
  let feeds ← readTable 96 readFeedRecord r.feeds
  let profiles ← r.profiles.mapM readProfileRecord
  let sectors ← readTable 16 readSectorRecord r.sectors
  let channels ← readTable 8 readChannelRecord r.channels
  let policy ← readTable 16 (fun v => PolicyOutcome.all[v]?) r.policy
  let crossStand ← PolicyOutcome.all[r.crossStand]?
  let mask ← whenTrue (r.noticeMask < 2048) (BitVec.ofNat 11 r.noticeMask)
  return ⟨feeds, profiles, sectors, channels, policy, crossStand, mask⟩

/-! ### The other tests (R168, tests 1 and 3 to 8) -/

/-- The profile of an image at a handle number. -/
def Image.profileAt (g : Image) (h : HandleIx) : Option SavedProfile := g.profiles.find? fun p => p.handle.ix = h

def Image.handlesDistinct (g : Image) : Bool := (g.profiles.map fun p => p.handle.ix).Nodup

/-- A handle number and generation that a profile of the image holds. -/
def Image.holds (g : Image) (h : Handle) : Bool := g.profiles.any fun p => p.handle = h

/-- Test 3. -/
def Image.referencesHeld (g : Image) : Bool :=
  (allFeeds.all fun f =>
    optAll g.holds (g.feeds.get f).binding && optAll g.holds (g.feeds.get f).overrideBinding) &&
  g.profiles.all fun p => optAll g.holds p.record.base

/-- Test 4. -/
def Image.actionsMatch (g : Image) : Bool :=
  allFeeds.all fun f =>
    ((g.feeds.get f).overrideAction = .switch) == (g.feeds.get f).overrideBinding.isSome

def Image.leadOf (g : Image) (f : FeedNo) : Option FeedNo := (g.feeds.get f).lead

/-- Test 5: a chain that returns to its start has more than four links too. -/
def Image.chainsShort (g : Image) : Bool :=
  allFeeds.all fun f => (chainAbove g.leadOf (Config.maxDepth + 1) f).length ≤ Config.maxDepth

/-- The base of a profile of the image. -/
def Image.baseOf (g : Image) (p : SavedProfile) : Option SavedProfile := p.record.base.bind fun b => g.profileAt b.ix

/-- Test 6: a base names no base, and so is not the profile itself. -/
def Image.basesPlain (g : Image) : Bool := g.profiles.all fun p => optAll (fun b => b.record.base.isNone) (g.baseOf p)

/-- Test 7. -/
def Image.sectionsFit (g : Image) : Bool :=
  g.profiles.all fun p =>
    p.record.sections.length + (((g.baseOf p).map fun b => b.record.sections.length).getD 0) ≤ Config.maxComposed

def namesHandle (h : HandleIx) (r : Option Handle) : Bool := r.map Handle.ix = some h

/-- The reference count of a handle from the feeds and the given profiles (R33, R169). -/
def Image.countIn (g : Image) (ps : List SavedProfile) (h : HandleIx) : Nat :=
  (allFeeds.filter fun f => namesHandle h (g.feeds.get f).binding).length +
  (allFeeds.filter fun f => namesHandle h (g.feeds.get f).overrideBinding).length +
  (ps.filter fun p => namesHandle h p.record.base).length

/-- A RETIRING profile whose count is 0 is freed. -/
def Image.staysAmong (g : Image) (ps : List SavedProfile) (p : SavedProfile) : Bool :=
  !p.retiring || 0 < g.countIn ps p.handle.ix

/-- The profiles that survive the freeing of R169: those freed at once, then the bases these bring to 0. -/
def Image.survivors (g : Image) : List SavedProfile :=
  let first := g.profiles.filter (g.staysAmong g.profiles)
  first.filter (g.staysAmong first)

def SavedProfile.words (p : SavedProfile) : Nat := recordWords p.record.sections.length

/-- Test 8. -/
def Image.fitsPool (g : Image) : Bool := (g.survivors.map SavedProfile.words).sum ≤ Config.poolWords

/-- Tests 3 to 8, and the handle numbers of test 2. -/
def Image.consistent (g : Image) : Bool :=
  g.handlesDistinct && g.referencesHeld && g.actionsMatch && g.chainsShort && g.basesPlain && g.sectionsFit &&
  g.fitsPool

/-- The CRC-32 an image holds equals the one computed over it (test 1). -/
def crcMatches (format : Nat) (records : RawImage) : ImageCrc → Bool
  | .computed => true
  | .word w => w = crc32 (Config.imageBytes format records)

/-- The validation of what the flash holds (R168); `none` is INVALID. -/
def validate : FlashContents → Option Image
  | .noImage => none
  | .writing _ => none
  | .image format records crc =>
    if format = Config.imageFormat && crcMatches format records crc then
      match readRecords records with
      | some g => whenTrue g.consistent g
      | none => none
    else none

end Sys2Proof.Machine
end

