-- ==== Sys2Proof/Machine/StoredImage.lean ====
section
/-! DEFINITION. SAVE and LOAD, the replacement of the tables, cold start and the start-up wait (R166 to R171). -/

namespace Sys2Proof.Machine

/-! ### SAVE (R166) -/

/-- BUSY is the only refusal of SAVE; it ends no start-up wait (R65, R166, R171). -/
def State.requestSave (s : State) : State × Answer :=
  if s.pool.compaction = .idle && s.image = .idle then
    ({ s with image := .saving, flash := .writing s.savedRecords }, ⟨.started, []⟩)
  else (s, refusal .busy)

def execSave (r : Request Unit) (s : State) : Result :=
  .next <| serveNow r anyItems (fun _ s => s.requestSave) s

/-- Whether the flash answers and the read-back CRC matches the written one. -/
def readBackMatches (records : RawImage) : SaveReadBack → Bool
  | .noAnswer => false
  | .intact => true
  | .bytes read => crc32 read = crc32 (Config.imageBytes Config.imageFormat records)

/-- The flash after a save, and the outcome. -/
def saveOutcome (flash : FlashContents) (readBack : SaveReadBack) : FlashContents × SaveOutcome :=
  match flash with
  | .writing records =>
    if readBackMatches records readBack then (.image Config.imageFormat records .computed, .written)
    else (.noImage, .failed)
  | .noImage => (.noImage, .failed)
  | .image _ _ _ => (.noImage, .failed)

/-- SAVE_COMPLETE; with no save in flight it has no effect (R166; log 1). -/
def execSaveComplete (readBack : SaveReadBack) (s : State) : Result :=
  .next <|
    match s.image with
    | .saving =>
      let (flash, outcome) := saveOutcome s.flash readBack
      ({ s with image := .idle, flash := flash }).raise (.saveDone outcome)
    | .idle | .waiting _ | .loading _ => s

/-! ### LOAD (R65, R167) -/

/-- A SAVE or a LOAD is in flight. -/
def State.transferring (s : State) : Bool := s.longOperation.isSome

def State.requestLoad (s : State) : State × Answer :=
  if s.pool.compaction ≠ .idle || s.transferring then (s, refusal .busy)
  else if s.locked then (s, refusal .locked)
  else ({ s with image := .loading .reading }, ⟨.started, []⟩)

def execLoad (r : Request Unit) (s : State) : Result :=
  .next <| serveNow r anyItems (fun _ s => s.requestLoad) s

/-! ### The replacement of the tables (R3, R31, R66, R116, R169) -/

/-- A feed entry with its saved fields replaced (R3). -/
def FeedEntry.replaced (e : FeedEntry) (v : SavedFeed) : FeedEntry where
  label := v.label
  tier := v.tier
  sector := v.sector
  bus := v.bus
  binding := v.binding
  overrideBinding := v.overrideBinding
  overrideAction := v.overrideAction
  lead := v.lead
  excessPath := v.excessPath
  geomDelay := none
  revision := e.revision
  resolution := .new
  faultReason := none

/-- A FREE handle at a generation. -/
def HandleEntry.freed (gen : Generation) : HandleEntry := { HandleEntry.reset with gen := gen }

/-- The words of the surviving records at lower handles: where a record is placed (R66). -/
def Image.offsetOf (g : Image) (h : HandleIx) : Nat :=
  ((g.survivors.filter fun p => p.handle.ix < h).map SavedProfile.words).sum

def Image.usedWords (g : Image) : Nat := (g.survivors.map SavedProfile.words).sum

/-- A handle entry after a load: a survivor is placed at its own length; a profile freed by R169 and a handle the image
leaves out that was in use move to the next generation (R31, R34, R169). -/
def HandleEntry.replaced (e : HandleEntry) (g : Image) (h : HandleIx) : HandleEntry :=
  match g.survivors.find? (fun p => p.handle.ix = h), g.profileAt h with
  | some p, _ =>
    { state := if p.retiring then .retiring else .live
      gen := p.handle.gen
      extent := some ⟨g.offsetOf h, p.words⟩
      refCount := g.countIn g.survivors h
      inMove := false
      record := some p.record }
  | none, some p => HandleEntry.freed (p.handle.gen + 1)
  | none, none => if e.state = .free then e else HandleEntry.freed (e.gen + 1)

/-- The pool after a load (R66). -/
def Image.pool (g : Image) : Pool where
  free := if g.usedWords = Config.poolWords then [] else [⟨g.usedWords, Config.poolWords - g.usedWords⟩]
  compaction := .idle
  move := none

/-- A channel after a load (R116). -/
def Channel.replaced (c : Channel) (g : ChannelConfig) : Channel where
  config := g
  state := if g.enabled then .warming else .off
  window := []
  average := none
  lastCode := none
  reading := c.reading.map Reading.voided
  toNext := if g.enabled then g.interval * Config.blocksPerSecond else 0

/-- A sector after a load; the speed change of a FIXED one queues no feed of its own (R116). -/
def Sector.replaced (e : Sector) (g : SectorConfig) : Sector :=
  let e' := { e with config := g, deferred := false, sensedTemp := none }
  match g.mode with
  | .fixed =>
    let e'' := { e' with status := .fixed, awaitingFix := false }
    if speedAt g.fixedTemp = e.speed then e'' else e''.changeSpeed (speedAt g.fixedTemp)
  | .sensed => { e' with status := .degraded, awaitingFix := true }

/-- The tables of every block but the Dependency Pool and the Resolve Queue. -/
def State.withTables (s : State) (g : Image) : State :=
  { s with
    feeds := Table.tab fun f => (s.feed f).replaced (g.feeds.get f)
    handles := Table.tab fun h => (s.handle h).replaced g h
    pool := g.pool
    policy := g.policy
    crossStand := g.crossStand
    channels := Table.tab fun k => (s.channel k).replaced (g.channels.get k)
    sectors := Table.tab fun n => (s.sector n).replaced (g.sectors.get n)
    noticeMask := g.noticeMask }

/-- The Resolve Queue emptied, then all 96 feeds queued in feed order; a resolution in flight runs on (R83). -/
def State.requeueAll (s : State) : State :=
  ({ s with resolver := { s.resolver with queue := [] } }).queueFeeds allFeeds

/-- The end of a load, with its notice (R167, R169). -/
def State.endLoad (s : State) (o : LoadOutcome) : State := ({ s with image := .idle }).raise (.loadDone o)

/-- The replacement of the tables, as one step (R169). -/
def State.replaceTables (s : State) (g : Image) : State :=
  ((s.withTables g).requeueAll.rebuildDependencies).endLoad .loaded

/-- The end of a load of an invalid image (R167). -/
def State.rejectImage (s : State) : State := (s.raise .imageInvalid).endLoad .invalid

/-- What the flash answers, and holds, at the end of the reading. -/
def answerContents (held : FlashContents) : FlashAnswer → FlashContents × FlashContents
  | .noAnswer => (.noImage, held)
  | .held => (held, held)
  | .exchanged c => (c, c)

/-- The image read and validated (R167, R168). -/
def State.finishRead (s : State) (answer : FlashAnswer) : State :=
  let (read, flash) := answerContents s.flash answer
  let s := { s with flash := flash }
  match validate read with
  | none => s.rejectImage
  | some g => if s.locked then { s with image := .loading (.held g) } else s.replaceTables g

/-- LOAD_READ_COMPLETE; with no load that reads it has no effect (R167; log 1). -/
def execLoadReadComplete (answer : FlashAnswer) (s : State) : Result :=
  .next <|
    match s.image with
    | .loading .reading => s.finishRead answer
    | .loading (.held _) | .idle | .waiting _ | .saving => s

/-- HELD_LOAD_REPLACEMENT: while the state or the applied state is ENGAGED the tables are not replaced (R142; log 32). -/
def execHeldLoadReplacement (s : State) : Result :=
  .next <|
    match s.image with
    | .loading (.held g) => if s.locked then s else s.replaceTables g
    | .loading .reading | .idle | .waiting _ | .saving => s

/-! ### Cold start and the start-up wait (R170, R171) -/

/-- STARTUP_WAIT_EXPIRY: a start-up load begins (R171); with no wait it has no effect (log 1). -/
def execStartupWaitExpiry (s : State) : Result :=
  .next <|
    match s.image with
    | .waiting _ => { s with image := .loading .reading }
    | .idle | .saving | .loading _ => s

/-- An incomplete write leaves no valid image (R166). -/
def flashAfterReset : FlashContents → FlashContents
  | .writing _ => .noImage
  | .noImage => .noImage
  | .image format records crc => .image format records crc

/-- COLD_START: every block takes its cold-start values; the levels of the other pins, the flash and the commands that
wait stand outside the part (R170; log 3). -/
def execColdStart (s : State) : Result :=
  .next
    { State.reset with
      flash := flashAfterReset s.flash
      pins := { s.pins with resetLow := true }
      pending := s.pending }

/-- The reply that the slot holds at the end of cold start (R149). -/
def startReply : Reply := ⟨.ok, 0, []⟩

/-- The ALARM line sampled at the end of cold start (R134). -/
def State.sampleAlarm (s : State) : State :=
  if s.pins.alarm then s.changeSources .alarm { s.override with alarmActive := true } else s

/-- What the STARTUP pin begins (R170). -/
def startupStatus : StartupPin → ImageStatus
  | .auto => .loading .reading
  | .wait => .waiting 0

/-- COLD_START_END: RESET goes high and the pins are sampled; with RESET high already it has no effect
(R149, R170; log 1). -/
def execColdStartEnd (startup : StartupPin) (s : State) : Result :=
  .next <|
    if s.pins.resetLow then
      ({ s with
          pins := { s.pins with resetLow := false, startup := startup }
          port := { s.port with slot := some startReply }
          image := startupStatus startup }).sampleAlarm
    else s

end Sys2Proof.Machine
end

