-- ==== Sys2Proof/Machine/WatchUnit.lean ====
section
/-! DEFINITION. The requests that configure and read the watches (R148). -/

namespace Sys2Proof.Machine

def spanAllowed (n : Nat) : Bool := n = 1 || n = 2 || n = 4 || n = 8 || n = 16

/-- The base number lies in the class's range (R143). -/
def baseInRange (cls : WatchClass) (n : Nat) : Bool :=
  match cls with
  | .feed => n ≤ 95
  | .profile => 1 ≤ n && n ≤ 255

/-- The access set is not empty, and holds neither AUTO-CHANGE nor TAKE for class PROFILE (R148). -/
def accessesAllowed (cls : WatchClass) (a : AccessSet) : Bool :=
  (a.portLook || a.portChange || a.autoChange || a.take) &&
  match cls with
  | .feed => true
  | .profile => !a.autoChange && !a.take

/-- The configurations that WATCH SET takes (R148). -/
def watchConfigAllowed (c : WatchConfig) : Bool :=
  spanAllowed c.span && baseInRange c.cls c.base && accessesAllowed c.cls c.accesses

/-- The watch of a number; another number is refused (R148). -/
def watchNo (n : Nat) : Option WatchNo := if h : n < 2 then some ⟨n, h⟩ else none

def State.heldFeeds (s : State) : List FeedNo := allFeeds.filter fun f => (s.feed f).resolution = .held

def FeedRender.unstop (r : FeedRender) : FeedRender := { r with takeStopped := false }

/-- A reconfiguration: every HELD feed is queued, and every take stopped mark cleared (R148). -/
def State.reconfigure (s : State) : State :=
  let s := s.queueFeeds s.heldFeeds
  { s with render := Table.tab fun f => (s.renderOf f).unstop }

def State.setWatch (s : State) (i : WatchNo) (w : Watch) : State := { s with watches := s.watches.upd i w }

/-- The configuration as stored, with the block of numbers covered. -/
def watchSetBody (c : WatchConfig) : List Byte := c.bytes ++ Config.watchBlockBytes c.blockStart c.blockEnd

def State.requestWatchSet (s : State) (i : WatchSetItems) : State × Answer :=
  match watchNo i.watch with
  | none => (s, refusal .badValue)
  | some n =>
    if watchConfigAllowed i.config then
      let w := s.watches.get n
      ((s.setWatch n { w with config := i.config }).reconfigure, okBody (watchSetBody i.config))
    else (s, refusal .badValue)

def execWatchSet (r : Request WatchSetItems) (s : State) : Result :=
  .next <| serveNow r anyItems (fun i s => s.requestWatchSet i) s

def Watch.disabled (w : Watch) : Watch := { config := { w.config with enabled := false }, lastHit := none }

def State.requestWatchClear (s : State) (number : Nat) : State × Answer :=
  match watchNo number with
  | none => (s, refusal .badValue)
  | some n =>
    let w := s.watches.get n
    ((s.setWatch n w.disabled).reconfigure, okBody (optHitBytes w.lastHit))

def execWatchClear (r : Request Nat) (s : State) : Result :=
  .next <| serveNow r anyItems (fun n s => s.requestWatchClear n) s

def State.requestReadWatch (s : State) (number : Nat) : State × Answer :=
  match watchNo number with
  | none => (s, refusal .badValue)
  | some n =>
    let w := s.watches.get n
    (s.setWatch n { w with lastHit := none }, okBody (w.config.bytes ++ optHitBytes w.lastHit))

def execReadWatch (r : Request Nat) (s : State) : Result :=
  .next <| serveNow r anyItems (fun n s => s.requestReadWatch n) s

end Sys2Proof.Machine
end

