-- ==== Sys2Proof/Machine/Dispatch.lean ====
section
/-! DEFINITION. What each command does: one call of its meaning for each constructor of Instr. -/

namespace Sys2Proof.Machine

def exec (i : Instr) (s : State) : Host.Outcome State Fault Refusal :=
  match i with
  | .coldStart => Sys2Proof.Machine.execColdStart s
  | .coldStartEnd startup => Sys2Proof.Machine.execColdStartEnd startup s
  | .alarmAssertion => Sys2Proof.Machine.execAlarmAssertion s
  | .alarmDeassertion => Sys2Proof.Machine.execAlarmDeassertion s
  | .transactionBegin => Sys2Proof.Machine.execTransactionBegin s
  | .discardedRequest => Sys2Proof.Machine.execDiscardedRequest s
  | .badFrame tag reason => Sys2Proof.Machine.execBadFrame tag reason s
  | .badCommand tag => Sys2Proof.Machine.execBadCommand tag s
  | .nop r => Sys2Proof.Machine.execNop r s
  | .status r => Sys2Proof.Machine.execStatus r s
  | .look r => Sys2Proof.Machine.execLook r s
  | .set r => Sys2Proof.Machine.execSet r s
  | .find r => Sys2Proof.Machine.execFind r s
  | .createProfile r => Sys2Proof.Machine.execCreateProfile r s
  | .clone r => Sys2Proof.Machine.execClone r s
  | .editSections r => Sys2Proof.Machine.execEditSections r s
  | .base r => Sys2Proof.Machine.execBase r s
  | .retire r => Sys2Proof.Machine.execRetire r s
  | .revive r => Sys2Proof.Machine.execRevive r s
  | .bind r => Sys2Proof.Machine.execBind r s
  | .unbind r => Sys2Proof.Machine.execUnbind r s
  | .bindOverride r => Sys2Proof.Machine.execBindOverride r s
  | .unbindOverride r => Sys2Proof.Machine.execUnbindOverride r s
  | .lead r => Sys2Proof.Machine.execLead r s
  | .clearFeed r => Sys2Proof.Machine.execClearFeed r s
  | .hold r => Sys2Proof.Machine.execHold r s
  | .release r => Sys2Proof.Machine.execRelease r s
  | .engage r => Sys2Proof.Machine.execEngage r s
  | .disengage r => Sys2Proof.Machine.execDisengage r s
  | .compactStart r => Sys2Proof.Machine.execCompactStart r s
  | .compactStop r => Sys2Proof.Machine.execCompactStop r s
  | .rebuildDependencies r => Sys2Proof.Machine.execRebuildDependencies r s
  | .save r => Sys2Proof.Machine.execSave r s
  | .load r => Sys2Proof.Machine.execLoad r s
  | .watchSet r => Sys2Proof.Machine.execWatchSet r s
  | .watchClear r => Sys2Proof.Machine.execWatchClear r s
  | .readWatch r => Sys2Proof.Machine.execReadWatch r s
  | .sensorSet r => Sys2Proof.Machine.execSensorSet r s
  | .sectorSet r => Sys2Proof.Machine.execSectorSet r s
  | .policySet r => Sys2Proof.Machine.execPolicySet r s
  | .crossStandSet r => Sys2Proof.Machine.execCrossStandSet r s
  | .readNotices r => Sys2Proof.Machine.execReadNotices r s
  | .clearNotices r => Sys2Proof.Machine.execClearNotices r s
  | .noticeMask r => Sys2Proof.Machine.execNoticeMask r s
  | .blockBoundary => Sys2Proof.Machine.execBlockBoundary s
  | .transitionComplete feed => Sys2Proof.Machine.execTransitionComplete feed s
  | .sinceChangeTick sector => Sys2Proof.Machine.execSinceChangeTick sector s
  | .conversionStart channel => Sys2Proof.Machine.execConversionStart channel s
  | .readingComplete channel measured => Sys2Proof.Machine.execReadingComplete channel measured s
  | .resolutionStart => Sys2Proof.Machine.execResolutionStart s
  | .resolutionComplete => Sys2Proof.Machine.execResolutionComplete s
  | .moveComplete => Sys2Proof.Machine.execMoveComplete s
  | .deferredEdit => Sys2Proof.Machine.execDeferredEdit s
  | .saveComplete readBack => Sys2Proof.Machine.execSaveComplete readBack s
  | .loadReadComplete answer => Sys2Proof.Machine.execLoadReadComplete answer s
  | .heldLoadReplacement => Sys2Proof.Machine.execHeldLoadReplacement s
  | .startupWaitExpiry => Sys2Proof.Machine.execStartupWaitExpiry s
  | .replyPlacement => Sys2Proof.Machine.execReplyPlacement s

end Sys2Proof.Machine
end

