-- ==== Sys2Proof/Safety.lean ====
section
/-! DEFINITION. When the block itself makes each of its events, and the properties of a state that every step keeps. -/

namespace Sys2Proof.Machine

/-! ### Events that are due (log 1)

A command that is not due has no effect of its own where the state says so; the times that no rule counts in blocks are
the sender's (log 1, 28, 29, 30). -/

/-- A transaction whose release is judged is in progress. -/
def State.judging (s : State) : Bool :=
  match s.port.transaction with
  | some t => t.judged
  | none => false

/-- The port takes a request at its release: RESET is high, and the transaction carried a reply (R149). -/
def State.ready (s : State) : Prop := s.pins.resetLow = false ∧ s.judging = true

/-- The state at the release, before the request acts: the transaction has ended. -/
def State.released (s : State) : State := { s with port := { s.port with transaction := none } }

/-- A request has been answered, its reply not yet placed (R150). -/
def State.answered (s : State) (tag : Byte) (st : Status) (body : List Byte) : State :=
  s.setInProgress tag (.answered ⟨st, body⟩)

/-- No watch that covers the record observes the access (R144). -/
def State.unwatched (s : State) (a : Access) (r : RecordName) : Prop :=
  ∀ i, (s.watches.get i).config.hits a r = false

/-- A move is in flight exactly while compaction runs (R56). -/
def State.poolSettled (s : State) : Prop := s.pool.move.isSome = true ↔ s.pool.compaction ≠ .idle

/-- What a change request meets beyond its own tests: the port takes it, no long operation refuses it, and no watch
stops the change of record `r` (R10, R35, R146). -/
structure State.mayChange (s : State) (r : RecordName) : Prop where
  ready : s.ready
  noOperation : s.longOperation = none
  unstopped : s.stops .portChange r = false
  settled : s.poolSettled

/-- The block once a change of record `r` at the port has met the watches: each that observes it has recorded its hit and
raised its notice, and nothing else is changed (R145). -/
def State.observed (s : State) (r : RecordName) : State := (s.watchTest .portChange r).1

/-- A feed entry queued (R84). -/
def FeedEntry.queued (e : FeedEntry) : FeedEntry :=
  { e with revision := e.revision + 1, resolution := .queued, faultReason := none }

/-- The commands that end a transaction (R149, R150). -/
def isRelease : Instr → Bool
  | .discardedRequest => true
  | .badFrame _ _ => true
  | .badCommand _ => true
  | .nop _ => true
  | .status _ => true
  | .look _ => true
  | .set _ => true
  | .find _ => true
  | .createProfile _ => true
  | .clone _ => true
  | .editSections _ => true
  | .base _ => true
  | .retire _ => true
  | .revive _ => true
  | .bind _ => true
  | .unbind _ => true
  | .bindOverride _ => true
  | .unbindOverride _ => true
  | .lead _ => true
  | .clearFeed _ => true
  | .hold _ => true
  | .release _ => true
  | .engage _ => true
  | .disengage _ => true
  | .compactStart _ => true
  | .compactStop _ => true
  | .rebuildDependencies _ => true
  | .save _ => true
  | .load _ => true
  | .watchSet _ => true
  | .watchClear _ => true
  | .readWatch _ => true
  | .sensorSet _ => true
  | .sectorSet _ => true
  | .policySet _ => true
  | .crossStandSet _ => true
  | .readNotices _ => true
  | .clearNotices _ => true
  | .noticeMask _ => true
  | _ => false

/-- The tag of a request whose body forms no items (R154). -/
def unformedTag : Instr → Option Byte
  | .nop ⟨tag, none⟩ => some tag
  | .status ⟨tag, none⟩ => some tag
  | .look ⟨tag, none⟩ => some tag
  | .set ⟨tag, none⟩ => some tag
  | .find ⟨tag, none⟩ => some tag
  | .createProfile ⟨tag, none⟩ => some tag
  | .clone ⟨tag, none⟩ => some tag
  | .editSections ⟨tag, none⟩ => some tag
  | .base ⟨tag, none⟩ => some tag
  | .retire ⟨tag, none⟩ => some tag
  | .revive ⟨tag, none⟩ => some tag
  | .bind ⟨tag, none⟩ => some tag
  | .unbind ⟨tag, none⟩ => some tag
  | .bindOverride ⟨tag, none⟩ => some tag
  | .unbindOverride ⟨tag, none⟩ => some tag
  | .lead ⟨tag, none⟩ => some tag
  | .clearFeed ⟨tag, none⟩ => some tag
  | .hold ⟨tag, none⟩ => some tag
  | .release ⟨tag, none⟩ => some tag
  | .engage ⟨tag, none⟩ => some tag
  | .disengage ⟨tag, none⟩ => some tag
  | .compactStart ⟨tag, none⟩ => some tag
  | .compactStop ⟨tag, none⟩ => some tag
  | .rebuildDependencies ⟨tag, none⟩ => some tag
  | .save ⟨tag, none⟩ => some tag
  | .load ⟨tag, none⟩ => some tag
  | .watchSet ⟨tag, none⟩ => some tag
  | .watchClear ⟨tag, none⟩ => some tag
  | .readWatch ⟨tag, none⟩ => some tag
  | .sensorSet ⟨tag, none⟩ => some tag
  | .sectorSet ⟨tag, none⟩ => some tag
  | .policySet ⟨tag, none⟩ => some tag
  | .crossStandSet ⟨tag, none⟩ => some tag
  | .readNotices ⟨tag, none⟩ => some tag
  | .clearNotices ⟨tag, none⟩ => some tag
  | .noticeMask ⟨tag, none⟩ => some tag
  | _ => none

/-- The state `t` is `s` with the record `w` in watch `n` and the watches reconfigured: every HELD feed queued in feed
order, every take stopped mark cleared, and nothing else changed but the port's own fields (R148). -/
structure Reconfigured (s t : State) (n : WatchNo) (w : Watch) : Prop where
  watches : t.watches = s.watches.upd n w
  heldQueued : ∀ f, (s.feed f).resolution = .held → t.feed f = (s.feed f).queued
  othersKept : ∀ f, (s.feed f).resolution ≠ .held → t.feed f = s.feed f
  queue : t.resolver = ⟨s.heldFeeds.foldl appendOnce s.resolver.queue, s.resolver.inFlight⟩
  unstopped : ∀ f, t.renderOf f = { s.renderOf f with takeStopped := false }
  frame : t = { s with watches := t.watches, feeds := t.feeds, resolver := t.resolver, render := t.render,
                       port := t.port }

/-- The port's fields when a request that moves no cursor has been answered. -/
def State.portAnswered (s : State) (tag : Byte) (st : Status) (body : List Byte) : Port :=
  { s.port with transaction := none, inProgress := some ⟨tag, .answered ⟨st, body⟩⟩ }

/-- The same when the request moves the cursor to `r` (R155). -/
def State.portAnsweredAt (s : State) (r : RecordName) (tag : Byte) (st : Status) (body : List Byte) : Port :=
  { s.portAnswered tag st body with cursor := r }

/-- The Resolve Queue after one feed is queued (R84). -/
def State.queuedOne (s : State) (f : FeedNo) : Resolver :=
  { s.resolver with queue := if f ∈ s.resolver.queue then s.resolver.queue else s.resolver.queue ++ [f] }

/-- The Resolve Queue after several feeds are queued, in order (R84, R85). -/
def State.queuedAll (s : State) (fs : List FeedNo) : Resolver :=
  { s.resolver with queue := fs.foldl appendOnce s.resolver.queue }

/-- A reply is ready to be placed. -/
def State.replyReady (s : State) : Bool :=
  match s.port.inProgress with
  | some ⟨_, .answered _⟩ => true
  | some ⟨_, .waiting _⟩ => false
  | none => false

/-- Whether the part, or the pin that makes it, can make the event `c` in state `s`. -/
def Due (s : State) : Instr → Bool
  | .coldStart => true
  | .coldStartEnd _ => s.pins.resetLow
  | .alarmAssertion => !s.pins.alarm
  | .alarmDeassertion => s.pins.alarm
  | .transactionBegin => !s.pins.resetLow && s.port.transaction.isNone
  | .discardedRequest => s.port.transaction.isSome && !s.judging
  | .blockBoundary => true
  | .transitionComplete f =>
    match (s.renderOf f).transition with
    | some t => t.blocksDone = t.length
    | none => false
  | .sinceChangeTick n => (s.sector n).sinceChange.isSome && Config.blocksPerSecond ≤ (s.sector n).blocks
  | .conversionStart k =>
    (s.channel k).config.enabled && (s.channel k).reading.isNone && (s.channel k).toNext ≤ Config.conversionBlocks
  | .readingComplete k _ =>
    match (s.channel k).reading with
    | some r => r.blocksLeft = 0
    | none => false
  | .resolutionStart => s.resolver.inFlight.isNone && !s.resolver.queue.isEmpty
  | .resolutionComplete => s.resolver.inFlight.isSome
  | .moveComplete => s.pool.move.isSome && s.waitingEdit.isNone
  | .deferredEdit => s.pool.move.isSome && s.waitingEdit.isSome
  | .saveComplete _ => s.image = .saving
  | .loadReadComplete _ => s.image = .loading .reading
  | .heldLoadReplacement =>
    match s.image with
    | .loading (.held _) => !s.locked
    | .loading .reading | .idle | .waiting _ | .saving => false
  | .startupWaitExpiry =>
    match s.image with
    | .waiting n => Config.startupSeconds * Config.blocksPerSecond ≤ n
    | .idle | .saving | .loading _ => false
  | .replyPlacement => s.replyReady
  | _ => s.judging

/-! ### Block boundaries (R121, R123, R129, R136) -/

/-- The held flag of a feed's sector as the boundary sets it (R129). -/
def State.heldAtBoundary (s : State) (f : FeedNo) : Bool := (s.holds.get (s.feed f).sector).request

/-- A boundary that steps the feed reaches the watch test of its take (R121, test 4; R123). -/
def State.takeDue (s : State) (f : FeedNo) : Bool :=
  let x := s.renderOf f
  x.source = .normal && !x.silenceOrder && x.transition.isNone && x.pending.isSome && !x.takeStopped &&
  !s.heldAtBoundary f

/-- The return from the override reaches the watch test of the feed's take (R141, step 3). -/
def State.returnTakeDue (s : State) (f : FeedNo) : Bool :=
  let x := s.renderOf f
  x.source ≠ .normal && x.pending.isSome && !x.takeStopped && !s.heldAtBoundary f

/-- The watches and notices after the takes of these feeds have been tested, in order (R144, R145; log 25). -/
def State.takesTested (s : State) (fs : List FeedNo) : State :=
  fs.foldl (fun u f => (u.watchTest .take (.feed f)).1) s

/-- What a boundary does outside the feeds: held flags, clocks and applied state; `tested` are the feeds whose takes meet
the watches. -/
structure BoundaryKept (s t : State) (tested : List FeedNo) : Prop where
  holds : ∀ n, t.holds.get n = ⟨(s.holds.get n).request, (s.holds.get n).request⟩
  sectors : ∀ n, t.sector n = { s.sector n with
    blocks := if (s.sector n).sinceChange.isSome then (s.sector n).blocks + 1 else (s.sector n).blocks }
  channels : ∀ k, t.channel k = { s.channel k with
    toNext := (s.channel k).toNext - 1
    reading := (s.channel k).reading.map fun x => { x with blocksLeft := x.blocksLeft - 1 } }
  image : t.image = (match s.image with
    | .waiting n => .waiting (n + 1)
    | other => other)
  watches : t.watches = (s.takesTested tested).watches
  notices : t.notices = (s.takesTested tested).notices
  frame : t = { s with
    holds := t.holds, sectors := t.sectors, channels := t.channels, image := t.image, watches := t.watches
    notices := t.notices, render := t.render, override := { s.override with applied := s.override.state } }

/-- A boundary's step of feed `f`, whose render state becomes `y` (R121; log 24 for the order of a STANDBY or muted
feed, log 37 for a STANDBY with none in play). -/
structure Stepped (s : State) (f : FeedNo) (y : FeedRender) : Prop where
  silence : (s.renderOf f).silenceOrder = true → (s.renderOf f).source = .normal →
    y = { s.renderOf f with
      silenceOrder := false, transition := some ⟨.fadeOut, (s.renderOf f).outputAtBoundary, none, 0, 4⟩ }
  silenceUnheard : (s.renderOf f).silenceOrder = true → (s.renderOf f).source ≠ .normal →
    y = { s.renderOf f with silenceOrder := false, active := none }
  advance : ∀ v, (s.renderOf f).silenceOrder = false → (s.renderOf f).transition = some v →
    v.blocksDone + 1 ≠ v.length → y = { s.renderOf f with transition := some { v with blocksDone := v.blocksDone + 1 } }
  completeNormal : ∀ v, (s.renderOf f).silenceOrder = false → (s.renderOf f).transition = some v →
    v.blocksDone + 1 = v.length → (s.renderOf f).source = .normal →
    y = { s.renderOf f with transition := none, active := if v.kind = .fadeOut then none else v.target }
  completeStandby : ∀ v, (s.renderOf f).silenceOrder = false → (s.renderOf f).transition = some v →
    v.blocksDone + 1 = v.length → (s.renderOf f).source = .standby → v.kind = .glide ∨ v.kind = .crossfade →
    y = { s.renderOf f with transition := none, standbyInPlay := v.target }
  completeMute : ∀ v, (s.renderOf f).silenceOrder = false → (s.renderOf f).transition = some v →
    v.blocksDone + 1 = v.length → (s.renderOf f).source = .mute → y = { s.renderOf f with transition := none }
  standbyKept : (s.renderOf f).silenceOrder = false → (s.renderOf f).transition = none →
    (s.renderOf f).source = .standby →
    (s.renderOf f).standby = (s.renderOf f).standbyInPlay ∨ (s.renderOf f).standby = none → y = s.renderOf f
  standbyApplied : ∀ p q, (s.renderOf f).silenceOrder = false → (s.renderOf f).transition = none →
    (s.renderOf f).source = .standby → (s.renderOf f).standby = some p → (s.renderOf f).standbyInPlay = some q → p ≠ q →
    q.outputDelay = p.outputDelay → y = { s.renderOf f with standbyInPlay := some p }
  standbyGlide : ∀ p, (s.renderOf f).silenceOrder = false → (s.renderOf f).transition = none →
    (s.renderOf f).source = .standby → (s.renderOf f).standby = some p →
    (∀ q, (s.renderOf f).standbyInPlay = some q → q.outputDelay ≠ p.outputDelay) →
    y = { s.renderOf f with transition := some ⟨.glide, .ofSetting (s.renderOf f).standbyInPlay, some p, 0,
      (s.sector (s.feed f).sector).config.glide⟩ }
  lateStandby : ∀ p, (s.renderOf f).silenceOrder = false → (s.renderOf f).transition = none →
    (s.renderOf f).source = .mute → s.override.state = .engaged → (s.feed f).overrideAction = .switch →
    (s.renderOf f).standby = some p →
    y = { s.renderOf f with
      standbyInPlay := some p, source := .standby, transition := some ⟨.crossfade, .silence, some p, 0, 4⟩ }
  staysMuted : (s.renderOf f).silenceOrder = false → (s.renderOf f).transition = none → (s.renderOf f).source = .mute →
    s.override.state = .clear ∨ (s.feed f).overrideAction ≠ .switch ∨ (s.renderOf f).standby = none → y = s.renderOf f
  noTake : (s.renderOf f).silenceOrder = false → (s.renderOf f).transition = none → (s.renderOf f).source = .normal →
    s.takeDue f = false → y = s.renderOf f
  takeStopped : s.takeDue f = true → s.stops .take (.feed f) = true → y = { s.renderOf f with takeStopped := true }
  fadeIn : ∀ p, s.takeDue f = true → s.stops .take (.feed f) = false → (s.renderOf f).pending = some p →
    (s.renderOf f).active = none →
    y = { s.renderOf f with pending := none, transition := some ⟨.fadeIn, .silence, some p, 0, 4⟩ }
  applied : ∀ p a, s.takeDue f = true → s.stops .take (.feed f) = false → (s.renderOf f).pending = some p →
    (s.renderOf f).active = some a → a.outputDelay = p.outputDelay →
    y = { s.renderOf f with pending := none, active := some p }
  glide : ∀ p a, s.takeDue f = true → s.stops .take (.feed f) = false → (s.renderOf f).pending = some p →
    (s.renderOf f).active = some a → a.outputDelay ≠ p.outputDelay →
    y = { s.renderOf f with
      pending := none
      transition := some ⟨.glide, .setting a, some p, 0, (s.sector (s.feed f).sector).config.glide⟩ }

/-- A SWITCH or SILENCE feed at the boundary where the engagement acts (R137). -/
structure Engaged (s : State) (f : FeedNo) (y : FeedRender) : Prop where
  muted : (s.feed f).overrideAction = .silence ∨ (s.renderOf f).standby = none →
    y = { (s.renderOf f).cutShort with
      silenceOrder := false
      active := if (s.renderOf f).silenceOrder then none else (s.renderOf f).cutShort.active
      source := .mute
      standbyInPlay := none
      transition := some ⟨.fadeOut, (s.renderOf f).outputAfterCut, none, 0, 4⟩ }
  switched : ∀ p, (s.feed f).overrideAction = .switch → (s.renderOf f).standby = some p →
    y = { (s.renderOf f).cutShort with
      silenceOrder := false
      active := if (s.renderOf f).silenceOrder then none else (s.renderOf f).cutShort.active
      source := .standby
      standbyInPlay := some p
      transition := some ⟨.crossfade, (s.renderOf f).outputAfterCut, some p, 0, 4⟩ }

/-- ACTIVE of a returning feed, after a placed silence order (R141, step 2). -/
def State.returnActive (s : State) (f : FeedNo) : Option Setting :=
  if (s.renderOf f).silenceOrder then none else (s.renderOf f).active

/-- A feed on STANDBY or MUTE at the boundary where the disengagement acts, whose take mark becomes `stopped` and whose
normal source takes over (R141). -/
def State.backToNormal (s : State) (f : FeedNo) (stopped : Bool) : FeedRender :=
  { s.renderOf f with
    silenceOrder := false, active := s.returnActive f, standbyInPlay := none, source := .normal
    takeStopped := stopped, transition := none }

/-- The same feed, whose render state becomes `y` (R141). -/
structure Returned (s : State) (f : FeedNo) (y : FeedRender) : Prop where
  takenStandby : ∀ p, s.returnTakeDue f = true → s.stops .take (.feed f) = false → (s.renderOf f).pending = some p →
    (s.renderOf f).source = .standby →
    y = { s.backToNormal f false with
      pending := none, active := some p
      transition := some ⟨.crossfade, (s.renderOf f).outputAtBoundary, some p, 0, 4⟩ }
  takenMute : ∀ p, s.returnTakeDue f = true → s.stops .take (.feed f) = false → (s.renderOf f).pending = some p →
    (s.renderOf f).source = .mute →
    y = { s.backToNormal f false with
      pending := none, transition := some ⟨.fadeIn, (s.renderOf f).outputAtBoundary, some p, 0, 4⟩ }
  untaken : s.returnTakeDue f = false ∨ s.stops .take (.feed f) = true →
    y = { s.backToNormal f ((s.renderOf f).takeStopped || s.returnTakeDue f) with
      transition :=
        if (s.renderOf f).source = .standby then
          some ⟨.crossfade, (s.renderOf f).outputAtBoundary, s.returnActive f, 0, 4⟩
        else if (s.returnActive f).isSome then some ⟨.fadeIn, (s.renderOf f).outputAtBoundary, s.returnActive f, 0, 4⟩
        else none }

/-! ### Freeing by the last reference (R33, R34, R62) -/

/-- The handles that go when `h` is freed: itself, and a RETIRING base whose last reference it held (R34). -/
def State.freedWith (s : State) (h : HandleIx) : List HandleIx :=
  match s.baseOf h with
  | some b => if (s.handle b.ix).state = .retiring ∧ (s.handle b.ix).refCount ≤ 1 then [h, b.ix] else [h]
  | none => [h]

/-- The words of an extent given back, where there is one (R34, R52). -/
def giveBackOptional (free : List Extent) : Option Extent → List Extent
  | some x => giveBack x free
  | none => free

/-- `t` is `s` with handle `h` freed, and with it what R34's cascade frees: FREE at the next generation, words given
back, a move of a freed handle abandoned; a base that stays loses one reference. -/
structure HandleFreed (s t : State) (h : HandleIx) : Prop where
  freed : ∀ g ∈ s.freedWith h, t.handle g = ⟨.free, (s.handle g).gen + 1, none, 0, false, none⟩
  base : ∀ b, s.baseOf h = some b → b.ix ∉ s.freedWith h →
    t.handle b.ix = { s.handle b.ix with refCount := (s.handle b.ix).refCount - 1 }
  others : ∀ g, g ∉ s.freedWith h → (∀ b, s.baseOf h = some b → b.ix ≠ g) → t.handle g = s.handle g
  pool : t.pool = { s.pool with
    free := (s.freedWith h).foldl (fun free g => giveBackOptional free (s.handle g).extent) s.pool.free
    move := if (s.freedWith h).any (fun g => (s.handle g).inMove) then none else s.pool.move }
  frame : t = { s with handles := t.handles, pool := t.pool }

end Sys2Proof.Machine

namespace Sys2Proof

/-! ### The tests of a stored image, put to its records as the flash holds them (R165, R168) -/

/-- Handle number 1-255, generation 0-15 (R168, test 2). -/
def RawHandle.InRange (h : RawHandle) : Prop := 1 ≤ h.number ∧ h.number ≤ 255 ∧ h.generation ≤ 15

structure RawFeed.InRange (r : RawFeed) : Prop where
  label : r.label ≤ 65535
  tier : r.tier ≤ 3
  sector : r.sector ≤ 15
  bus : r.bus ≤ 7
  binding : ∀ b, r.binding = some b → b.InRange
  overrideBinding : ∀ b, r.overrideBinding = some b → b.InRange
  overrideAction : r.overrideAction ≤ 2
  lead : ∀ l, r.lead = some l → l ≤ 95
  excessPath : -250000 ≤ r.excessPath ∧ r.excessPath ≤ 250000

/-- The ranges of R26. -/
def RawSection.InRange (r : RawSection) : Prop :=
  r.shape ≤ 5 ∧ 20 ≤ r.frequency ∧ r.frequency ≤ 20000 ∧ -240 ≤ r.gain ∧ r.gain ≤ 120 ∧ 30 ≤ r.width ∧ r.width ≤ 1600

structure RawProfile.InRange (r : RawProfile) : Prop where
  handle : r.handle.InRange
  state : r.state = 1 ∨ r.state = 2
  label : r.label ≤ 65535
  tier : r.tier ≤ 3
  base : ∀ b, r.base = some b → b.InRange
  latencyTrim : ∀ x, r.latencyTrim = some x → 0 ≤ x ∧ x ≤ 7680
  gainTrim : -600 ≤ r.gainTrim ∧ r.gainTrim ≤ 120
  polarity : r.polarity ≤ 1
  ownCount : r.sections.length ≤ 12
  sections : ∀ x ∈ r.sections, x.InRange

def RawSector.InRange (r : RawSector) : Prop :=
  r.stand ≤ 3 ∧ r.mode ≤ 1 ∧ -300 ≤ r.fixedTemp ∧ r.fixedTemp ≤ 600 ∧ 5 ≤ r.hysteresis ∧ r.hysteresis ≤ 200 ∧
  5 ≤ r.settle ∧ r.settle ≤ 600 ∧ 8 ≤ r.glide ∧ r.glide ≤ 1536

structure RawChannel.InRange (r : RawChannel) : Prop where
  inputs : r.positive ≤ 10 ∧ r.negative ≤ 10 ∧ r.positive ≠ r.negative
  gain : r.gain = 1 ∨ r.gain = 2 ∨ r.gain = 4 ∨ r.gain = 8
  offsetTrim : -15 ≤ r.offsetTrim ∧ r.offsetTrim ≤ 15
  probe : r.probe ≤ 1
  interval : 1 ≤ r.interval ∧ r.interval ≤ 60
  sector : ∀ n, r.sector = some n → n ≤ 15

/-- The lead of feed number `f` of the image. -/
def RawImage.leadOf (r : RawImage) (f : Nat) : Option Nat := r.feeds[f]?.bind RawFeed.lead

/-- A feed of the image, or a profile among `ps`, names the handle (R33). -/
def RawImage.names (r : RawImage) (ps : List RawProfile) (h : RawHandle) : Bool :=
  (r.feeds.any fun f => f.binding = some h || f.overrideBinding = some h) || ps.any fun p => p.base = some h

/-- The profiles of `ps` that one round of freeing keeps: LIVE, or named (R169). -/
def RawImage.kept (r : RawImage) (ps : List RawProfile) : List RawProfile :=
  ps.filter fun p => p.state = 1 || r.names ps p.handle

/-- Tests 2 to 8 of R168. A chain that returns to its start follows five links too; a base names no base,
so that two rounds free all that R169 frees. -/
structure RawImage.Valid (r : RawImage) : Prop where
  counts : r.feeds.length = 96 ∧ r.sectors.length = 16 ∧ r.channels.length = 8 ∧ r.policy.length = 16
  feeds : ∀ x ∈ r.feeds, x.InRange
  profiles : ∀ x ∈ r.profiles, x.InRange
  sectors : ∀ x ∈ r.sectors, x.InRange
  channels : ∀ x ∈ r.channels, x.InRange
  settings : (∀ x ∈ r.policy, x ≤ 2) ∧ r.crossStand ≤ 2 ∧ r.noticeMask ≤ 2047
  numbers : (r.profiles.map fun p => p.handle.number).Nodup
  bindings : ∀ f ∈ r.feeds, ∀ b, f.binding = some b ∨ f.overrideBinding = some b → ∃ p ∈ r.profiles, p.handle = b
  bases : ∀ p ∈ r.profiles, ∀ b, p.base = some b → ∃ q ∈ r.profiles, q.handle = b
  actions : ∀ f ∈ r.feeds, f.overrideAction = 2 ↔ f.overrideBinding.isSome = true
  chains : ∀ a b c d e, r.leadOf a = some b → r.leadOf b = some c → r.leadOf c = some d → r.leadOf d = some e →
    r.leadOf e = none
  plainBases : ∀ p ∈ r.profiles, ∀ q ∈ r.profiles, p.base = some q.handle → q.base = none
  composed : ∀ p ∈ r.profiles, ∀ q ∈ r.profiles, p.base = some q.handle → p.sections.length + q.sections.length ≤ 16
  fits : ((r.kept (r.kept r.profiles)).map fun p => 4 + 2 * p.sections.length).sum ≤ 4096

end Sys2Proof

namespace Sys2Proof.Machine

/-- The record set whose fields an image holds (R165). -/
def Image.records (g : Image) : RawImage where
  feeds := allFeeds.map fun f =>
    let v := g.feeds.get f
    { label := v.label.toNat, tier := v.tier.code, sector := v.sector.val, bus := v.bus.val
      binding := v.binding.map Handle.raw, overrideBinding := v.overrideBinding.map Handle.raw
      overrideAction := v.overrideAction.code, lead := v.lead.map Fin.val, excessPath := v.excessPath }
  profiles := g.profiles.map fun p => p.record.saved p.handle (if p.retiring then .retiring else .live)
  sectors := allSectors.map fun n => (g.sectors.get n).saved
  channels := allChannels.map fun k => (g.channels.get k).saved
  policy := (List.finRange 16).map fun i => (g.policy.get i).code
  crossStand := g.crossStand.code
  noticeMask := g.noticeMask.toNat

/-! ### The Profile Pool (R50, R51, R56) -/

/-- The free extent list: ascending, merged, no entry empty (R51). -/
def freeListSound (free : List Extent) : Prop :=
  (∀ e ∈ free, 1 ≤ e.len) ∧ free.Pairwise fun a b => a.offset + a.len < b.offset

/-- The words of an extent. -/
def Extent.holds (x : Extent) (w : Nat) : Prop := x.offset ≤ w ∧ w < x.offset + x.len

/-- Word `w` belongs to handle `h`. -/
def State.ownsWord (s : State) (h : HandleIx) (w : Nat) : Prop := ∃ x, (s.handle h).extent = some x ∧ x.holds w

/-- Word `w` is on the free list. -/
def State.freeWord (s : State) (w : Nat) : Prop := ∃ e ∈ s.pool.free, e.holds w

/-- An image that waits for the override to clear has passed every test (R142). -/
def State.heldImageValid (s : State) : Prop := ∀ g, s.image = .loading (.held g) → g.consistent = true

/-- The extents of the handles and the free list part the 4,096 words among them, each record has its own length, and a
move is in flight exactly while compaction runs (R31, R50, R51, R56, R58). -/
structure PoolSound (s : State) : Prop where
  listSound : freeListSound s.pool.free
  inside : ∀ w, (s.freeWord w ∨ ∃ h, s.ownsWord h w) ↔ w < Config.poolWords
  freeApart : ∀ h w, s.ownsWord h w → ¬ s.freeWord w
  handlesApart : ∀ h h' w, s.ownsWord h w → s.ownsWord h' w → h = h'
  placed : ∀ h, (s.handle h).state = .free ↔ (s.handle h).extent = none
  recorded : ∀ h, (s.handle h).state = .free ↔ (s.handle h).record = none
  wholeLength : ∀ h x r, (s.handle h).inMove = false → (s.handle h).extent = some x →
    (s.handle h).record = some r → x.len = recordWords r.sections.length
  inMove : ∀ h, (s.handle h).inMove = true ↔ ∃ m, s.pool.move = some m ∧ m.handle = h
  moveSpan : ∀ m, s.pool.move = some m →
    (s.handle m.handle).extent = some ⟨m.spanStart, m.spanLen⟩ ∧ m.recordLen < m.spanLen ∧
    ∃ r, (s.handle m.handle).record = some r ∧ m.recordLen = recordWords r.sections.length
  running : s.pool.move.isSome = true ↔ s.pool.compaction ≠ .idle
  heldImage : s.heldImageValid

/-! ### References (R6, R28, R33) -/

/-- A stored reference names a profile that exists, under its present generation. -/
def State.namesProfile (s : State) (b : Handle) : Prop :=
  (s.handle b.ix).state ≠ .free ∧ (s.handle b.ix).gen = b.gen

/-- The references to `h`: bindings, override bindings, and profiles that name it as base (R33). -/
def State.references (s : State) (h : HandleIx) : Nat :=
  (allFeeds.filter fun f => namesHandle h (s.feed f).binding).length +
  (allFeeds.filter fun f => namesHandle h (s.feed f).overrideBinding).length +
  (allHandles.filter fun d => namesHandle h (s.baseOf d)).length

/-- Every reference names a profile that exists, the counts count them, a base has no base, a profile that exists has a
record, a RETIRING one is still referred to, and SWITCH comes with an override binding (R6, R28, R31, R33). -/
structure ReferencesSound (s : State) : Prop where
  bindings : ∀ f b, (s.feed f).binding = some b → s.namesProfile b
  overrides : ∀ f b, (s.feed f).overrideBinding = some b → s.namesProfile b
  bases : ∀ h b, s.baseOf h = some b → s.namesProfile b ∧ s.baseOf b.ix = none
  counts : ∀ h, (s.handle h).refCount = s.references h
  recorded : ∀ h, (s.handle h).state = .free ↔ (s.handle h).record = none
  retiring : ∀ h, (s.handle h).state = .retiring → 0 < (s.handle h).refCount
  switch : ∀ f, (s.feed f).overrideAction = .switch ↔ (s.feed f).overrideBinding.isSome = true
  heldImage : s.heldImageValid

/-! ### The other blocks -/

/-- R83: no feed stands twice in the Resolve Queue. -/
def QueueSound (s : State) : Prop := s.resolver.queue.Nodup

/-- R75: at most 48 dependency entries. -/
def DependenciesSound (s : State) : Prop := s.deps.count ≤ Config.dependencyCapacity

/-- R75: an entry names the sector of its follower's lead, and a feed with a lead in another sector has its entry, or the
lead's sector carries the overflow mark. -/
def DependenciesMatch (s : State) : Prop :=
  ∀ f n, (s.deps.entries.get f = some n → s.crossSectorLead f = some n) ∧
    (s.crossSectorLead f = some n → s.deps.entries.get f = some n ∨ s.deps.overflow.get n = true)

/-- R11: from no feed do five lead links follow one another, so that no chain of links returns to its start and none has
more than four; an image that waits has passed the same test. -/
def ChainsSound (s : State) : Prop :=
  (∀ f, (chainAbove s.leadOf 5 f).length ≤ 4) ∧ s.heldImageValid

/-- R133: ENGAGED while either source is active. -/
def OverrideSound (s : State) : Prop := s.override.state = s.override.fromSources

/-- R7: a fault reason is present in FAULTED and in no other state. -/
def FaultsSound (s : State) : Prop :=
  ∀ f, (s.feed f).faultReason.isSome = true ↔ (s.feed f).resolution = .faulted

/-- R117: PENDING and a silence order never stand together, and standby in play is absent unless the source is
STANDBY. -/
def RenderSound (s : State) : Prop :=
  ∀ f, ((s.renderOf f).silenceOrder = true → (s.renderOf f).pending = none) ∧
    ((s.renderOf f).source ≠ .standby → (s.renderOf f).standbyInPlay = none)

/-- R149: with RESET high a reply, a request in progress or a judged transaction stands, one at a time, so the third row
of R149's table never comes up; with RESET low none of them stands. -/
def PortSound (s : State) : Prop :=
  if s.pins.resetLow then s.port.slot = none ∧ s.port.inProgress = none ∧ s.port.transaction = none
  else
    (s.port.slot.isSome = true ∧ s.port.inProgress = none ∧ s.judging = false) ∨
    (s.port.slot = none ∧ s.port.inProgress.isSome = true ∧ s.judging = false) ∨
    (s.port.slot = none ∧ s.port.inProgress = none ∧ s.judging = true)

/-- R100: the window holds at most eight plausible temperatures, and the average is theirs. -/
def Channel.sound (c : Channel) : Prop :=
  c.window.length ≤ 8 ∧ (∀ t ∈ c.window, plausible t = true) ∧ c.average = meanOf c.window

/-- R107: the speed lies between the speeds of -30.0 and +60.0 °C. -/
def Sector.sound (e : Sector) : Prop :=
  31312 ≤ e.speed ∧ e.speed ≤ 36766 ∧ plausible e.config.fixedTemp = true

/-- R100, R107: channels and sectors, and the sectors of an image that waits. -/
def ClimateSound (s : State) : Prop :=
  (∀ k, (s.channel k).sound) ∧ (∀ n, (s.sector n).sound) ∧
  ∀ g, s.image = .loading (.held g) → ∀ n, plausible (g.sectors.get n).fixedTemp = true

end Sys2Proof.Machine
end

