-- ==== Sys2Proof/Certificates/Slice0/Obligations.lean ====
section
/-! DEFINITION. The statements for the provers: what each command does, what the block keeps, and what a frame spells. -/

open Sys2Proof Sys2Proof.Machine

/-! ### The queue of commands -/

/-- A step takes the front command and carries it out on the state with the queue's rest; with no command waiting the
block idles (the model's choice, log 2). -/
def Obligations.StepRunsFront : Prop :=
  (∀ (c : Instr) (s : State), step { s with pending := c :: s.pending } = exec c s) ∧
  ∀ s : State, s.pending = [] → step s = .next s

/-! ### Cold start and pins -/

/-- COLD_START gives every feed entry the values of R2, queues none, and they are the values at power-on. -/
def Obligations.ColdStartFeeds : Prop :=
  ∀ s : State, ∃ t, exec .coldStart s = .next t ∧ t.resolver.queue = [] ∧ State.reset.resolver.queue = [] ∧
    ∀ f, State.reset.feed f = t.feed f ∧
      t.feed f =
        { label := 0, tier := .programme, sector := 0, bus := 0, binding := none, overrideBinding := none
          overrideAction := .keep, lead := none, excessPath := 0, geomDelay := none, revision := 0
          resolution := .new, faultReason := none }

/-- COLD_START gives the other blocks their cold-start values; the level of ALARM and the commands that wait stay, and
an incomplete write of the flash leaves no valid image. A reading in flight is abandoned and no schedule runs; how the
schedule and the second of since change are counted is the model's choice (log 28, 29). -/
def Obligations.ColdStartRest : Prop :=
  ∀ s : State, ∃ t, exec .coldStart s = .next t ∧
    t.pins = { s.pins with resetLow := true } ∧ t.pending = s.pending ∧
    (∀ h, t.handle h = ⟨.free, 0, none, 0, false, none⟩) ∧
    t.pool = ⟨[⟨0, 4096⟩], .idle, none⟩ ∧
    (∀ a b, t.policyFor a b = (match a, b with
      | .safety, .programme => .notify
      | .safety, .ambient => .refuse
      | .safety, .test => .refuse
      | .programme, .test => .notify
      | .ambient, .test => .notify
      | _, _ => .allow)) ∧
    t.crossStand = .notify ∧
    (∀ f, t.deps.entries.get f = none) ∧ (∀ n, t.deps.overflow.get n = false) ∧
    t.resolver = ⟨[], none⟩ ∧
    (∀ k, (t.channel k).config = ⟨false, .ain k, .ground, 1, 0, .bridge, 2, none⟩ ∧ (t.channel k).state = .off ∧
      (t.channel k).window = [] ∧ (t.channel k).average = none ∧ (t.channel k).lastCode = none ∧
      (t.channel k).reading = none ∧ (t.channel k).toNext = 0) ∧
    (∀ n, (t.sector n).config = ⟨0, .fixed, 200, 20, 30, 384⟩ ∧ (t.sector n).speed = 34342 ∧
      (t.sector n).epoch = 0 ∧ (t.sector n).status = .fixed ∧ (t.sector n).sensedTemp = none ∧
      (t.sector n).sinceChange = none ∧ (t.sector n).awaitingFix = false ∧ (t.sector n).deferred = false ∧
      (t.sector n).blocks = 0) ∧
    (∀ f, t.renderOf f = ⟨none, none, none, none, false, false, .normal, none⟩) ∧
    (∀ n, t.holds.get n = ⟨false, false⟩) ∧
    t.override = ⟨.clear, false, false, .clear⟩ ∧
    (∀ i, t.watches.get i =
      ⟨⟨false, .feed, 0, 1, ⟨false, true, false, false⟩, .any, .notify⟩, none⟩) ∧
    t.port = ⟨none, none, none, .feed 0⟩ ∧
    (∀ k, t.notices.flagged k = false) ∧ (∀ k, hasKind t.noticeMask k = true) ∧
    t.image = .idle ∧ t.flash = flashAfterReset s.flash

/-- COLD_START_END at the cold-start values of the Override Unit: RESET high, the start reply in the slot, the ALARM
line sampled with its notice, and a start-up load or wait as the STARTUP pin reads. -/
def Obligations.ColdStartEnds : Prop :=
  ∀ (s : State) (p : StartupPin), s.pins.resetLow = true → s.override = ⟨.clear, false, false, .clear⟩ →
    s.notices.override = none →
    exec (.coldStartEnd p) s = .next
      { s with
        pins := ⟨false, s.pins.alarm, p⟩
        port := { s.port with slot := some ⟨.ok, 0, []⟩ }
        image := (match p with
          | .auto => .loading .reading
          | .wait => .waiting 0)
        override := if s.pins.alarm then ⟨.engaged, true, false, .clear⟩ else ⟨.clear, false, false, .clear⟩
        notices := if s.pins.alarm then { s.notices with override := some (.engaged, .alarm) } else s.notices }

/-- While RESET is low and the blocks hold their cold-start values, no command but the pins changes anything. -/
def Obligations.ResetLowHolds : Prop :=
  ∀ (c : Instr) (flash : FlashContents) (alarm : Bool) (startup : StartupPin) (pending : List Instr),
    let s : State := { State.reset with flash := flash, pins := ⟨true, alarm, startup⟩, pending := pending }
    (∀ p, c ≠ .coldStartEnd p) → c ≠ .coldStart → c ≠ .alarmAssertion → c ≠ .alarmDeassertion →
    exec c s = .next s

/-- The ALARM line: its level; with RESET high the alarm source follows it, the state is recomputed in the same step,
and a change of the state raises OVERRIDE. -/
def Obligations.AlarmLine : Prop :=
  (∀ s : State, s.pins.resetLow = true →
    exec .alarmAssertion s = .next { s with pins := { s.pins with alarm := true } } ∧
    exec .alarmDeassertion s = .next { s with pins := { s.pins with alarm := false } }) ∧
  ∀ s : State, s.pins.resetLow = false →
    exec .alarmAssertion s = .next
      { s with
        pins := { s.pins with alarm := true }
        override := { s.override with alarmActive := true, state := .engaged }
        notices := if s.override.state = .engaged then s.notices else s.notices.raise (.override .engaged .alarm) } ∧
    exec .alarmDeassertion s = .next
      { s with
        pins := { s.pins with alarm := false }
        override := { s.override with
          alarmActive := false
          state := if s.override.portActive then .engaged else .clear }
        notices :=
          if s.override.state = (if s.override.portActive then .engaged else .clear) then s.notices
          else s.notices.raise (.override (if s.override.portActive then .engaged else .clear) .alarm) }

/-- ENGAGE and DISENGAGE change the port source, in every state of the part, and reply with the unit as it then
stands; an ALARM asserted after an ENGAGE finds the state already ENGAGED. -/
def Obligations.EngageDisengage : Prop :=
  ∀ (s : State) (r : Request Unit), r.items = some () → s.ready →
    (let t : State :=
      { s.released with
        override := { s.override with portActive := true, state := .engaged }
        notices := if s.override.state = .engaged then s.notices else s.notices.raise (.override .engaged .port) }
     exec (.engage r) s = .next (t.answered r.tag .ok t.override.bytes)) ∧
    (let st : OverrideState := if s.override.alarmActive then .engaged else .clear
     let t : State :=
      { s.released with
        override := { s.override with portActive := false, state := st }
        notices := if s.override.state = st then s.notices else s.notices.raise (.override st .port) }
     exec (.disengage r) s = .next (t.answered r.tag .ok t.override.bytes)) ∧
    ∃ u v, exec (.engage r) s = .next u ∧ exec .alarmAssertion u = .next v ∧
      v.override = { s.override with alarmActive := true, portActive := true, state := .engaged } ∧ v.notices = u.notices

/-! ### The Control Port -/

/-- What MISO carries is decided when chip select becomes active, and the reply is consumed: its frame byte by byte,
then 0xFF; while RESET is low MISO is driven 0xFF. A reply is placed when the request in progress has been processed.
-/
def Obligations.TransactionsAndReplies : Prop :=
  (∀ s : State, s.pins.resetLow = false → s.port.transaction = none →
    let carried : Transaction := match s.port.slot, s.port.inProgress with
      | some reply, _ => ⟨reply, true⟩
      | none, some p => ⟨⟨.notReady, p.tag, []⟩, false⟩
      | none, none => ⟨⟨.notReady, 0, []⟩, false⟩
    let t : State := { s with port := { s.port with slot := none, transaction := some carried } }
    let r := carried.miso
    let front := [BitVec.ofNat 8 r.status.code, r.tag] ++ bytes2 r.body.length ++ r.body
    exec .transactionBegin s = .next t ∧
    ∀ i, t.misoByte i = some ((front ++ bytes2 (crc16 front).toNat)[i]?.getD 0xFF)) ∧
  (∀ (s : State) (i : Nat), s.pins.resetLow = true → s.misoByte i = some 0xFF) ∧
  ∀ (s : State) (tag : Byte) (a : Answer), s.port.inProgress = some ⟨tag, .answered a⟩ →
    exec .replyPlacement s = .next
      { s with port := { s.port with slot := some ⟨a.status, tag, a.body⟩, inProgress := none } }

/-- Whatever is released by a transaction that carried NOT-READY is discarded: the transaction ends and nothing else
changes. -/
def Obligations.DiscardedReleases : Prop :=
  ∀ (c : Instr) (s : State), isRelease c = true → s.pins.resetLow = false → s.port.transaction.isSome = true →
    s.judging = false → exec c s = .next s.released

/-- A malformed frame is answered at once with its reason, an unknown command and a body that forms no items are
refused, so is a numbered reference of a class the command does not accept in its place (R154, log 14), and none of
them changes anything else. -/
def Obligations.BadRequestsRefused : Prop :=
  (∀ (s : State) (tag : Byte) (reason : FrameReason), s.ready →
    exec (.badFrame tag reason) s = .next
      { s with port := { s.port with
          transaction := none
          slot := some ⟨.badFrame, tag, byte1 (match reason with
            | .short => 1
            | .long => 2
            | .check => 3)⟩ } }) ∧
  (∀ (s : State) (tag : Byte), s.ready →
    exec (.badCommand tag) s = .next (s.released.answered tag .badCommand [])) ∧
  (∀ (c : Instr) (s : State) (tag : Byte), unformedTag c = some tag → s.ready →
    exec c s = .next (s.released.answered tag .badValue [])) ∧
  ∀ (s : State) (tag : Byte) (cls : RecordClass) (number gen : Nat), s.ready →
    let ref := RecordRef.numbered cls number gen
    let refused := fun c : Instr => exec c s = .next (s.released.answered tag .badValue [])
    (cls ≠ .feed →
      refused (.unbind ⟨tag, some ref⟩) ∧ refused (.unbindOverride ⟨tag, some ref⟩) ∧
      refused (.clearFeed ⟨tag, some ref⟩) ∧
      ∀ other, refused (.bind ⟨tag, some ⟨ref, other⟩⟩) ∧ refused (.bindOverride ⟨tag, some ⟨ref, other⟩⟩) ∧
        refused (.lead ⟨tag, some ⟨ref, other⟩⟩) ∧ refused (.lead ⟨tag, some ⟨other, ref⟩⟩)) ∧
    (cls ≠ .profile →
      refused (.clone ⟨tag, some ref⟩) ∧ refused (.retire ⟨tag, some ref⟩) ∧ refused (.revive ⟨tag, some ref⟩) ∧
      (∀ sections, refused (.editSections ⟨tag, some ⟨ref, sections⟩⟩)) ∧
      ∀ other, refused (.base ⟨tag, some ⟨ref, other⟩⟩) ∧ refused (.base ⟨tag, some ⟨other, ref⟩⟩) ∧
        refused (.bind ⟨tag, some ⟨other, ref⟩⟩) ∧ refused (.bindOverride ⟨tag, some ⟨other, ref⟩⟩)) ∧
    (cls ≠ .feed → cls ≠ .profile → ∀ field value count step,
      refused (.set ⟨tag, some ⟨ref, field, value, count, step⟩⟩)) ∧
    (cls ≠ .sensor → ∀ i : SensorSetItems, i.sensor = ref → refused (.sensorSet ⟨tag, some i⟩)) ∧
    (cls ≠ .sector → ∀ i : SectorSetItems, i.sector = ref → refused (.sectorSet ⟨tag, some i⟩))

/-- NOP and STATUS change nothing but the port's own fields, in every state of the part. The NOTICE line is asserted
while RESET is high and the flagged kinds and the mask have a kind in common (R164). The bytes of STATUS are the
model's layout (log 8, log 10, log 30). -/
def Obligations.NopStatusAnswered : Prop :=
  (∀ s : State, s.noticeLine = true ↔
    s.pins.resetLow = false ∧ ∃ k, s.notices.flagged k = true ∧ hasKind s.noticeMask k = true) ∧
  (∀ s : State,
    let engaged := fun st : OverrideState => if st = .engaged then 1#8 else 0#8
    let source := fun active : Bool => if active then 0#8 else 1#8
    s.override.bytes = [engaged s.override.state, source s.override.alarmActive, source s.override.portActive,
      engaged s.override.applied] ∧
    s.image.bytes = (match s.image with
      | .idle => [0]
      | .waiting blocks => [1, BitVec.ofNat 8 ((45000 - blocks) / 1500)]
      | .saving => [2]
      | .loading .reading => [3, 0]
      | .loading (.held _) => [3, 1]) ∧
    s.pool.compaction.code = (match s.pool.compaction with
      | .idle => 0
      | .running => 1
      | .stopping => 2)) ∧
  ∀ (s : State) (r : Request Unit), r.items = some () → s.ready →
    exec (.nop r) s = .next (s.released.answered r.tag .ok []) ∧
    exec (.status r) s = .next (s.released.answered r.tag .ok
      (s.override.bytes ++ byte1 s.pool.compaction.code ++ s.image.bytes ++ bytes2 s.notices.flags.toNat ++
        bytes2 s.noticeMask.toNat ++ [Config.noticeLevelByte s.noticeLine]))

/-- LOOK returns the images of the records it names, in one class, and moves the cursor to the last; it refuses a
count or step outside 1 to 16, a symbolic reference that yields nothing, a number outside the class and a stale name.
Each record returned meets the watches as a PORT-LOOK: a NOTIFY watch records its hit, and a STOP watch ends the LOOK
at its record, with those before it returned. The model's choice (log 40): OUT-OF-RANGE comes before STALE. The images
are those of R157 and R158, byte by byte, least significant first, an enumerated value by its place in its list, the
output state by the table of R118 (log 8, 12; free bytes log 9, 13). -/
def Obligations.LookAnswered : Prop :=
  (∀ (s : State) (n : Nat),
    (inClass .feed n = true ↔ n ≤ 95) ∧ (inClass .profile n = true ↔ 1 ≤ n ∧ n ≤ 255) ∧
    (inClass .sector n = true ↔ n ≤ 15) ∧ (inClass .sensor n = true ↔ n ≤ 7) ∧
    (∀ f : FeedNo, n = f.val → s.recordNamed .feed n = some (.feed f)) ∧
    (∀ h : HandleIx, n = h.val + 1 → s.recordNamed .profile n = some (.profile ⟨h, (s.handle h).gen⟩)) ∧
    (∀ k : SectorNo, n = k.val → s.recordNamed .sector n = some (.sector k)) ∧
    ∀ k : ChannelNo, n = k.val → s.recordNamed .sensor n = some (.sensor k)) ∧
  ((∀ x : Tier, [Tier.safety, .programme, .ambient, .test][x.code]? = some x) ∧
    (∀ x : OverrideAction, [OverrideAction.keep, .silence, .switch][x.code]? = some x) ∧
    (∀ x : ResolutionState, [ResolutionState.new, .queued, .clean, .faulted, .held][x.code]? = some x) ∧
    (∀ x : OutputState,
      [OutputState.silent, .steady, .gliding, .fading, .onStandby, .overrideSilent][x.code]? = some x) ∧
    (∀ x : OutputSource, [OutputSource.normal, .standby, .mute][x.code]? = some x) ∧
    (∀ x : HandleState, [HandleState.free, .live, .retiring][x.code]? = some x) ∧
    (∀ x : Polarity, [Polarity.normal, .inverted][x.code]? = some x) ∧
    (∀ x : Shape, [Shape.peak, .lowShelf, .highShelf, .lowCut, .highCut, .notch][x.code]? = some x) ∧
    (∀ x : SectorMode, [SectorMode.sensed, .fixed][x.code]? = some x) ∧
    (∀ x : SpeedStatus, [SpeedStatus.tracking, .degraded, .fixed][x.code]? = some x) ∧
    (∀ x : AnalogInput, [AnalogInput.ain 0, .ain 1, .ain 2, .ain 3, .ain 4, .ain 5, .ain 6, .ain 7, .refA, .refB,
      .ground][x.code]? = some x) ∧
    (∀ x : ProbeKind, [ProbeKind.bridge, .linear][x.code]? = some x) ∧
    (∀ x : ChannelState, [ChannelState.off, .warming, .valid, .faulted][x.code]? = some x) ∧
    ∀ x : RecordClass, [RecordClass.feed, .profile, .sector, .sensor][x.code]? = some x) ∧
  (∀ x : FeedRender,
    (x.transition = none →
      (x.source = .normal → x.outputState = if x.active.isSome then .steady else .silent) ∧
      (x.source = .standby → x.outputState = .onStandby) ∧ (x.source = .mute → x.outputState = .overrideSilent)) ∧
    ∀ v, x.transition = some v →
      (v.kind = .glide → x.source = .normal ∨ x.source = .standby → x.outputState = .gliding) ∧
      (v.kind = .fadeIn → x.source = .normal → x.outputState = .fading) ∧
      (v.kind = .fadeOut → x.source = .normal ∨ x.source = .mute → x.outputState = .fading) ∧
      (v.kind = .crossfade → x.source = .normal ∨ x.source = .standby → x.outputState = .fading)) ∧
  (∀ s : State,
    let le1 := fun n : Nat => [BitVec.ofNat 8 n]
    let le2 := fun i : Int => [BitVec.ofInt 8 i, BitVec.ofInt 8 (i / 256)]
    let le4 := fun i : Int =>
      [BitVec.ofInt 8 i, BitVec.ofInt 8 (i / 256), BitVec.ofInt 8 (i / 65536), BitVec.ofInt 8 (i / 16777216)]
    let yes := fun b : Bool => [if b then 0#8 else 1#8]
    let handle := fun b : Option Handle => match b with
      | some h => le1 (h.ix.val + 1) ++ le1 h.gen.val
      | none => [0, Config.absentHandleGeneration]
    let delay := fun d : Option Int => match d with
      | some x => le4 x
      | none => [0xFF, 0xFF, 0xFF, 0xFF]
    let seconds := fun n : Option Nat => match n with
      | some x => le4 x
      | none => [0xFF, 0xFF, 0xFF, 0xFF]
    let trim := fun t : Option Int => match t with
      | some x => le2 x
      | none => [0xFF, 0xFF]
    let temp := fun t : Option Int => match t with
      | some x => le2 x
      | none => [0x00, 0x80]
    let fault := fun r : Option FaultReason => match r with
      | none => [0#8]
      | some .range => [1]
      | some .leadUnresolved => [2]
    let slot := fun p : Option Setting => match p with
      | some x => le4 x.outputDelay ++ [match x.bus with
        | .programme n => BitVec.ofNat 8 n.val
        | .evacuation => Config.evacuationBusByte]
      | none => [0xFF, 0xFF, 0xFF, 0xFF, 0xFF]
    let kind := fun v : Option Transition => match v.map Transition.kind with
      | none => [0#8]
      | some .glide => [1]
      | some .fadeIn => [2]
      | some .fadeOut => [3]
      | some .crossfade => [4]
    let progress := fun v : Option Transition => match v with
      | none => le4 Config.noTransitionBytes.toNat
      | some v => le2 v.blocksDone ++ le2 v.length
    let weight := fun (b : Bool) (n : Nat) => if b then n else 0
    (∀ f : FeedNo,
      let e := s.feed f
      let x := s.renderOf f
      s.feedImage f =
        le1 f.val ++ le2 e.label.toNat ++ le1 e.tier.code ++ le1 e.sector.val ++ le1 e.bus.val ++
        handle e.binding ++ handle e.overrideBinding ++ le1 e.overrideAction.code ++
        le1 ((e.lead.map Fin.val).getD 0xFF) ++ le4 e.excessPath ++ delay e.geomDelay ++ le1 e.revision.toNat ++
        le1 e.resolution.code ++ fault e.faultReason ++ le1 x.outputState.code ++ le1 x.source.code ++
        le1 (weight x.active.isSome 1 + weight x.pending.isSome 2 + weight x.standby.isSome 4 +
          weight x.silenceOrder 8 + weight x.takeStopped 16) ++
        slot x.active ++ slot x.pending ++ kind x.transition ++ progress x.transition) ∧
    (∀ h : HandleIx,
      let e := s.handle h
      let head := le1 (h.val + 1) ++ le1 e.gen.val ++ le1 e.state.code
      (e.state = .free → s.profileImage h = head) ∧
      ∀ p x, e.state ≠ .free → e.record = some p → e.extent = some x → s.profileImage h =
        head ++ le2 e.refCount ++ le2 x.offset ++ le2 x.len ++ yes e.inMove ++
        (le2 p.label.toNat ++ le1 p.tier.code ++ handle p.base ++ trim p.latencyTrim ++ le2 p.gainTrim ++
          le1 p.polarity.code ++ le1 p.sections.length ++ p.sections.flatMap fun y =>
            le1 y.shape.code ++ yes y.enabled ++ le2 y.frequency ++ le2 y.gain ++ le2 y.width)) ∧
    (∀ n : SectorNo,
      let e := s.sector n
      let g := e.config
      s.sectorImage n =
        (le1 g.stand.val ++ le1 g.mode.code ++ le2 g.fixedTemp) ++ le2 e.speed.toNat ++ le2 e.epoch.toNat ++
        le1 g.hysteresis ++ le2 g.settle ++ le2 g.glide ++ le1 e.status.code ++ temp e.sensedTemp ++
        seconds e.sinceChange ++ yes e.awaitingFix ++ yes e.deferred ++ yes (s.holds.get n).held ++
        yes (s.holds.get n).request ++ [Config.overflowMarkByte (s.deps.overflow.get n)]) ∧
    (∀ k : ChannelNo,
      let c := s.channel k
      let g := c.config
      s.sensorImage k =
        yes g.enabled ++ le1 g.positive.code ++ le1 g.negative.code ++ le1 g.gain ++ le2 g.offsetTrim ++
        le1 g.probe.code ++ le1 g.interval ++ le1 ((g.sector.map Fin.val).getD 0xFF) ++ le1 c.state.code ++
        le1 c.window.length ++ temp c.average ++ temp c.lastCode) ∧
    (∀ r, lengthAndImage (s.recordImage r) =
      let image := match r with
        | .feed f => s.feedImage f
        | .profile h => s.profileImage h.ix
        | .sector n => s.sectorImage n
        | .sensor k => s.sensorImage k
      le1 image.length ++ image) ∧
    ∀ r : RecordName, r.bytes = match r with
      | .feed f => [0, 0, BitVec.ofNat 8 f.val, Config.unreadGenerationByte .feed]
      | .profile h => [0, 1, BitVec.ofNat 8 (h.ix.val + 1), BitVec.ofNat 8 h.gen.val]
      | .sector n => [0, 2, BitVec.ofNat 8 n.val, Config.unreadGenerationByte .sector]
      | .sensor k => [0, 3, BitVec.ofNat 8 k.val, Config.unreadGenerationByte .sensor]) ∧
  (∀ (s : State) (f : FeedNo) (n : SectorNo) (k : ChannelNo),
    (s.feedImage f).length = 41 ∧ (s.sectorImage n).length = (s.sectorImage 0).length ∧
    (s.sensorImage k).length = (s.sensorImage 0).length) ∧
  (∀ (s : State) (tag : Byte) (count step : Nat), s.ready → 1 ≤ count → count ≤ 16 → 1 ≤ step → step ≤ 16 →
    let fails := fun (ref : RecordRef) (st : Status) =>
      exec (.look ⟨tag, some ⟨ref, count, step⟩⟩) s = .next (s.released.answered tag st [])
    (∀ f, s.port.cursor = .feed f → (f = 95 → fails .next .outOfRange) ∧ (f = 0 → fails .previous .outOfRange) ∧
      ((s.feed f).binding = none → fails .referred .noReference)) ∧
    (∀ n, s.port.cursor = .sector n → (n = 15 → fails .next .outOfRange) ∧ (n = 0 → fails .previous .outOfRange) ∧
      fails .referred .noReference) ∧
    (∀ k, s.port.cursor = .sensor k → (k = 7 → fails .next .outOfRange) ∧ (k = 0 → fails .previous .outOfRange) ∧
      ((s.channel k).config.sector = none → fails .referred .noReference)) ∧
    ∀ h, s.port.cursor = .profile h → (h.ix = 254 → fails .next .outOfRange) ∧ (h.ix = 0 → fails .previous .outOfRange) ∧
      ((s.handle h.ix).state = .free → fails .referred .free) ∧
      ((s.handle h.ix).state ≠ .free → (s.handle h.ix).gen ≠ h.gen → fails .referred .stale) ∧
      ((s.handle h.ix).state ≠ .free → (s.handle h.ix).gen = h.gen → s.baseOf h.ix = none →
        fails .referred .noReference)) ∧
  ∀ (s : State) (tag : Byte) (i : LookItems), s.ready →
    ((i.count = 0 ∨ 16 < i.count ∨ i.step = 0 ∨ 16 < i.step) →
      exec (.look ⟨tag, some i⟩) s = .next (s.released.answered tag .badValue [])) ∧
    ∀ t, 1 ≤ i.count → i.count ≤ 16 → 1 ≤ i.step → i.step ≤ 16 → s.resolve i.ref = .ok t →
      let numbers := (List.range i.count).map fun j => t.number + j * i.step
      let names := numbers.filterMap (s.recordNamed t.cls)
      let images := fun rs : List RecordName => rs.flatMap fun r => lengthAndImage (s.recordImage r)
      let looked := fun rs : List RecordName => rs.foldl (fun u r => (u.watchTest .portLook r).1) s.released
      ((∃ n ∈ numbers, inClass t.cls n = false) →
        exec (.look ⟨tag, some i⟩) s = .next (s.released.answered tag .outOfRange [])) ∧
      ((∀ n ∈ numbers, inClass t.cls n = true) →
        (∀ h, t.cls = .profile → handleIx t.number = some h → (s.handle h).state ≠ .free → (s.handle h).gen.val ≠ t.gen →
          exec (.look ⟨tag, some i⟩) s = .next (s.released.answered tag .stale [])) ∧
        ((∀ h, t.cls = .profile → handleIx t.number = some h →
            (s.handle h).state = .free ∨ (s.handle h).gen.val = t.gen) →
          names.length = i.count ∧
          ((∀ r ∈ names, s.stops .portLook r = false) → ∀ last, names.getLast? = some last →
            exec (.look ⟨tag, some i⟩) s = .next (((looked names).setCursor last).answered tag .ok
              (byte1 t.cls.code ++ byte1 i.count ++ images names))) ∧
          ∀ before r after, names = before ++ r :: after → (∀ x ∈ before, s.stops .portLook x = false) →
            s.stops .portLook r = true →
            let ended := looked (before ++ [r])
            let moved := match before.getLast? with
              | some last => ended.setCursor last
              | none => ended
            exec (.look ⟨tag, some i⟩) s = .next (moved.answered tag .watched
              (byte1 t.cls.code ++ byte1 before.length ++ images before ++ r.bytes))))

/-- FIND returns, in ascending order from the start, the first 32 feeds or profiles whose labels match, and the last
number examined; FREE handles are passed over, and the cursor moves to the last match. Only the number of the start is
used, whatever class its reference carries: the model's reading (log 15). -/
def Obligations.FindAnswered : Prop :=
  ∀ (s : State) (tag : Byte) (i : FindItems), s.ready →
    (∀ f, s.labelOf (.feed f) = some (s.feed f).label) ∧
    (∀ h, s.labelOf (.profile h) =
      if (s.handle h.ix).state = .free then none else (s.handle h.ix).record.map ProfileRecord.label) ∧
    (i.cls = .sector ∨ i.cls = .sensor →
      exec (.find ⟨tag, some i⟩) s = .next (s.released.answered tag .badValue [])) ∧
    (∀ st, i.cls = .feed ∨ i.cls = .profile → s.resolve i.start = .error st →
      exec (.find ⟨tag, some i⟩) s = .next (s.released.answered tag st [])) ∧
    ∀ t, i.cls = .feed ∨ i.cls = .profile → s.resolve i.start = .ok t →
      let top := if i.cls = .feed then 95 else 255
      (inClass i.cls t.number = false →
        exec (.find ⟨tag, some i⟩) s = .next (s.released.answered tag .outOfRange [])) ∧
      (inClass i.cls t.number = true →
        let hits := (List.range' t.number (top + 1 - t.number)).filterMap fun n =>
          (s.recordNamed i.cls n).filter fun r => match s.labelOf r with
            | some label => ((label ^^^ i.pattern) &&& ~~~i.mask = 0) == (i.sense = .matching)
            | none => false
        let found := hits.take 32
        let last := match found[31]? with
          | some r => r.target.number
          | none => top
        let s' := match found.getLast? with
          | some r => s.released.setCursor r
          | none => s.released
        exec (.find ⟨tag, some i⟩) s = .next (s'.answered tag .ok
          (byte1 found.length ++ found.flatMap matchBytes ++ byte1 last)))

/-- READ NOTICES changes no notice; CLEAR NOTICES returns the named kinds as they stood and clears them and no other.
The details stand in the order of R163's rows, the model's reading (log 10). Raising a notice sets its flag, and its
detail only where the flag was clear (R163); the sets carry one bit a kind in the order of R163. -/
def Obligations.NoticesReadCleared : Prop :=
  (∀ n : Notices,
    let kept := fun (held : Bool) (t : Notices) => if held then n else t
    (∀ f r, n.raise (.resolveFault f r) = kept n.resolveFault.isSome { n with resolveFault := some (f, r) }) ∧
    (∀ d, n.raise (.policy d) = kept n.policy.isSome { n with policy := some d }) ∧
    (∀ k, n.raise (.dependencyOverflow k) = kept n.dependencyOverflow.isSome { n with dependencyOverflow := some k }) ∧
    (∀ d, n.raise (.sensorFault d) = kept n.sensorFault.isSome { n with sensorFault := some d }) ∧
    n.raise (.watch 0) = { n with watch0 := true } ∧ n.raise (.watch 1) = { n with watch1 := true } ∧
    (∀ st c, n.raise (.override st c) = kept n.override.isSome { n with override := some (st, c) }) ∧
    n.raise .compactionDone = { n with compactionDone := true } ∧
    (∀ o, n.raise (.saveDone o) = kept n.saveDone.isSome { n with saveDone := some o }) ∧
    (∀ o, n.raise (.loadDone o) = kept n.loadDone.isSome { n with loadDone := some o }) ∧
    n.raise .imageInvalid = { n with imageInvalid := true }) ∧
  (∀ (n : Notices) (set : NoticeSet),
    let kinds : List NoticeKind := [.resolveFault, .policy, .dependencyOverflow, .sensorFault, .watch0, .watch1, .override,
      .compactionDone, .saveDone, .loadDone, .imageInvalid]
    let flags := [n.resolveFault.isSome, n.policy.isSome, n.dependencyOverflow.isSome, n.sensorFault.isSome, n.watch0,
      n.watch1, n.override.isSome, n.compactionDone, n.saveDone.isSome, n.loadDone.isSome, n.imageInvalid]
    (∀ (i : Nat) (k : NoticeKind), kinds[i]? = some k →
      flags[i]? = some (n.flagged k) ∧ n.flags.getLsbD i = n.flagged k ∧ hasKind set k = set.getLsbD i) ∧
    n.details set = (kinds.filter (hasKind set)).flatMap n.detail ∧
    n.detail .resolveFault = (match n.resolveFault with
      | some (f, .range) => [BitVec.ofNat 8 f.val, 1]
      | some (f, .leadUnresolved) => [BitVec.ofNat 8 f.val, 2]
      | none => []) ∧
    n.detail .policy = (match n.policy with
      | some d => d.referrer.bytes ++ d.referred.bytes ++ (match d.kind with
        | .bind => [0]
        | .bindOverride => [1]
        | .base => [2]
        | .lead => [3]
        | .crossStand => [4])
      | none => []) ∧
    n.detail .dependencyOverflow = (match n.dependencyOverflow with
      | some k => [BitVec.ofNat 8 k.val]
      | none => []) ∧
    n.detail .sensorFault = (match n.sensorFault with
      | some (.channel k) => (RecordName.sensor k).bytes
      | some (.sector k) => (RecordName.sector k).bytes
      | none => []) ∧
    n.detail .override = (match n.override with
      | some (st, c) => [if st = .engaged then 1 else 0, if c = .port then 1 else 0]
      | none => []) ∧
    n.detail .saveDone = (match n.saveDone with
      | some .written => [0]
      | some .failed => [1]
      | none => []) ∧
    n.detail .loadDone = (match n.loadDone with
      | some o => [Config.loadOutcomeByte (o = .loaded)]
      | none => []) ∧
    n.detail .watch0 = [] ∧ n.detail .watch1 = [] ∧ n.detail .compactionDone = [] ∧ n.detail .imageInvalid = []) ∧
  (∀ (s : State) (r : Request Unit), r.items = some () → s.ready →
    exec (.readNotices r) s = .next (s.released.answered r.tag .ok
      (bytes2 s.notices.flags.toNat ++ bytes2 s.noticeMask.toNat ++ s.notices.details (BitVec.allOnes 11)))) ∧
  ∀ (s : State) (r : Request NoticeSet) (kinds : NoticeSet), r.items = some kinds → s.ready →
    ∃ t, exec (.clearNotices r) s = .next t ∧
      (∀ k, t.notices.flagged k = (s.notices.flagged k && !hasKind kinds k)) ∧
      (∀ k, hasKind kinds k = false → t.notices.detail k = s.notices.detail k) ∧
      t = { (s.released.answered r.tag .ok
        (bytes2 (s.notices.flags &&& kinds).toNat ++ s.notices.details kinds)) with notices := t.notices }

/-- NOTICE MASK with nothing reads the mask; one that keeps it is taken in every state; one that changes it is a change
request, and ends a start-up wait. -/
def Obligations.NoticeMaskSet : Prop :=
  ∀ (s : State) (r : Request (Option NoticeSet)), s.ready →
    (r.items = some none →
      exec (.noticeMask r) s = .next (s.released.answered r.tag .ok (bytes2 s.noticeMask.toNat))) ∧
    ∀ m, r.items = some (some m) →
      (m = s.noticeMask → exec (.noticeMask r) s = .next (s.released.answered r.tag .ok (bytes2 m.toNat))) ∧
      (m ≠ s.noticeMask → s.longOperation = none →
        exec (.noticeMask r) s = .next
          (({ s.released with noticeMask := m, image := .idle }).answered r.tag .ok (bytes2 m.toNat))) ∧
      (∀ st, m ≠ s.noticeMask → s.longOperation = some st →
        exec (.noticeMask r) s = .next (s.released.answered r.tag st []))

/-! ### Watches -/

/-- A taken WATCH SET stores the configuration and keeps the last hit; a taken WATCH CLEAR disables the watch and
empties its last hit; each is a reconfiguration. READ WATCH returns configuration and last hit and empties the last
hit. A watch number other than 0 and 1, and a configuration outside its sets, are refused. A watch hits when it is
enabled, the record is of its class and in the block that begins at the largest multiple of the span not above the
base, and the access is in its set and not excluded by PORT-ONLY (R144). The watch test records the hit of each watch
that hits, with whether the access was stopped and repeat where the last hit was unread, raises the notice of each,
and stops the access when either action is STOP (R145). -/
def Obligations.WatchRequests : Prop :=
  (∀ (w : WatchConfig) (a : Access) (r : RecordName), 1 ≤ w.span →
    let start := w.span * (w.base / w.span)
    w.blockStart = start ∧ w.blockEnd + 1 = start + w.span ∧
    (w.hits a r = true ↔
      w.enabled = true ∧
      ((∃ f : FeedNo, r = .feed f ∧ w.cls = .feed ∧ start ≤ f.val ∧ f.val < start + w.span) ∨
        ∃ h : Handle, r = .profile h ∧ w.cls = .profile ∧ start ≤ h.ix.val + 1 ∧ h.ix.val + 1 < start + w.span) ∧
      (a = .portLook ∧ w.accesses.portLook = true ∨ a = .portChange ∧ w.accesses.portChange = true ∨
        a = .autoChange ∧ w.accesses.autoChange = true ∧ w.filter = .any ∨
        a = .take ∧ w.accesses.take = true ∧ w.filter = .any))) ∧
  (∀ (s : State) (a : Access) (r : RecordName),
    let hit := fun i : WatchNo => (s.watches.get i).config.hits a r
    let stopped := s.stops a r
    (stopped = true ↔ ∃ i, hit i = true ∧ (s.watches.get i).config.action = .stop) ∧
    ∃ t, s.watchTest a r = (t, stopped) ∧
      (∀ i, t.watches.get i =
        if hit i = true then
          { s.watches.get i with lastHit := some ⟨r, a, stopped, (s.watches.get i).lastHit.isSome⟩ }
        else s.watches.get i) ∧
      t.notices = { s.notices with watch0 := s.notices.watch0 || hit 0, watch1 := s.notices.watch1 || hit 1 } ∧
      t = { s with watches := t.watches, notices := t.notices }) ∧
  (∀ (r : RecordName) (a : Access) (stopped repeated : Bool), optHitBytes (some ⟨r, a, stopped, repeated⟩) =
    r.bytes ++ [match a with
      | .portLook => 0#8
      | .portChange => 1
      | .autoChange => 2
      | .take => 3] ++ [if stopped then 0 else 1, if repeated then 0 else 1]) ∧
  (∀ c : WatchConfig, c.bytes =
    [if c.enabled then 0 else 1, if c.cls = .feed then 0 else 1, BitVec.ofNat 8 c.base, BitVec.ofNat 8 c.span,
      BitVec.ofNat 8 ((if c.accesses.portLook then 1 else 0) + (if c.accesses.portChange then 2 else 0) +
        (if c.accesses.autoChange then 4 else 0) + (if c.accesses.take then 8 else 0)), 0,
      if c.filter = .any then 0 else 1, if c.action = .notify then 0 else 1]) ∧
  (∀ (s : State) (n : WatchNo), s.ready →
    (∀ (r : Request WatchSetItems) (c : WatchConfig), r.items = some ⟨n.val, c⟩ → watchConfigAllowed c = true →
      ∃ t, exec (.watchSet r) s = .next t ∧ Reconfigured s t n ⟨c, (s.watches.get n).lastHit⟩ ∧
        t.port = s.portAnswered r.tag .ok (c.bytes ++ Config.watchBlockBytes c.blockStart c.blockEnd)) ∧
    ∀ r : Request Nat, r.items = some n.val →
      ∃ t, exec (.watchClear r) s = .next t ∧
        Reconfigured s t n ⟨{ (s.watches.get n).config with enabled := false }, none⟩ ∧
        t.port = s.portAnswered r.tag .ok (optHitBytes (s.watches.get n).lastHit)) ∧
  (∀ c : WatchConfig, watchConfigAllowed c = true ↔
    (c.span = 1 ∨ c.span = 2 ∨ c.span = 4 ∨ c.span = 8 ∨ c.span = 16) ∧ c.accesses ≠ ⟨false, false, false, false⟩ ∧
    (c.cls = .feed → c.base ≤ 95) ∧
    (c.cls = .profile → 1 ≤ c.base ∧ c.base ≤ 255 ∧ c.accesses.autoChange = false ∧ c.accesses.take = false)) ∧
  ∀ s : State, s.ready →
    (∀ (r : Request Nat) (n : WatchNo), r.items = some n.val →
      exec (.readWatch r) s = .next
        { s with
          watches := s.watches.upd n { s.watches.get n with lastHit := none }
          port := s.portAnswered r.tag .ok
            ((s.watches.get n).config.bytes ++ optHitBytes (s.watches.get n).lastHit) }) ∧
    (∀ (r : Request Nat) (n : Nat), r.items = some n → 2 ≤ n →
      exec (.readWatch r) s = .next (s.released.answered r.tag .badValue []) ∧
      exec (.watchClear r) s = .next (s.released.answered r.tag .badValue [])) ∧
    ∀ (r : Request WatchSetItems) (i : WatchSetItems), r.items = some i →
      2 ≤ i.watch ∨ watchConfigAllowed i.config = false →
      exec (.watchSet r) s = .next (s.released.answered r.tag .badValue [])

/-! ### Feeds -/

/-- A feed entry after a taken SET of one field: bus, sector and path queue the feed (R4, R5, R6, R17, R18). A refused
first record ends the SET with nothing changed; a SET of labels reaches every record its count and step name; a
refused or stopped later record ends the SET with the earlier ones changed, and the reply names it (R160). A count or
step outside 1 to 16, or a record beyond the class, refuses the whole. The watch test comes last: a STOP watch refuses
the record with WATCHED, a NOTIFY watch records its hit (R10, R145, R146). The model's choice (log 43): a field beyond
the list is tested record by record, after reference and range, and is refused with the body of R160. The model's
readings: a first record refused gives a body of 0 changed and its reference, and a feed's value is tested record by
record after reference and range (log 16); a SET stopped later has ended a start-up wait with its first change
(log 17). -/
def Obligations.SetFeedField : Prop :=
  (∀ (s : State) (r : Request SetItems) (ref : RecordRef) (f : FeedNo) (field : Nat) (v : Int),
    r.items = some ⟨ref, field, v, 1, 1⟩ → s.refFeed ref = .ok f → s.mayChange (.feed f) →
    (∀ c, s.testSetFeed f field v = .ok c → ∃ t, exec (.set r) s = .next t ∧
      t.feed f = (match c with
        | .label x => { s.feed f with label := x }
        | .tier x => { s.feed f with tier := x }
        | .sector x => { (s.feed f).queued with sector := x }
        | .bus x => { (s.feed f).queued with bus := x }
        | .path x => { (s.feed f).queued with excessPath := x }
        | .action x => { s.feed f with overrideAction := x }) ∧
      (∀ g, g ≠ f → t.feed g = s.feed g) ∧
      t.resolver = (match c with
        | .label _ | .tier _ | .action _ => s.resolver
        | .sector _ | .bus _ | .path _ => s.queuedOne f) ∧
      t.port = s.portAnsweredAt (.feed f) r.tag .ok (byte1 1) ∧
      t = { s.observed (.feed f) with feeds := t.feeds, resolver := t.resolver, port := t.port, image := s.endWait.image })) ∧
  (∀ (s u : State) (tag : Byte) (ref : RecordRef) (f g : FeedNo) (field : Nat) (v : Int) (done count step : Nat), s.ready →
    s.refFeed ref = .ok f → 1 ≤ done → done < count → count ≤ 16 → 1 ≤ step → step ≤ 16 →
    f.val + (count - 1) * step ≤ 95 → g.val = f.val + done * step →
    exec (.set ⟨tag, some ⟨ref, field, v, done, step⟩⟩) s = .next u →
    u.port.inProgress = some ⟨tag, .answered ⟨.ok, byte1 done⟩⟩ →
    let ended := fun (w : State) (st : Status) => { w with port := { w.port with
      inProgress := some ⟨tag, .answered ⟨st, byte1 done ++ (RecordName.feed g).bytes⟩⟩ } }
    (∀ st, u.testSetFeed g field v = .error st →
      exec (.set ⟨tag, some ⟨ref, field, v, count, step⟩⟩) s = .next (ended u st)) ∧
    ∀ c, u.testSetFeed g field v = .ok c → u.stops .portChange (.feed g) = true →
      exec (.set ⟨tag, some ⟨ref, field, v, count, step⟩⟩) s =
        .next (ended (u.watchTest .portChange (.feed g)).1 .watched)) ∧
  (∀ (s : State) (tag : Byte) (ref : RecordRef) (f : FeedNo) (field : Nat) (v : Int) (count step : Nat), s.ready →
    s.refFeed ref = .ok f →
    let request := Instr.set ⟨tag, some ⟨ref, field, v, count, step⟩⟩
    (count = 0 ∨ 16 < count ∨ step = 0 ∨ 16 < step → exec request s = .next (s.released.answered tag .badValue [])) ∧
    (1 ≤ count → count ≤ 16 → 1 ≤ step → step ≤ 16 → 95 < f.val + (count - 1) * step →
      exec request s = .next (s.released.answered tag .outOfRange []))) ∧
  ∀ (s : State) (tag : Byte) (ref : RecordRef) (f : FeedNo) (field : Nat) (v : Int) (count step : Nat), s.ready →
    s.refFeed ref = .ok f → 1 ≤ count → count ≤ 16 → 1 ≤ step → step ≤ 16 → f.val + (count - 1) * step ≤ 95 →
    (∀ st, s.testSetFeed f field v = .error st →
      exec (.set ⟨tag, some ⟨ref, field, v, count, step⟩⟩) s =
        .next (s.released.answered tag st (byte1 0 ++ (RecordName.feed f).bytes))) ∧
    (∀ c, s.testSetFeed f field v = .ok c → s.stops .portChange (.feed f) = true →
      exec (.set ⟨tag, some ⟨ref, field, v, count, step⟩⟩) s = .next
        ((s.released.observed (.feed f)).answered tag .watched (byte1 0 ++ (RecordName.feed f).bytes))) ∧
    (field = 0 → 0 ≤ v → v ≤ 65535 → s.longOperation = none → s.poolSettled →
      (∀ g : FeedNo, s.unwatched .portChange (.feed g)) →
      let named := fun g : FeedNo => ∃ j, j < count ∧ g.val = f.val + j * step
      ∃ t, exec (.set ⟨tag, some ⟨ref, field, v, count, step⟩⟩) s = .next t ∧
        (∀ g, named g → t.feed g = { s.feed g with label := BitVec.ofInt 16 v }) ∧
        (∀ g, ¬ named g → t.feed g = s.feed g) ∧
        ∀ last : FeedNo, last.val = f.val + (count - 1) * step →
          t = { s with feeds := t.feeds, port := s.portAnsweredAt (.feed last) tag .ok (byte1 count)
                       image := s.endWait.image })

/-- The tests of SET of one feed field in the order of R10: value, long operation, override lock, the field's own test.
A field beyond the list is tested here, with the value (log 43). -/
def Obligations.SetFeedTests : Prop :=
  ∀ (s : State) (f : FeedNo) (field : Nat) (v : Int),
    let leads := ∃ g, (s.feed g).lead = some f
    let switched := s.locked = true ∧ (s.feed f).overrideAction = .switch
    (feedChange field v = none → s.testSetFeed f field v = .error .badValue) ∧
    (field = 0 ∧ (v < 0 ∨ 65535 < v) ∨ field = 1 ∧ (v < 0 ∨ 3 < v) ∨ field = 2 ∧ (v < 0 ∨ 15 < v) ∨
        field = 3 ∧ (v < 0 ∨ 7 < v) ∨ field = 4 ∧ (v < -250000 ∨ 250000 < v) ∨ field = 5 ∧ (v < 0 ∨ 1 < v) ∨ 6 ≤ field →
      s.testSetFeed f field v = .error .badValue) ∧
    (∀ c st, feedChange field v = some c → c ≠ .action .switch → s.longOperation = some st →
      s.testSetFeed f field v = .error st) ∧
    (s.longOperation = none →
      (0 ≤ v → v ≤ 65535 → s.testSetFeed f 0 v = .ok (.label (BitVec.ofInt 16 v))) ∧
      (∀ tier : Tier, s.testSetFeed f 1 tier.code =
        if (s.feed f).binding.isSome = true ∨ (s.feed f).overrideBinding.isSome = true ∨
            (s.feed f).lead.isSome = true ∨ leads then .error .inUse
        else .ok (.tier tier)) ∧
      (∀ n : SectorNo, s.testSetFeed f 2 n.val =
        if switched then .error .locked
        else if (s.feed f).lead.isSome = true ∨ leads then .error .inUse
        else .ok (.sector n)) ∧
      (∀ b : Fin 8, s.testSetFeed f 3 b.val = .ok (.bus b)) ∧
      (-250000 ≤ v → v ≤ 250000 →
        s.testSetFeed f 4 v = if switched then .error .locked else .ok (.path v)) ∧
      (∀ a : OverrideAction, a ≠ .switch → s.testSetFeed f 5 a.code =
        if s.locked = true then .error .locked
        else if (s.feed f).overrideBinding.isSome = true then .error .inUse
        else .ok (.action a)))

/-- A taken LEAD stores or removes the lead, changes the follower's dependency entry, removal first, with its
overflow, raises the notices of its NOTIFY outcomes in order, and queues the follower; a LEAD that fails a test
changes nothing. The watch test comes last: a STOP watch refuses with WATCHED and raises no other notice, a NOTIFY
watch records its hit (R10). -/
def Obligations.LeadStored : Prop :=
  ∀ (s : State) (r : Request LeadItems) (i : LeadItems), r.items = some i → s.ready →
    accepts .feed i.follower = true → accepts .feed i.lead = true →
    (∀ st, s.testLead i = .error st → exec (.lead r) s = .next (s.released.answered r.tag st [])) ∧
    (∀ p, s.testLead i = .ok p → s.stops .portChange (.feed p.follower) = true →
      exec (.lead r) s = .next ((s.released.observed (.feed p.follower)).answered r.tag .watched [])) ∧
    ∀ p, s.testLead i = .ok p → s.mayChange (.feed p.follower) →
      let w := s.observed (.feed p.follower)
      let f := p.follower
      let removed := s.deps.remove f
      let far := p.lead.bind fun l => if (s.feed l).sector = (s.feed f).sector then none else some (s.feed l).sector
      let noted := match far with
        | some n => if removed.count < 48 then w.notices else w.notices.raise (.dependencyOverflow n)
        | none => w.notices
      ∃ t, exec (.lead r) s = .next t ∧
        t.feed f = { (s.feed f).queued with lead := p.lead } ∧
        (∀ g, g ≠ f → t.feed g = s.feed g) ∧
        t.deps = (match far with
          | some n =>
            if removed.count < 48 then { removed with entries := removed.entries.upd f (some n) }
            else { removed with overflow := removed.overflow.upd n true }
          | none => removed) ∧
        t.notices = (match p.lead with
          | none => noted
          | some l =>
            let tier := if s.policyFor (s.feed f).tier (s.feed l).tier = .notify then
                noted.raise (.policy ⟨.feed f, .feed l, .lead⟩) else noted
            if s.crossStand = .notify ∧ s.standOf f ≠ s.standOf l then
              tier.raise (.policy ⟨.feed f, .feed l, .crossStand⟩) else tier) ∧
        t.resolver = s.queuedOne f ∧ t.port = s.portAnswered r.tag .ok [] ∧
        t = { w with feeds := t.feeds, deps := t.deps, notices := t.notices, resolver := t.resolver, port := t.port
                     image := s.endWait.image }

/-- The tests of LEAD, in order: the follower's reference and the lead's (both at step 1 of R10, log 18), a long
operation, LOCKED for a SWITCH follower under the override, and with a feed the checks of R12: CYCLE, TOO-DEEP, the
tier policy, the cross-stand setting; with NONE none of these four (R16). One that passes carries the follower and the
lead named. The chain above a feed, its depth and its height are those of R11, wherever no chain has more than four
links. -/
def Obligations.LeadChecks : Prop :=
  (∀ ref, isNoLead ref = true ↔ ∃ gen, ref = .numbered .feed 255 gen) ∧
  (∀ (s : State) (f l : FeedNo), s.testLeadTo f l =
    (if l = f ∨ f ∈ chainAbove s.leadOf 96 l then .error .cycle
    else if 4 < s.depth l + 1 + s.height f then .error .tooDeep
    else if s.policyFor (s.feed f).tier (s.feed l).tier = .refuse then .error .policyRefused
    else if s.standOf f ≠ s.standOf l ∧ s.crossStand = .refuse then .error .crossStand
    else .ok ())) ∧
  (∀ (s : State) (i : LeadItems),
    (∀ st, s.refFeed i.follower = .error st → s.testLead i = .error st) ∧
    ∀ f, s.refFeed i.follower = .ok f →
      (∀ st, isNoLead i.lead = false → s.refFeed i.lead = .error st → s.testLead i = .error st) ∧
      ∀ l : Option FeedNo, (isNoLead i.lead = true ∧ l = none) ∨
          (isNoLead i.lead = false ∧ ∃ x, s.refFeed i.lead = .ok x ∧ l = some x) →
        (∀ st, s.longOperation = some st → s.testLead i = .error st) ∧
        (s.longOperation = none → s.testLead i =
          if s.locked = true ∧ (s.feed f).overrideAction = .switch then .error .locked
          else match l with
            | none => .ok ⟨f, none⟩
            | some x =>
              if x = f ∨ f ∈ chainAbove s.leadOf 96 x then .error .cycle
              else if 4 < s.depth x + 1 + s.height f then .error .tooDeep
              else if s.policyFor (s.feed f).tier (s.feed x).tier = .refuse then .error .policyRefused
              else if s.standOf f ≠ s.standOf x ∧ s.crossStand = .refuse then .error .crossStand
              else .ok ⟨f, some x⟩)) ∧
  ∀ s : State, ChainsSound s →
    (∀ f l, f ∈ chainAbove s.leadOf 96 l ↔ Relation.TransGen (fun a b => (s.feed a).lead = some b) l f) ∧
    (∀ f, (s.feed f).lead = none → s.depth f = 0) ∧
    (∀ f l, (s.feed f).lead = some l → s.depth f = s.depth l + 1) ∧
    (∀ f, (∀ g, (s.feed g).lead ≠ some f) → s.height f = 0) ∧
    (∀ f g, (s.feed g).lead = some f → s.height g + 1 ≤ s.height f) ∧
    (∀ f, (∃ g, (s.feed g).lead = some f) → ∃ g, (s.feed g).lead = some f ∧ s.height f = s.height g + 1) ∧
    ∀ f, s.depth f + s.height f ≤ 4

/-- CLEAR FEED: the name, a long operation, LOCKED for an action other than KEEP under the override, HAS-FOLLOWERS, in
this order. A taken one returns the feed to its cold-start values but for label, tier, sector and revision, drops its
dependency entry, removes the references of both bindings, and queues it. The watch test comes last: a STOP watch
refuses with WATCHED, a NOTIFY watch records its hit.
Where a free abandons a move, the next is chosen once, after the frees of both bindings with their cascades (log 20). -/
def Obligations.ClearFeedResets : Prop :=
  (∀ (s : State) (ref : RecordRef),
    (∀ st, s.refFeed ref = .error st → s.testClearFeed ref = .error st) ∧
    ∀ f, s.refFeed ref = .ok f →
      (∀ st, s.longOperation = some st → s.testClearFeed ref = .error st) ∧
      (s.longOperation = none → s.testClearFeed ref =
        if s.locked = true ∧ (s.feed f).overrideAction ≠ .keep then .error .locked
        else if ∃ g, (s.feed g).lead = some f then .error .hasFollowers
        else .ok f)) ∧
  (∀ (s : State) (tag : Byte) (ref : RecordRef) (st : Status), s.ready → accepts .feed ref = true →
    s.testClearFeed ref = .error st →
    exec (.clearFeed ⟨tag, some ref⟩) s = .next (s.released.answered tag st [])) ∧
  (∀ (s : State) (tag : Byte) (ref : RecordRef) (f : FeedNo), s.ready → s.testClearFeed ref = .ok f →
    s.stops .portChange (.feed f) = true →
    exec (.clearFeed ⟨tag, some ref⟩) s = .next ((s.released.observed (.feed f)).answered tag .watched [])) ∧
  ∀ (s : State) (r : Request RecordRef) (ref : RecordRef) (f : FeedNo), r.items = some ref →
    s.testClearFeed ref = .ok f → s.mayChange (.feed f) →
    let w := s.observed (.feed f)
    ∃ t, exec (.clearFeed r) s = .next t ∧
      t.feed f =
        { label := (s.feed f).label, tier := (s.feed f).tier, sector := (s.feed f).sector, bus := 0
          binding := none, overrideBinding := none, overrideAction := .keep, lead := none, excessPath := 0
          geomDelay := none, revision := (s.feed f).revision + 1, resolution := .queued, faultReason := none } ∧
      (∀ g, g ≠ f → t.feed g = s.feed g) ∧
      t.deps = { s.deps with entries := s.deps.entries.upd f none } ∧
      t.resolver = s.queuedOne f ∧ t.port = s.portAnswered r.tag .ok [] ∧
      (let dropped := ((w.dropOptional (s.feed f).binding).dropOptional (s.feed f).overrideBinding).afterAbandon
       t.handles = dropped.handles ∧ t.pool = dropped.pool ∧ t.notices = dropped.notices) ∧
      ((s.feed f).binding = none → (s.feed f).overrideBinding = none →
        t.handles = s.handles ∧ t.pool = s.pool ∧ t.notices = w.notices) ∧
      t = { w with feeds := t.feeds, deps := t.deps, handles := t.handles, pool := t.pool, notices := t.notices
                   resolver := t.resolver, port := t.port, image := s.endWait.image }

/-- A taken BIND or BIND-OVERRIDE stores the handle under its present generation (BIND-OVERRIDE with the action
SWITCH), queues the feed, adds one to the count of the profile, raises the POLICY notice of a NOTIFY outcome, and
removes the reference to the handle that stood there before, which can free it. The watch test comes last: a STOP
watch refuses with WATCHED, a NOTIFY watch records its hit. Where a free abandons a move, the
next is chosen once, after the cascade (log 20). -/
def Obligations.BindingsStored : Prop :=
  (∀ (s : State) (r : Request BindItems) (i : BindItems) (p : BindPlan), r.items = some i → s.ready →
    s.stops .portChange (.feed p.feed) = true →
    let refused := (s.released.observed (.feed p.feed)).answered r.tag .watched []
    (s.testBind i = .ok p → exec (.bind r) s = .next refused) ∧
    (s.testBindOverride i = .ok p → exec (.bindOverride r) s = .next refused)) ∧
  ∀ (s : State) (r : Request BindItems) (i : BindItems) (p : BindPlan), r.items = some i →
    s.mayChange (.feed p.feed) →
    let w := s.observed (.feed p.feed)
    let h : Handle := ⟨p.profile, (s.handle p.profile).gen⟩
    let counted := s.handles.upd p.profile
      { s.handle p.profile with refCount := (s.handle p.profile).refCount + 1 }
    let noted := fun kind =>
      if s.policyToProfile (s.feed p.feed).tier p.profile = .notify then
        w.notices.raise (.policy ⟨.feed p.feed, .profile h, kind⟩)
      else w.notices
    let replaced := fun (former : Option Handle) kind =>
      ({ ({ w with handles := counted } : State).dropOptional former with notices := noted kind }).afterAbandon
    (s.testBind i = .ok p → ∃ t, exec (.bind r) s = .next t ∧
      t.feed p.feed = { (s.feed p.feed).queued with binding := some h } ∧
      (∀ g, g ≠ p.feed → t.feed g = s.feed g) ∧
      ((s.feed p.feed).binding = none → t.handles = counted ∧ t.pool = s.pool ∧ t.notices = noted .bind) ∧
      (let u := replaced (s.feed p.feed).binding .bind
       t.handles = u.handles ∧ t.pool = u.pool ∧ t.notices = u.notices) ∧
      t.resolver = s.queuedOne p.feed ∧ t.port = s.portAnswered r.tag .ok [] ∧
      t = { w with feeds := t.feeds, handles := t.handles, pool := t.pool, notices := t.notices
                   resolver := t.resolver, port := t.port, image := s.endWait.image }) ∧
    (s.testBindOverride i = .ok p → ∃ t, exec (.bindOverride r) s = .next t ∧
      t.feed p.feed = { (s.feed p.feed).queued with overrideBinding := some h, overrideAction := .switch } ∧
      (∀ g, g ≠ p.feed → t.feed g = s.feed g) ∧
      ((s.feed p.feed).overrideBinding = none →
        t.handles = counted ∧ t.pool = s.pool ∧ t.notices = noted .bindOverride) ∧
      (let u := replaced (s.feed p.feed).overrideBinding .bindOverride
       t.handles = u.handles ∧ t.pool = u.pool ∧ t.notices = u.notices) ∧
      t.resolver = s.queuedOne p.feed ∧ t.port = s.portAnswered r.tag .ok [] ∧
      t = { w with feeds := t.feeds, handles := t.handles, pool := t.pool, notices := t.notices
                   resolver := t.resolver, port := t.port, image := s.endWait.image })

/-- The tests of BIND, in order: the feed, a long operation, the profile's name, RETIRING, the tier policy;
BIND-OVERRIDE tests the override lock after the long operation. A name yields OUT-OF-RANGE, NO-REFERENCE, FREE or
STALE as R32 and R156 give, and a request that fails a test is answered with its code and changes nothing. -/
def Obligations.BindTests : Prop :=
  (∀ (s : State) (ref : RecordRef),
    (∀ st, s.resolve ref = .error st → s.refFeed ref = .error st ∧ s.refProfile ref = .error st) ∧
    ∀ t, s.resolve ref = .ok t →
      (t.cls ≠ .feed → s.refFeed ref = .error .noReference) ∧
      (t.cls = .feed → 95 < t.number → s.refFeed ref = .error .outOfRange) ∧
      (t.cls = .feed → ∀ f : FeedNo, t.number = f.val → s.refFeed ref = .ok f) ∧
      (t.cls ≠ .profile → s.refProfile ref = .error .noReference) ∧
      (t.cls = .profile → t.number = 0 ∨ 255 < t.number → s.refProfile ref = .error .outOfRange) ∧
      ∀ h : HandleIx, t.cls = .profile → t.number = h.val + 1 → s.refProfile ref =
        if (s.handle h).state = .free then .error .free
        else if (s.handle h).gen.val ≠ t.gen then .error .stale
        else .ok h) ∧
  (∀ (s : State) (i : BindItems),
    (∀ st, s.refFeed i.feed = .error st → s.testBind i = .error st ∧ s.testBindOverride i = .error st) ∧
    ∀ f, s.refFeed i.feed = .ok f →
      (∀ st, s.longOperation = some st → s.testBind i = .error st ∧ s.testBindOverride i = .error st) ∧
      (s.longOperation = none →
        (s.locked = true → s.testBindOverride i = .error .locked) ∧
        (∀ st, s.refProfile i.profile = .error st →
          s.testBind i = .error st ∧ (s.locked = false → s.testBindOverride i = .error st)) ∧
        ∀ h, s.refProfile i.profile = .ok h →
          let checks : Except Status BindPlan :=
            if (s.handle h).state = .retiring then .error .retiring
            else if s.policyToProfile (s.feed f).tier h = .refuse then .error .policyRefused
            else .ok ⟨f, h⟩
          s.testBind i = checks ∧ (s.locked = false → s.testBindOverride i = checks))) ∧
  ∀ (s : State) (tag : Byte) (i : BindItems) (st : Status), s.ready → accepts .feed i.feed = true →
    accepts .profile i.profile = true →
    (s.testBind i = .error st → exec (.bind ⟨tag, some i⟩) s = .next (s.released.answered tag st [])) ∧
    (s.testBindOverride i = .error st → exec (.bindOverride ⟨tag, some i⟩) s = .next (s.released.answered tag st []))

/-- A taken UNBIND or UNBIND-OVERRIDE makes the binding absent (UNBIND-OVERRIDE with the action KEEP) and queues the
feed; the handle it named loses one reference, and is kept while it is LIVE or still referred to, else freed; a feed
without the binding is taken too. The feed's name, a long operation, for UNBIND-OVERRIDE the override lock, and last a
STOP watch refuse; a NOTIFY watch records its hit. Where a free abandons a move, the next is chosen once, after
the cascade (log 20). -/
def Obligations.BindingsRemoved : Prop :=
  (∀ (s : State) (tag : Byte) (ref : RecordRef), s.ready → accepts .feed ref = true →
    let both := fun t : State => exec (.unbind ⟨tag, some ref⟩) s = .next t ∧ exec (.unbindOverride ⟨tag, some ref⟩) s = .next t
    (∀ st, s.refFeed ref = .error st → both (s.released.answered tag st [])) ∧
    ∀ f, s.refFeed ref = .ok f →
      (∀ st, s.longOperation = some st → both (s.released.answered tag st [])) ∧
      (s.longOperation = none → s.stops .portChange (.feed f) = true →
        let refused := (s.released.observed (.feed f)).answered tag .watched []
        exec (.unbind ⟨tag, some ref⟩) s = .next refused ∧
        (s.locked = false → exec (.unbindOverride ⟨tag, some ref⟩) s = .next refused))) ∧
  ∀ (s : State) (r : Request RecordRef) (ref : RecordRef) (f : FeedNo), r.items = some ref →
    s.refFeed ref = .ok f → s.mayChange (.feed f) →
    let w := s.observed (.feed f)
    let lowered := fun b : Option Handle => match b with
      | none => s.handles
      | some h => s.handles.upd h.ix { s.handle h.ix with refCount := (s.handle h.ix).refCount - 1 }
    let stays := fun b : Option Handle =>
      ∀ h, b = some h → (s.handle h.ix).state = .live ∨ 2 ≤ (s.handle h.ix).refCount
    (∃ t, exec (.unbind r) s = .next t ∧
      t.feed f = { (s.feed f).queued with binding := none } ∧
      (∀ g, g ≠ f → t.feed g = s.feed g) ∧
      (stays (s.feed f).binding → t.handles = lowered (s.feed f).binding ∧ t.pool = s.pool ∧ t.notices = w.notices) ∧
      (let u := (w.dropOptional (s.feed f).binding).afterAbandon
       t.handles = u.handles ∧ t.pool = u.pool ∧ t.notices = u.notices) ∧
      t.resolver = s.queuedOne f ∧ t.port = s.portAnswered r.tag .ok [] ∧
      t = { w with feeds := t.feeds, handles := t.handles, pool := t.pool, notices := t.notices
                   resolver := t.resolver, port := t.port, image := s.endWait.image }) ∧
    (s.locked = false → ∃ t, exec (.unbindOverride r) s = .next t ∧
      t.feed f = { (s.feed f).queued with overrideBinding := none, overrideAction := .keep } ∧
      (∀ g, g ≠ f → t.feed g = s.feed g) ∧
      (stays (s.feed f).overrideBinding →
        t.handles = lowered (s.feed f).overrideBinding ∧ t.pool = s.pool ∧ t.notices = w.notices) ∧
      (let u := (w.dropOptional (s.feed f).overrideBinding).afterAbandon
       t.handles = u.handles ∧ t.pool = u.pool ∧ t.notices = u.notices) ∧
      t.resolver = s.queuedOne f ∧ t.port = s.portAnswered r.tag .ok [] ∧
      t = { w with feeds := t.feeds, handles := t.handles, pool := t.pool, notices := t.notices
                   resolver := t.resolver, port := t.port, image := s.endWait.image }) ∧
    (s.locked = true → exec (.unbindOverride r) s = .next (s.released.answered r.tag .locked []))

/-! ### Profiles -/

/-- CREATE PROFILE and CLONE: the content, the names, a long operation, the base, the handle and the words are tested
in the order of R35 and R37. A taken one makes the lowest FREE handle LIVE at the generation it holds, first-fit, with
the record as given or copied; the base gains one reference, with the POLICY notice of a NOTIFY outcome; the reply
carries the handle and the cursor moves to it. One that fails a test takes no handle and no words. The watch test
comes last, on the new handle: a STOP watch refuses with WATCHED, a NOTIFY watch records its hit. First-fit takes the
first words of the lowest extent that is long enough and leaves its upper part in its place (R53). -/
def Obligations.ProfileCreated : Prop :=
  (∀ (n : Nat) (free : List Extent),
    ((∀ e ∈ free, e.len < n) → firstFit n free = none) ∧
    ∀ before e after, free = before ++ e :: after → (∀ x ∈ before, x.len < n) → n ≤ e.len →
      firstFit n free = some (⟨e.offset, n⟩,
        before ++ (if e.len = n then [] else [⟨e.offset + n, e.len - n⟩]) ++ after)) ∧
  (∀ (s : State) (c : ProfileContent),
    let inRange := (∀ x, c.latencyTrim = some x → 0 ≤ x ∧ x ≤ 7680) ∧ -600 ≤ c.gainTrim ∧ c.gainTrim ≤ 120 ∧
      c.sections.length ≤ 12 ∧ ∀ x ∈ c.sections,
        20 ≤ x.frequency ∧ x.frequency ≤ 20000 ∧ -240 ≤ x.gain ∧ x.gain ≤ 120 ∧ 30 ≤ x.width ∧ x.width ≤ 1600
    (¬ inRange → s.testCreate c = .error .badValue) ∧
    (inRange → ∀ b, c.base = some b →
      (b.number = 0 ∨ 255 < b.number → s.testCreate c = .error .outOfRange) ∧
      ∀ h, handleIx b.number = some h →
        ((s.handle h).state = .free → s.testCreate c = .error .free) ∧
        ((s.handle h).state ≠ .free → (s.handle h).gen.val ≠ b.generation → s.testCreate c = .error .stale)) ∧
    (inRange → ∀ base : Option Handle, base.map Handle.raw = c.base →
      (∀ b, base = some b → (s.handle b.ix).state ≠ .free ∧ (s.handle b.ix).gen = b.gen) →
      (∀ st, s.longOperation = some st → s.testCreate c = .error st) ∧
      (s.longOperation = none → s.testCreate c = s.testNewRecord
        { label := c.label, tier := c.tier, base := base, latencyTrim := c.latencyTrim, gainTrim := c.gainTrim
          polarity := c.polarity, sections := c.sections }))) ∧
  (∀ (s : State) (ref : RecordRef),
    (∀ st, s.refProfile ref = .error st → s.testClone ref = .error st) ∧
    ∀ h r, s.refProfile ref = .ok h → (s.handle h).record = some r →
      (∀ st, s.longOperation = some st → s.testClone ref = .error st) ∧
      (s.longOperation = none → s.testClone ref = s.testNewRecord r)) ∧
  (∀ (s : State) (r : ProfileRecord),
    let refused : Option Status := r.base.bind fun b =>
      if (s.handle b.ix).state = .retiring then some .retiring
      else if (s.baseOf b.ix).isSome = true then some .tooDeep
      else if 16 < s.ownCount b.ix + r.sections.length then some .tooManySections
      else if s.policyToProfile r.tier b.ix = .refuse then some .policyRefused
      else none
    let words := 4 + 2 * r.sections.length
    (∀ st, refused = some st → s.testNewRecord r = .error st) ∧
    (refused = none →
      ((∀ h, (s.handle h).state ≠ .free) → s.testNewRecord r = .error .noHandle) ∧
      ∀ h, (s.handle h).state = .free → (∀ g, g < h → (s.handle g).state ≠ .free) →
        s.testNewRecord r = match firstFit words s.pool.free with
          | some (x, rest) => .ok ⟨h, x, rest, r⟩
          | none => .error (if (s.pool.free.map Extent.len).sum < words then .noSpace else .fragmented))) ∧
  ∀ (s : State) (tag : Byte), s.ready →
    (∀ c, (∀ st, s.testCreate c = .error st →
        exec (.createProfile ⟨tag, some c⟩) s = .next (s.released.answered tag st [])) ∧
      ∀ p, s.testCreate c = .ok p → p.record.label = c.label ∧ p.record.tier = c.tier ∧
        p.record.latencyTrim = c.latencyTrim ∧ p.record.gainTrim = c.gainTrim ∧ p.record.polarity = c.polarity ∧
        p.record.sections = c.sections ∧
        p.record.base.map Handle.raw = c.base) ∧
    (∀ ref st, accepts .profile ref = true → s.testClone ref = .error st →
      exec (.clone ⟨tag, some ref⟩) s = .next (s.released.answered tag st [])) ∧
    (∀ ref p, s.testClone ref = .ok p → ∃ h, s.refProfile ref = .ok h ∧ (s.handle h).record = some p.record) ∧
    ∀ (p : CreatePlan) (c : Instr),
      ((∃ content, c = .createProfile ⟨tag, some content⟩ ∧ s.testCreate content = .ok p) ∨
        ∃ ref, c = .clone ⟨tag, some ref⟩ ∧ s.testClone ref = .ok p) →
      (s.stops .portChange (.profile (s.newHandle p)) = true →
        exec c s = .next ((s.released.observed (.profile (s.newHandle p))).answered tag .watched [])) ∧
      (s.mayChange (.profile (s.newHandle p)) →
      (∀ b, p.record.base = some b → (s.handle b.ix).state ≠ .free) →
      let h := p.handle
      let w := s.observed (.profile (s.newHandle p))
      (s.handle h).state = .free ∧ (∀ g, g < h → (s.handle g).state ≠ .free) ∧
      firstFit (4 + 2 * p.record.sections.length) s.pool.free = some (p.extent, p.free) ∧
      ∃ t, exec c s = .next t ∧
        t.handle h = ⟨.live, (s.handle h).gen, some p.extent, 0, false, some p.record⟩ ∧
        (∀ g, g ≠ h → t.handle g =
          { s.handle g with refCount := (s.handle g).refCount + if namesHandle g p.record.base then 1 else 0 }) ∧
        t.pool = { s.pool with free := p.free } ∧
        t.notices = (match p.record.base with
          | some b =>
            if s.policyToProfile p.record.tier b.ix = .notify then
              w.notices.raise (.policy ⟨.profile ⟨h, (s.handle h).gen⟩, .profile b, .base⟩)
            else w.notices
          | none => w.notices) ∧
        t.port = s.portAnsweredAt (.profile ⟨h, (s.handle h).gen⟩) tag .ok
          (byte1 (handleNumber h) ++ byte1 (s.handle h).gen.val) ∧
        t = { w with handles := t.handles, pool := t.pool, notices := t.notices, port := t.port
                     image := s.endWait.image })

/-- EDIT SECTIONS: the list, the name, a long operation, LOCKED for an override profile or the base of one, RETIRING,
TOO-MANY-SECTIONS with the profile's base and with every profile that names it as base, and the words, in this order.
A taken one replaces the own list and resizes the record (R54, R55), and queues every feed that reaches the profile;
no other field of the handle changes. The watch test comes last: a STOP watch refuses with WATCHED, a NOTIFY watch
records its hit. A growth in place takes the first words of the extent that begins there (R55); a returned extent goes
in at its place in address order and merges with the neighbour that adjoins it, below, above or on both sides (R52).
-/
def Obligations.SectionsReplaced : Prop :=
  (∀ (offset k : Nat) (free : List Extent),
    ((∀ e ∈ free, e.offset ≠ offset) → takeAt offset k free = none) ∧
    ∀ before e after, free = before ++ e :: after → (∀ x ∈ before, x.offset ≠ offset) → e.offset = offset →
      takeAt offset k free =
        if k ≤ e.len then some (before ++ (if e.len = k then [] else [⟨offset + k, e.len - k⟩]) ++ after) else none) ∧
  (∀ (x : Extent) (before after : List Extent), freeListSound (before ++ after) → 1 ≤ x.len →
    (∀ e ∈ before, e.offset + e.len ≤ x.offset) → (∀ e ∈ after, x.offset + x.len ≤ e.offset) →
    let meets := fun below above : Extent => below.offset + below.len = above.offset
    ((∀ e ∈ before, ¬ meets e x) → (∀ e ∈ after, ¬ meets x e) → giveBack x (before ++ after) = before ++ x :: after) ∧
    (∀ low e, before = low ++ [e] → meets e x → (∀ e ∈ after, ¬ meets x e) →
      giveBack x (before ++ after) = low ++ ⟨e.offset, e.len + x.len⟩ :: after) ∧
    (∀ e high, after = e :: high → (∀ e ∈ before, ¬ meets e x) → meets x e →
      giveBack x (before ++ after) = before ++ ⟨x.offset, x.len + e.len⟩ :: high) ∧
    ∀ low e e' high, before = low ++ [e] → after = e' :: high → meets e x → meets x e' →
      giveBack x (before ++ after) = low ++ ⟨e.offset, e.len + x.len + e'.len⟩ :: high) ∧
  (∀ (s : State) (h : HandleIx),
    (s.isOverrideProfile h = true ↔
      ∃ f b, (s.feed f).overrideBinding = some b ∧ (b.ix = h ∨ ∃ c, s.baseOf b.ix = some c ∧ c.ix = h)) ∧
    ∀ f, f ∈ s.feedsReaching h ↔
      ∃ b, ((s.feed f).binding = some b ∨ (s.feed f).overrideBinding = some b) ∧
        (b.ix = h ∨ ∃ c, s.baseOf b.ix = some c ∧ c.ix = h)) ∧
  (∀ (s : State) (i : EditSectionsItems),
    let n := i.sections.length
    let inRange := n ≤ 12 ∧ ∀ x ∈ i.sections,
      20 ≤ x.frequency ∧ x.frequency ≤ 20000 ∧ -240 ≤ x.gain ∧ x.gain ≤ 120 ∧ 30 ≤ x.width ∧ x.width ≤ 1600
    (¬ inRange → s.testEditSections i = .error .badValue) ∧
    (inRange → ∀ st, s.refProfile i.profile = .error st → s.testEditSections i = .error st) ∧
    (inRange → ∀ h, s.refProfile i.profile = .ok h →
      let fits := (∀ b, s.baseOf h = some b → s.ownCount b.ix + n ≤ 16) ∧
        ∀ d b, s.baseOf d = some b → b.ix = h → n + s.ownCount d ≤ 16
      (∀ st, s.longOperation = some st → s.testEditSections i = .error st) ∧
      (s.longOperation = none →
        (s.locked = true → s.isOverrideProfile h = true → s.testEditSections i = .error .locked) ∧
        (s.locked = false ∨ s.isOverrideProfile h = false →
          ((s.handle h).state = .retiring → s.testEditSections i = .error .retiring) ∧
          ((s.handle h).state ≠ .retiring →
            (¬ fits → s.testEditSections i = .error .tooManySections) ∧
            (fits → ∀ x, (s.handle h).extent = some x →
              let room := 4 + 2 * n ≤ x.len ∨
                (takeAt (x.offset + x.len) (4 + 2 * n - x.len) s.pool.free).isSome = true ∨
                (firstFit (4 + 2 * n) s.pool.free).isSome = true
              (room → ∃ p, s.testEditSections i = .ok p ∧ p.handle = h) ∧
              (¬ room → s.testEditSections i = .error
                (if (s.pool.free.map Extent.len).sum < 4 + 2 * n - x.len then .noSpace else .fragmented)))))))) ∧
  ∀ (s : State) (tag : Byte) (i : EditSectionsItems), s.ready → accepts .profile i.profile = true →
    s.editWaits i.profile = false →
    (∀ st, s.testEditSections i = .error st →
      exec (.editSections ⟨tag, some i⟩) s = .next (s.released.answered tag st [])) ∧
    (∀ p, s.testEditSections i = .ok p → s.stops .portChange (.profile (s.currentHandle p.handle)) = true →
      exec (.editSections ⟨tag, some i⟩) s = .next
        ((s.released.observed (.profile (s.currentHandle p.handle))).answered tag .watched [])) ∧
    ∀ p, s.testEditSections i = .ok p → s.mayChange (.profile (s.currentHandle p.handle)) →
      (∀ x, (s.handle p.handle).extent = some x →
        let n := 4 + 2 * i.sections.length
        (n = x.len → p.extent = x ∧ p.free = s.pool.free) ∧
        (n < x.len → p.extent = ⟨x.offset, n⟩ ∧ p.free = giveBack ⟨x.offset + n, x.len - n⟩ s.pool.free) ∧
        (x.len < n →
          (p.extent = ⟨x.offset, n⟩ ∧ takeAt (x.offset + x.len) (n - x.len) s.pool.free = some p.free) ∨
          (takeAt (x.offset + x.len) (n - x.len) s.pool.free = none ∧
            ∃ rest, firstFit n s.pool.free = some (p.extent, rest) ∧ p.free = giveBack x rest))) ∧
      ∃ t, exec (.editSections ⟨tag, some i⟩) s = .next t ∧
        t.handle p.handle =
          { s.handle p.handle with
            extent := some p.extent
            record := (s.handle p.handle).record.map fun r => { r with sections := i.sections } } ∧
        (∀ g, g ≠ p.handle → t.handle g = s.handle g) ∧
        t.pool = { s.pool with free := p.free } ∧
        (∀ f, f ∈ s.feedsReaching p.handle → t.feed f = (s.feed f).queued) ∧
        (∀ f, f ∉ s.feedsReaching p.handle → t.feed f = s.feed f) ∧
        t.resolver = s.queuedAll (s.feedsReaching p.handle) ∧ t.port = s.portAnswered tag .ok [] ∧
        t = { s.observed (.profile (s.currentHandle p.handle)) with
          handles := t.handles, pool := t.pool, feeds := t.feeds, resolver := t.resolver, port := t.port
          image := s.endWait.image }

/-- BASE: both names, a long operation, LOCKED, RETIRING for the profile and then for the base, TOO-DEEP,
TOO-MANY-SECTIONS and POLICY-REFUSED, in this order; with NONE the first five alone. A taken one stores or removes the
base and queues every feed that reaches the profile; the new base gains one reference before the former loses one,
which can free it, and nothing else changes but the POLICY notice of a NOTIFY outcome. The watch test comes last: a
STOP watch refuses with WATCHED, a NOTIFY watch records its hit. Where a free abandons a move, the next is chosen
once, after it (log 20). -/
def Obligations.BaseStored : Prop :=
  (∀ ref, isNoBase ref = true ↔ ∃ gen, ref = .numbered .profile 0 gen) ∧
  (∀ (s : State) (i : BaseItems),
    (∀ st, s.refProfile i.profile = .error st → s.testBase i = .error st) ∧
    ∀ h, s.refProfile i.profile = .ok h →
      (∀ st, isNoBase i.base = false → s.refProfile i.base = .error st → s.testBase i = .error st) ∧
      ∀ b : Option HandleIx, (isNoBase i.base = true ∧ b = none) ∨
          (isNoBase i.base = false ∧ ∃ x, s.refProfile i.base = .ok x ∧ b = some x) →
        (∀ st, s.longOperation = some st → s.testBase i = .error st) ∧
        (s.longOperation = none → s.testBase i =
          if s.locked = true ∧ s.isOverrideProfile h = true then .error .locked
          else if (s.handle h).state = .retiring then .error .retiring
          else match b with
            | none => .ok ⟨h, none⟩
            | some x =>
              if (s.handle x).state = .retiring then .error .retiring
              else if x = h ∨ (∃ d, (s.baseOf d).map Handle.ix = some h) ∨ (s.baseOf x).isSome = true then .error .tooDeep
              else if 16 < s.ownCount x + s.ownCount h then .error .tooManySections
              else if s.policyToProfile (s.tierOf h) x = .refuse then .error .policyRefused
              else .ok ⟨h, some ⟨x, (s.handle x).gen⟩⟩)) ∧
  ∀ (s : State) (tag : Byte) (i : BaseItems), s.ready → accepts .profile i.profile = true →
    accepts .profile i.base = true → s.editWaits i.profile = false →
    (∀ st, s.testBase i = .error st → exec (.base ⟨tag, some i⟩) s = .next (s.released.answered tag st [])) ∧
    (∀ p, s.testBase i = .ok p → s.stops .portChange (.profile (s.currentHandle p.handle)) = true →
      exec (.base ⟨tag, some i⟩) s = .next
        ((s.released.observed (.profile (s.currentHandle p.handle))).answered tag .watched [])) ∧
    ∀ p, s.testBase i = .ok p → s.mayChange (.profile (s.currentHandle p.handle)) →
      let w := s.observed (.profile (s.currentHandle p.handle))
      let former := s.baseOf p.handle
      ∃ t, exec (.base ⟨tag, some i⟩) s = .next t ∧
        ((∀ a, former = some a → (s.handle a.ix).state = .live ∨ 2 ≤ (s.handle a.ix).refCount) →
          (∀ g, t.handle g =
            { s.handle g with
              refCount := (s.handle g).refCount + (if namesHandle g p.base then 1 else 0) -
                (if namesHandle g former then 1 else 0)
              record := if g = p.handle then (s.handle g).record.map fun r => { r with base := p.base }
                else (s.handle g).record }) ∧
          t.pool = s.pool ∧
          t.notices = (match p.base with
            | some b =>
              if s.policyToProfile (s.tierOf p.handle) b.ix = .notify then
                w.notices.raise (.policy ⟨.profile (s.currentHandle p.handle), .profile b, .base⟩)
              else w.notices
            | none => w.notices)) ∧
        (let stored := s.handles.upd p.handle { s.handle p.handle with
           record := (s.handle p.handle).record.map fun r => { r with base := p.base } }
         let raised := match p.base with
           | some b => stored.upd b.ix { stored.get b.ix with refCount := (stored.get b.ix).refCount + 1 }
           | none => stored
         let noted := match p.base with
           | some b =>
             if s.policyToProfile (s.tierOf p.handle) b.ix = .notify then
               w.notices.raise (.policy ⟨.profile (s.currentHandle p.handle), .profile b, .base⟩)
             else w.notices
           | none => w.notices
         let u := ({ ({ w with handles := raised } : State).dropOptional former with notices := noted }).afterAbandon
         t.handles = u.handles ∧ t.pool = u.pool ∧ t.notices = u.notices) ∧
        (∀ f, f ∈ s.feedsReaching p.handle → t.feed f = (s.feed f).queued) ∧
        (∀ f, f ∉ s.feedsReaching p.handle → t.feed f = s.feed f) ∧
        t.resolver = s.queuedAll (s.feedsReaching p.handle) ∧ t.port = s.portAnswered tag .ok [] ∧
        t = { w with handles := t.handles, pool := t.pool, notices := t.notices, feeds := t.feeds
                     resolver := t.resolver, port := t.port, image := s.endWait.image }

/-- SET of one field of one profile: content outside its range is refused first, but for a content edit that waits
(log 16), then a count or step outside 1 to 16 and a record beyond the class; tier is refused for a RETIRING profile,
one in use and one with a base, a content edit under the override lock and for a RETIRING one, and last a STOP watch
refuses; a label is taken for a RETIRING profile and under the override; a taken change stores the field, and a
content edit queues the feeds that reach the profile. A SET of labels reaches every record its count and step name,
each under its present generation after the first; a refused, stopped or waiting later record ends or halts the SET
with the earlier ones changed (R160). A field beyond the list is refused with the content, before all else (log 43). A
SET stopped later has ended a start-up wait with its first change, the model's reading (log 17). -/
def Obligations.ProfileFieldSet : Prop :=
  (∀ (s : State) (tag : Byte) (ref : RecordRef) (h : HandleIx) (field : Nat) (v : Int), s.ready →
    s.refProfile ref = .ok h →
    let request := Instr.set ⟨tag, some ⟨ref, field, v, 1, 1⟩⟩
    let tested := s.testSetProfile (handleNumber h) (s.handle h).gen.val field v
    (profileChange field v = none → (s.handle h).inMove = false ∨ (field ≠ 2 ∧ field ≠ 3 ∧ field ≠ 4) →
      exec request s = .next (s.released.answered tag .badValue [])) ∧
    (field = 0 ∧ (v < 0 ∨ 65535 < v) ∨ field = 1 ∧ (v < 0 ∨ 3 < v) ∨ field = 2 ∧ (v < -1 ∨ 7680 < v) ∨
        field = 3 ∧ (v < -600 ∨ 120 < v) ∨ field = 4 ∧ (v < 0 ∨ 1 < v) ∨ 5 ≤ field ↔ profileChange field v = none) ∧
    (∀ st, profileChange field v ≠ none → s.longOperation = some st → tested = .error st) ∧
    (s.longOperation = none →
      let content := fun c : ProfileChange =>
        tested = if s.locked = true ∧ s.isOverrideProfile h = true then .error .locked
          else if (s.handle h).state = .retiring then .error .retiring
          else .ok (h, c)
      (field = 0 → 0 ≤ v → v ≤ 65535 → tested = .ok (h, .label (BitVec.ofInt 16 v))) ∧
      (∀ tier : Tier, field = 1 → v = tier.code →
        tested = if (s.handle h).state = .retiring then .error .retiring
          else if 0 < (s.handle h).refCount ∨ (s.baseOf h).isSome = true then .error .inUse
          else .ok (h, .tier tier)) ∧
      (field = 2 → v = -1 → content (.latencyTrim none)) ∧
      (field = 2 → 0 ≤ v → v ≤ 7680 → content (.latencyTrim (some v))) ∧
      (field = 3 → -600 ≤ v → v ≤ 120 → content (.gainTrim v)) ∧
      (field = 4 → v = 0 → content (.polarity .normal)) ∧ (field = 4 → v = 1 → content (.polarity .inverted))) ∧
    (∀ count step,
      let ranged := Instr.set ⟨tag, some ⟨ref, field, v, count, step⟩⟩
      (count = 0 ∨ 16 < count ∨ step = 0 ∨ 16 < step → exec ranged s = .next (s.released.answered tag .badValue [])) ∧
      (1 ≤ count → count ≤ 16 → 1 ≤ step → step ≤ 16 → 255 < handleNumber h + (count - 1) * step →
        exec ranged s = .next
          (s.released.answered tag (if profileChange field v = none then .badValue else .outOfRange) []))) ∧
    ((s.handle h).inMove = false ∨ field = 0 ∨ field = 1 →
      (∀ st, profileChange field v ≠ none → tested = .error st →
        exec request s = .next (s.released.answered tag st
          (byte1 0 ++ (RecordRef.numbered .profile (handleNumber h) (s.handle h).gen.val).bytes))) ∧
      (∀ c, tested = .ok (h, c) → s.stops .portChange (.profile (s.currentHandle h)) = true →
        exec request s = .next ((s.released.observed (.profile (s.currentHandle h))).answered tag .watched
          (byte1 0 ++ (RecordRef.numbered .profile (handleNumber h) (s.handle h).gen.val).bytes))) ∧
      ∀ c, tested = .ok (h, c) → s.mayChange (.profile (s.currentHandle h)) → ∃ t, exec request s = .next t ∧
        t.handle h =
          { s.handle h with
            record := (s.handle h).record.map fun r => match c with
              | .label x => { r with label := x }
              | .tier x => { r with tier := x }
              | .latencyTrim x => { r with latencyTrim := x }
              | .gainTrim x => { r with gainTrim := x }
              | .polarity x => { r with polarity := x } } ∧
        (∀ g, g ≠ h → t.handle g = s.handle g) ∧
        (let reached := if field = 0 ∨ field = 1 then [] else s.feedsReaching h
         (∀ f, f ∈ reached → t.feed f = (s.feed f).queued) ∧ (∀ f, f ∉ reached → t.feed f = s.feed f) ∧
         t.resolver = s.queuedAll reached) ∧
        t.port = s.portAnsweredAt (.profile (s.currentHandle h)) tag .ok (byte1 1) ∧
        t = { s.observed (.profile (s.currentHandle h)) with
          handles := t.handles, feeds := t.feeds, resolver := t.resolver, port := t.port, image := s.endWait.image })) ∧
  (∀ (s u : State) (tag : Byte) (ref : RecordRef) (h g : HandleIx) (field : Nat) (v : Int) (done count step : Nat), s.ready →
    s.refProfile ref = .ok h → 1 ≤ done → done < count → count ≤ 16 → 1 ≤ step → step ≤ 16 →
    handleNumber h + (count - 1) * step ≤ 255 → g.val = h.val + done * step →
    exec (.set ⟨tag, some ⟨ref, field, v, done, step⟩⟩) s = .next u →
    u.port.inProgress = some ⟨tag, .answered ⟨.ok, byte1 done⟩⟩ →
    let request := Instr.set ⟨tag, some ⟨ref, field, v, count, step⟩⟩
    let tested := u.testSetProfile (handleNumber g) (u.handle g).gen.val field v
    let content := field = 2 ∨ field = 3 ∨ field = 4
    let refused := RecordRef.numbered .profile (handleNumber g) (u.handle g).gen.val
    let ended := fun (w : State) (st : Status) => { w with port := { w.port with
      inProgress := some ⟨tag, .answered ⟨st, byte1 done ++ refused.bytes⟩⟩ } }
    ((u.handle g).inMove = false ∨ ¬ content →
      (∀ st, tested = .error st → exec request s = .next (ended u st)) ∧
      ∀ c, tested = .ok c → u.stops .portChange (.profile (u.currentHandle g)) = true →
        exec request s = .next (ended (u.watchTest .portChange (.profile (u.currentHandle g))).1 .watched)) ∧
    ((u.handle g).state ≠ .free → (u.handle g).inMove = true → content →
      let job : SetJob := ⟨(List.range (count - done)).map fun j => handleNumber g + j * step, none, field, v, done⟩
      exec request s = .next { u with port := { u.port with inProgress := some ⟨tag, .waiting (.set job)⟩ } })) ∧
  ∀ (s : State) (tag : Byte) (ref : RecordRef) (h last : HandleIx) (v : Int) (count step : Nat), s.ready →
    s.refProfile ref = .ok h → 1 ≤ count → count ≤ 16 → 1 ≤ step → step ≤ 16 →
    last.val = h.val + (count - 1) * step → 0 ≤ v → v ≤ 65535 → s.longOperation = none → s.poolSettled →
    (∀ g, s.unwatched .portChange (.profile g)) →
    let named := fun g : HandleIx => ∃ j, j < count ∧ g.val = h.val + j * step
    (∀ g, named g → (s.handle g).state ≠ .free) →
    ∃ t, exec (.set ⟨tag, some ⟨ref, 0, v, count, step⟩⟩) s = .next t ∧
      (∀ g, named g → t.handle g =
        { s.handle g with record := (s.handle g).record.map fun r => { r with label := BitVec.ofInt 16 v } }) ∧
      (∀ g, ¬ named g → t.handle g = s.handle g) ∧
      t = { s with handles := t.handles, port := s.portAnsweredAt (.profile (s.currentHandle last)) tag .ok (byte1 count)
                   image := s.endWait.image }

/-- A content edit of a profile in move is not tested, whatever its value: it waits as the request in progress, and no
reply is placed. That the value is not tested before the wait, and that count, step and range are, is the model's
reading (log 16). -/
def Obligations.ContentEditWaits : Prop :=
  (∀ (s : State) (tag : Byte) (ref : RecordRef) (h : HandleIx), s.ready → s.refProfile ref = .ok h →
    (s.handle h).inMove = true →
    (∀ sections, exec (.editSections ⟨tag, some ⟨ref, sections⟩⟩) s =
      .next (s.released.setInProgress tag (.waiting (.sections ⟨ref, sections⟩)))) ∧
    (∀ base, accepts .profile base = true → exec (.base ⟨tag, some ⟨ref, base⟩⟩) s =
      .next (s.released.setInProgress tag (.waiting (.base ⟨ref, base⟩)))) ∧
    ∀ field v count step, field = 2 ∨ field = 3 ∨ field = 4 →
      1 ≤ count → count ≤ 16 → 1 ≤ step → step ≤ 16 → handleNumber h + (count - 1) * step ≤ 255 →
      exec (.set ⟨tag, some ⟨ref, field, v, count, step⟩⟩) s = .next (s.released.setInProgress tag
        (.waiting (.set ⟨(List.range count).map fun j => handleNumber h + j * step, some (s.handle h).gen.val, field, v,
          0⟩)))) ∧
  ∀ (s : State) (tag : Byte) (e : WaitingEdit), s.port.inProgress = some ⟨tag, .waiting e⟩ →
    exec .replyPlacement s = .next s

/-- RETIRE by state and count: RETIRING while the count is above 0; a LIVE handle with count 0 is freed, its
generation increased and its words given back, its base losing one reference, and a move of it abandoned. The removal
of a reference frees a RETIRING handle whose count it brings to 0, and with it a RETIRING base in the same way;
compaction then goes on or ends, its next move chosen once, after the cascade (log 20). The tests are the name
(OUT-OF-RANGE, NO-REFERENCE, FREE, STALE) and a long operation. The watch test comes last: a STOP watch refuses with
WATCHED, a NOTIFY watch records its hit. -/
def Obligations.RetireByStateAndCount : Prop :=
  (∀ (s : State) (h : HandleIx), (∀ b, s.baseOf h = some b → b.ix ≠ h) →
    ((s.handle h).state ≠ .retiring ∨ 2 ≤ (s.handle h).refCount → s.dropReference h =
      { s with handles := s.handles.upd h { s.handle h with refCount := (s.handle h).refCount - 1 } }) ∧
    ((s.handle h).state = .retiring → (s.handle h).refCount ≤ 1 → HandleFreed s (s.dropReference h) h)) ∧
  (∀ s : State,
    (∀ h, s.dropOptional (some h) = s.dropReference h.ix) ∧ s.dropOptional none = s ∧
    (s.pool.move.isSome = true ∨ s.pool.compaction = .idle → s.afterAbandon = s) ∧
    (s.pool.move = none → s.pool.compaction = .stopping →
      s.afterAbandon = { s with pool := { s.pool with compaction := .idle } }) ∧
    (s.pool.move = none → s.pool.compaction = .running →
      (s.chooseMove = none → s.afterAbandon =
        { s with pool := { s.pool with compaction := .idle }, notices := s.notices.raise .compactionDone }) ∧
      ∀ e h, s.chooseMove = some (e, h) → s.afterAbandon = s.beginMove e h)) ∧
  ∀ (s : State) (tag : Byte) (ref : RecordRef), s.ready → accepts .profile ref = true →
    (let fails := fun st : Status => exec (.retire ⟨tag, some ref⟩) s = .next (s.released.answered tag st [])
     (∀ st, s.testNamed ref = .error st → fails st) ∧
     (∀ st, s.resolve ref = .error st → fails st) ∧
     ∀ n, s.resolve ref = .ok n →
       (n.cls ≠ .profile → fails .noReference) ∧
       (n.cls = .profile → n.number = 0 ∨ 255 < n.number → fails .outOfRange) ∧
       ∀ h : HandleIx, n.cls = .profile → n.number = h.val + 1 →
         ((s.handle h).state = .free → fails .free) ∧
         ((s.handle h).state ≠ .free → (s.handle h).gen.val ≠ n.gen → fails .stale) ∧
         ((s.handle h).state ≠ .free → (s.handle h).gen.val = n.gen →
           (∀ st, s.longOperation = some st → fails st) ∧
           (s.longOperation = none → s.testNamed ref = .ok h))) ∧
    (∀ h, s.testNamed ref = .ok h → s.stops .portChange (.profile (s.currentHandle h)) = true →
      exec (.retire ⟨tag, some ref⟩) s = .next
        ((s.released.observed (.profile (s.currentHandle h))).answered tag .watched [])) ∧
    ∀ h, s.testNamed ref = .ok h → s.mayChange (.profile (s.currentHandle h)) →
      let w := s.observed (.profile (s.currentHandle h))
      let e := s.handle h
      let answered : State := { w with port := s.portAnswered tag .ok [], image := s.endWait.image }
      (e.state = .live → 0 < e.refCount →
        exec (.retire ⟨tag, some ref⟩) s =
          .next { answered with handles := s.handles.upd h { e with state := .retiring } }) ∧
      (e.state = .retiring → exec (.retire ⟨tag, some ref⟩) s = .next answered) ∧
      (e.state = .live → e.refCount = 0 →
        (∀ b, s.baseOf h = some b → b.ix ≠ h ∧ ((s.handle b.ix).state = .live ∨ 2 ≤ (s.handle b.ix).refCount)) →
        ∃ t, exec (.retire ⟨tag, some ref⟩) s = .next t ∧
          t.handle h = ⟨.free, e.gen + 1, none, 0, false, none⟩ ∧
          (let free := match e.extent with
             | some x => giveBack x s.pool.free
             | none => s.pool.free
           (e.inMove = false ∨ s.pool.compaction ≠ .running →
             (∀ g, g ≠ h → t.handle g =
               { s.handle g with
                 refCount := (s.handle g).refCount - if namesHandle g (s.baseOf h) then 1 else 0 }) ∧
             t.notices = w.notices) ∧
           (e.inMove = false → t.pool = { s.pool with free := free }) ∧
           (e.inMove = true → s.pool.compaction = .stopping → t.pool = ⟨free, .idle, none⟩) ∧
           (e.inMove = true → s.pool.compaction = .running →
             (t.pool.compaction = .running ∧ t.pool.move.isSome = true ∧ t.notices = w.notices) ∨
             (t.pool = ⟨free, .idle, none⟩ ∧ t.notices = w.notices.raise .compactionDone))) ∧
          t = { answered with handles := t.handles, pool := t.pool, notices := t.notices }) ∧
      (e.state = .live → e.refCount = 0 → (∀ b, s.baseOf h = some b → b.ix ≠ h) →
        ∃ u t, HandleFreed w u h ∧ exec (.retire ⟨tag, some ref⟩) s = .next t ∧
          t = { answered with handles := u.afterAbandon.handles, pool := u.afterAbandon.pool
                              notices := u.afterAbandon.notices })

/-- REVIVE: a RETIRING profile returns to LIVE with its count, extent, content and generation unchanged, a LIVE one is
taken and nothing changes, a FREE or stale name is refused; no feed is queued, whatever the override and the move. -/
def Obligations.ReviveReturns : Prop :=
  ∀ (s : State) (tag : Byte) (ref : RecordRef) (n : Target) (h : HandleIx), s.ready →
    s.resolve ref = .ok n → n.cls = .profile → handleIx n.number = some h →
    let e := s.handle h
    let request := Instr.revive ⟨tag, some ref⟩
    let name : RecordName := .profile ⟨h, e.gen⟩
    (e.state = .free → exec request s = .next (s.released.answered tag .free [])) ∧
    (e.state ≠ .free → e.gen.val ≠ n.gen → exec request s = .next (s.released.answered tag .stale [])) ∧
    (e.state ≠ .free → e.gen.val = n.gen →
      (∀ st, s.longOperation = some st → exec request s = .next (s.released.answered tag st [])) ∧
      (s.longOperation = none → s.stops .portChange name = true →
        exec request s = .next ((s.released.watchTest .portChange name).1.answered tag .watched [])) ∧
      (s.longOperation = none → s.stops .portChange name = false → s.poolSettled →
        let t : State :=
          { (s.watchTest .portChange name).1 with
            handles := if e.state = .retiring then s.handles.upd h { e with state := .live } else s.handles
            port := s.portAnswered tag .ok []
            image := s.endWait.image }
        exec request s = .next t ∧ (t.handle h).state = .live ∧ t.requireNotRetiring h = .ok () ∧
          t.feeds = s.feeds ∧ t.resolver = s.resolver))

/-! ### Compaction -/

/-- COMPACT START is refused with BUSY while compaction, a save, a load or the start-up wait is in flight; else the lowest
free extent with a record directly above it begins the first move, or compaction completes at once. COMPACT STOP makes
RUNNING STOPPING and changes nothing else. -/
def Obligations.CompactStartStop : Prop :=
  ∀ (s : State) (tag : Byte), s.ready →
    (s.pool.compaction ≠ .idle ∨ s.image ≠ .idle →
      exec (.compactStart ⟨tag, some ()⟩) s = .next (s.released.answered tag .busy [])) ∧
    (s.pool.compaction = .idle → s.image = .idle →
      (∀ e h len, freeListSound s.pool.free → e ∈ s.pool.free →
        (s.handle h).extent = some ⟨e.offset + e.len, len⟩ →
        (∀ g x, (s.handle g).extent = some x → x.offset = e.offset + e.len → g = h) →
        (∀ e' ∈ s.pool.free, e'.offset < e.offset →
          ∀ g x, (s.handle g).extent = some x → x.offset ≠ e'.offset + e'.len) →
        exec (.compactStart ⟨tag, some ()⟩) s = .next
          { s with
            handles := s.handles.upd h { s.handle h with extent := some ⟨e.offset, e.len + len⟩, inMove := true }
            pool :=
              { free := s.pool.free.filter fun x => x ≠ e
                compaction := .running
                move := some ⟨h, e.offset, len, e.len + len⟩ }
            port := s.portAnswered tag .started [] }) ∧
      ((∀ e ∈ s.pool.free, ∀ g x, (s.handle g).extent = some x → x.offset ≠ e.offset + e.len) →
        exec (.compactStart ⟨tag, some ()⟩) s = .next
          { s with notices := s.notices.raise .compactionDone, port := s.portAnswered tag .started [] })) ∧
    exec (.compactStop ⟨tag, some ()⟩) s = .next
      { s with
        pool := { s.pool with
          compaction := match s.pool.compaction with
            | .running => .stopping
            | .stopping => .stopping
            | .idle => .idle }
        port := s.portAnswered tag .ok [] }

/-- The completion of a move: the record ends at the start of its span and the rest of the span is given back; then
the next move begins, or compaction completes with its notice, or it ends after a stop. No feed is queued (R60, R66).
A waiting EDIT SECTIONS, BASE or SET is tested against the records as the move leaves them and taken or refused, and
its reply fills the slot in the same step; a SET goes on to its next records; MOVE_COMPLETE and DEFERRED_EDIT then
name one step (the model's choice, log 31). The watch test comes last: a STOP watch refuses the edit, a NOTIFY watch
records its hit. The next move is chosen once, after the edit and the cascade of its free (log 20). -/
def Obligations.MoveCompletes : Prop :=
  (∀ (s : State) (m : MoveRecord), s.pool.move = some m → s.waitingEdit = none →
    let u : State :=
      { s with
        handles := s.handles.upd m.handle
          { s.handle m.handle with extent := some ⟨m.spanStart, m.recordLen⟩, inMove := false }
        pool :=
          { s.pool with
            free := giveBack ⟨m.spanStart + m.recordLen, m.spanLen - m.recordLen⟩ s.pool.free
            move := none } }
    (u.chooseMove = none →
      exec .moveComplete s = .next
        { u with pool := { u.pool with compaction := .idle }, notices := s.notices.raise .compactionDone }) ∧
    (∀ e h, u.chooseMove = some (e, h) → s.pool.compaction = .running →
      exec .moveComplete s = .next (u.beginMove e h)) ∧
    (∀ e h, u.chooseMove = some (e, h) → s.pool.compaction = .stopping →
      exec .moveComplete s = .next { u with pool := { u.pool with compaction := .idle } })) ∧
  (∀ (s : State) (m : MoveRecord) (tag : Byte) (i : BaseItems), s.pool.move = some m →
    s.port.inProgress = some ⟨tag, .waiting (.base i)⟩ →
    let u := s.settleMove m
    let replied := fun st => { s.port with slot := some ⟨st, tag, []⟩, inProgress := none }
    exec .moveComplete s = exec .deferredEdit s ∧
    (∀ st, u.testBase i = .error st →
      exec .deferredEdit s = .next ({ u with port := replied st }).endMove) ∧
    ∀ p, u.testBase i = .ok p →
      (u.stops .portChange (.profile (u.currentHandle p.handle)) = false →
        exec .deferredEdit s = .next
          ({ ((u.observed (.profile (u.currentHandle p.handle))).applyBase p).afterAbandon.endWait with port := replied .ok }).endMove) ∧
      (u.stops .portChange (.profile (u.currentHandle p.handle)) = true →
        exec .deferredEdit s = .next
          ({ u.observed (.profile (u.currentHandle p.handle)) with port := replied .watched }).endMove)) ∧
  (∀ (s : State) (m : MoveRecord) (tag : Byte) (field : Nat) (v : Int) (n : Nat) (rest : List Nat) (named : Option Nat)
      (done : Nat), s.pool.move = some m →
    s.port.inProgress = some ⟨tag, .waiting (.set ⟨n :: rest, named, field, v, done⟩)⟩ →
    let u := s.settleMove m
    let gen := named.getD (u.presentGen .profile n)
    u.setWaits field n gen = false →
    let refused := fun st => { s.port with
      slot := some ⟨st, tag, byte1 done ++ (RecordRef.numbered .profile n gen).bytes⟩, inProgress := none }
    exec .moveComplete s = exec .deferredEdit s ∧
    (∀ st, u.testSetProfile n gen field v = .error st →
      exec .deferredEdit s = .next ({ u with port := refused st }).endMove) ∧
    ∀ h c, u.testSetProfile n gen field v = .ok (h, c) →
      (u.stops .portChange (.profile (u.currentHandle h)) = true →
        exec .deferredEdit s = .next
          ({ u.observed (.profile (u.currentHandle h)) with port := refused .watched }).endMove) ∧
      (u.stops .portChange (.profile (u.currentHandle h)) = false →
        let taken : State := { ((u.observed (.profile (u.currentHandle h))).applyProfileChange h c).afterAbandon.endWait with
          port := { s.port with cursor := .profile (u.currentHandle h) } }
        (rest = [] → exec .deferredEdit s = .next ({ taken with port := { taken.port with
          slot := some ⟨.ok, tag, byte1 (done + 1)⟩, inProgress := none } }).endMove) ∧
        (rest ≠ [] → exec .deferredEdit s = .next
          ((setProfilesLoop field v rest none (done + 1) taken).1.placeEditReply tag
            (setProfilesLoop field v rest none (done + 1) taken).2).endMove))) ∧
  ∀ (s : State) (m : MoveRecord) (tag : Byte) (i : EditSectionsItems), s.pool.move = some m →
    s.port.inProgress = some ⟨tag, .waiting (.sections i)⟩ →
    let u := s.settleMove m
    let replied := fun st => { s.port with slot := some ⟨st, tag, []⟩, inProgress := none }
    exec .moveComplete s = exec .deferredEdit s ∧
    (∀ st, u.testEditSections i = .error st →
      exec .deferredEdit s = .next ({ u with port := replied st }).endMove) ∧
    ∀ p, u.testEditSections i = .ok p →
      (u.stops .portChange (.profile (u.currentHandle p.handle)) = false →
        exec .deferredEdit s = .next
          ({ ((u.observed (.profile (u.currentHandle p.handle))).applyEditSections i.sections p).endWait with port := replied .ok }).endMove) ∧
      (u.stops .portChange (.profile (u.currentHandle p.handle)) = true →
        exec .deferredEdit s = .next
          ({ u.observed (.profile (u.currentHandle p.handle)) with port := replied .watched }).endMove)

/-! ### The Reference Check Unit and the Dependency Pool -/

/-- POLICY SET with an empty list reads the table; a list that names a pair twice, or more than 16 changes, is refused;
a taken one stores its outcomes. CROSS-STAND SET with nothing reads the setting, with one stores it. Each reply carries
what stands after the request. The model's choice (log 42): a pair named twice is refused before SAVING and LOADING. -/
def Obligations.PolicyAndCrossStandSet : Prop :=
  ∀ (s : State) (tag : Byte), s.ready →
    (∀ cs : List PolicyChange,
      (cs = [] → exec (.policySet ⟨tag, some cs⟩) s = .next (s.released.answered tag .ok s.policyBytes)) ∧
      (16 < cs.length ∨ ¬ (cs.map fun c => (c.referrer, c.referred)).Nodup →
        exec (.policySet ⟨tag, some cs⟩) s = .next (s.released.answered tag .badValue [])) ∧
      (cs ≠ [] → cs.length ≤ 16 → (cs.map fun c => (c.referrer, c.referred)).Nodup →
        (∀ st, s.longOperation = some st →
          exec (.policySet ⟨tag, some cs⟩) s = .next (s.released.answered tag st [])) ∧
        (s.longOperation = none → ∃ t, exec (.policySet ⟨tag, some cs⟩) s = .next t ∧
          (∀ c ∈ cs, t.policyFor c.referrer c.referred = c.outcome) ∧
          (∀ a b, (∀ c ∈ cs, ¬ (c.referrer = a ∧ c.referred = b)) → t.policyFor a b = s.policyFor a b) ∧
          t = { s with policy := t.policy, port := s.portAnswered tag .ok t.policyBytes
                       image := s.endWait.image }))) ∧
    exec (.crossStandSet ⟨tag, some none⟩) s =
      .next (s.released.answered tag .ok (byte1 s.crossStand.code)) ∧
    ∀ v : PolicyOutcome,
      (∀ st, s.longOperation = some st →
        exec (.crossStandSet ⟨tag, some (some v)⟩) s = .next (s.released.answered tag st [])) ∧
      (s.longOperation = none → exec (.crossStandSet ⟨tag, some (some v)⟩) s = .next
        { s with crossStand := v, port := s.portAnswered tag .ok (byte1 v.code), image := s.endWait.image })

/-- REBUILD DEPENDENCIES is refused only while a load is in flight; else it records the first 48 cross-sector followers
in feed order, marks the lead sectors of the others, names the first of them in DEPENDENCY-OVERFLOW, and queues no
feed. -/
def Obligations.RebuildRecordsFirst48 : Prop :=
  ∀ (s : State) (tag : Byte), s.ready →
    (∀ phase, s.image = .loading phase →
      exec (.rebuildDependencies ⟨tag, some ()⟩) s = .next (s.released.answered tag .loading [])) ∧
    ((∀ phase, s.image ≠ .loading phase) →
      let found := s.crossSectorFollowers
      ∃ t, exec (.rebuildDependencies ⟨tag, some ()⟩) s = .next t ∧
        (∀ f n, (f, n) ∈ found ↔
          ∃ l, (s.feed f).lead = some l ∧ (s.feed l).sector = n ∧ (s.feed l).sector ≠ (s.feed f).sector) ∧
        (found.map Prod.fst).Pairwise (· < ·) ∧
        (∀ f n, t.deps.entries.get f = some n ↔ (f, n) ∈ found.take 48) ∧
        (∀ n, t.deps.overflow.get n = true ↔ ∃ f, (f, n) ∈ found.drop 48) ∧
        t.notices = (match found[48]? with
          | some (_, n) => s.notices.raise (.dependencyOverflow n)
          | none => s.notices) ∧
        t = { s with
          deps := t.deps
          notices := t.notices
          port := s.portAnswered tag .ok
            (byte1 found.length ++ byte1 (min found.length 48) ++ bytes2 (sectorSetOf t.deps.overflow.get)) })

/-! ### The Resolver -/

/-- Queuing a feed: revision, state and fault reason, one place in the queue, and the resolution in flight untouched;
a resolution of the feed in flight is then discarded, and in either order of a queuing and a start the next result
delivered is computed after the queuing. What queues several feeds queues one after another in feed order: the feeds
of a sector, the HELD feeds, the feeds that reach a profile (R85). -/
def Obligations.QueueingAFeed : Prop :=
  (∀ (s : State) (n : SectorNo) (h : HandleIx),
    (s.feedsOfSector n = (List.finRange 96).filter fun f => (s.feed f).sector = n) ∧
    (s.heldFeeds = (List.finRange 96).filter fun f => (s.feed f).resolution = .held) ∧
    (s.feedsReaching h).Pairwise (· < ·) ∧ ∀ f fs, s.queueFeeds [] = s ∧ s.queueFeeds (f :: fs) = (s.queueFeed f).queueFeeds fs) ∧
  ∀ (s : State) (f : FeedNo),
    let t := s.queueFeed f
    t.feed f = { s.feed f with revision := (s.feed f).revision + 1, resolution := .queued, faultReason := none } ∧
    ((s.feed f).revision = 255 → (t.feed f).revision = 0) ∧
    (∀ g, g ≠ f → t.feed g = s.feed g) ∧
    (f ∈ s.resolver.queue → t.resolver = s.resolver) ∧
    (f ∉ s.resolver.queue → t.resolver = ⟨s.resolver.queue ++ [f], s.resolver.inFlight⟩) ∧
    t = { s with feeds := t.feeds, resolver := t.resolver } ∧
    (s.resolver.queue.Nodup → t.resolver.queue.Nodup ∧ t.resolver.queue.length ≤ 96) ∧
    (∀ noted, s.resolver.inFlight = some ⟨f, noted⟩ →
      exec .resolutionComplete t = .next { t with resolver := ⟨t.resolver.queue, none⟩ }) ∧
    ∀ rest, s.resolver = ⟨f :: rest, none⟩ → f ∉ rest →
      exec .resolutionStart t = .next { t with resolver := ⟨rest, some ⟨f, (t.feed f).revision⟩⟩ } ∧
      ∃ u, exec .resolutionStart s = .next u ∧
        (u.queueFeed f).resolver = ⟨rest ++ [f], some ⟨f, (s.feed f).revision⟩⟩

/-- The contribution of a link is 76,800 × p / s rounded to the nearest integer, halves away from zero, symmetrical,
and at most 613,183, and every sector's speed keeps it defined; the speed of sound for a temperature is formed with
the same rounding, within 31,312 to 36,766. Every average is the mean rounded the same way, absent for no value (R100,
R109). -/
def Obligations.ContributionAndSpeed : Prop :=
  (∀ n d : Int, 0 < d →
    let q := roundDiv n d
    2 * |n - d * q| ≤ d ∧ (2 * |n - d * q| = d → |n| < |d * q|)) ∧
  (∀ temps : List Int, meanOf temps = if temps = [] then none else some (roundDiv temps.sum temps.length)) ∧
  (∀ p v : Int, 0 < v →
    let c := contribution p v
    2 * |76800 * p - c * v| ≤ v ∧ (2 * |76800 * p - c * v| = v → |76800 * p| < |c * v|) ∧
    contribution (-p) v = -c) ∧
  (∀ p v : Int, |p| ≤ 250000 → 31312 ≤ v → |76800 * p| ≤ 19200000000 ∧ |contribution p v| ≤ 613183) ∧
  contribution 250000 31312 = 613183 ∧
  (∀ (s : State) (n : SectorNo), ClimateSound s → 31312 ≤ (s.sector n).speed ∧ (s.sector n).speed ≤ 36766) ∧
  (∀ t : Int,
    let r := speedAt t - 33130
    2 * |606 * t - 100 * r| ≤ 100 ∧ (2 * |606 * t - 100 * r| = 100 → |606 * t| < |100 * r|)) ∧
  ∀ t : Int, -300 ≤ t → t ≤ 600 → 31312 ≤ speedAt t ∧ speedAt t ≤ 36766

/-- What a resolution computes: the lead's stored delay, or 0 for a root, plus the contribution; absent it faults with
LEAD-UNRESOLVED, outside 0 to 921,600 with RANGE; each bound profile gives a setting of its composed content, the
standby one on bus E, and an output delay out of range faults the whole. A bound handle without a record, which no run
reaches, gives no setting: the model's choice (log 22). -/
def Obligations.ResolutionComputes : Prop :=
  ∀ (s : State) (f : FeedNo),
    (∀ l, (s.feed f).lead = some l → (s.feed l).geomDelay = none → s.resolution f = .error .leadUnresolved) ∧
    ∀ d, ((s.feed f).lead = none ∧ d = 0) ∨ (∃ l, (s.feed f).lead = some l ∧ (s.feed l).geomDelay = some d) →
      let g := d + contribution (s.feed f).excessPath (s.sector (s.feed f).sector).speed
      (g < 0 ∨ 921600 < g → s.resolution f = .error .range) ∧
      (0 ≤ g → g ≤ 921600 →
        let setting := fun bus (bound : Option Handle) => bound.bind fun h => (s.handle h.ix).record.map fun p =>
          let b := p.base.bind fun b => (s.handle b.ix).record
          let gain := p.gainTrim + (b.map ProfileRecord.gainTrim).getD 0
          ({ outputDelay := g + (p.latencyTrim.or (b.bind ProfileRecord.latencyTrim)).getD 0
             sections := (b.map ProfileRecord.sections).getD [] ++ p.sections
             gain := if gain < -600 then -600 else if 120 < gain then 120 else gain
             polarity := p.polarity
             bus := bus } : Setting)
        let normal := setting (.programme (s.feed f).bus) (s.feed f).binding
        let standby := setting .evacuation (s.feed f).overrideBinding
        let playable := ∀ x, normal = some x ∨ standby = some x → 0 ≤ x.outputDelay ∧ x.outputDelay ≤ 921600
        (playable → s.resolution f = .ok ⟨g, normal, standby⟩) ∧
        (¬ playable → s.resolution f = .error .range))

/-- RESOLUTION_START takes the head of the queue and notes its revision; at RESOLUTION_COMPLETE a result of a feed queued
meanwhile is discarded, a fault is stored and raised, and one that a STOP watch observes is held. None of them changes
a delay or a render slot. -/
def Obligations.ResolutionStartsAndFails : Prop :=
  (∀ (s : State) (f : FeedNo) (rest : List FeedNo), s.resolver = ⟨f :: rest, none⟩ →
    exec .resolutionStart s = .next { s with resolver := ⟨rest, some ⟨f, (s.feed f).revision⟩⟩ }) ∧
  ∀ (s : State) (f : FeedNo) (noted : BitVec 8), s.resolver.inFlight = some ⟨f, noted⟩ →
    let landed : State := { s with resolver := ⟨s.resolver.queue, none⟩ }
    ((s.feed f).revision ≠ noted ∨ f ∈ s.resolver.queue → exec .resolutionComplete s = .next landed) ∧
    ((s.feed f).revision = noted → f ∉ s.resolver.queue →
      (∀ r, s.resolution f = .error r → exec .resolutionComplete s = .next
        { landed with
          feeds := s.feeds.upd f { s.feed f with resolution := .faulted, faultReason := some r }
          notices := s.notices.raise (.resolveFault f r) }) ∧
      (∀ r, s.resolution f = .ok r → s.stops .autoChange (.feed f) = true → exec .resolutionComplete s = .next
        { landed with
          feeds := s.feeds.upd f { s.feed f with resolution := .held, faultReason := none }
          watches := (s.watchTest .autoChange (.feed f)).1.watches
          notices := (s.watchTest .autoChange (.feed f)).1.notices }))

/-- A success stores the delay, makes the feed CLEAN, delivers the normal setting against the settled one and the
standby setting, and queues the followers exactly when the delay has changed. The settled normal setting is the target
of a GLIDE or FADE-IN of the source NORMAL, silence in its FADE-OUT, else ACTIVE (R96, log 26). The followers stand in
the order of R80: the Feed Table, the Dependency Pool, the sweep, each in feed order, each feed at its first place. -/
def Obligations.ResolutionSucceeds : Prop :=
  (∀ x : FeedRender,
    (x.transition = none ∨ x.source ≠ .normal → x.settled = x.active) ∧
    ∀ v, x.transition = some v → x.source = .normal →
      (v.kind = .glide ∨ v.kind = .fadeIn → x.settled = v.target) ∧ (v.kind = .fadeOut → x.settled = none) ∧
      (v.kind = .crossfade → x.settled = x.active)) ∧
  (∀ (s : State) (f : FeedNo),
    let n := (s.feed f).sector
    let table := (List.finRange 96).filter fun g => (s.feed g).lead = some f ∧ (s.feed g).sector = n
    let pool := (List.finRange 96).filter fun g => (s.feed g).lead = some f ∧ s.deps.entries.get g = some n
    let sweep := if s.deps.overflow.get n = true then
        (List.finRange 96).filter fun g => (s.feed g).lead.isSome = true ∧ (s.feed g).sector ≠ n
      else []
    s.followersToQueue f =
      (table ++ pool ++ sweep).foldl (fun (yielded : List FeedNo) g => if g ∈ yielded then yielded else yielded ++ [g]) []) ∧
  ∀ (s : State) (f : FeedNo) (r : Resolved), s.resolver.inFlight = some ⟨f, (s.feed f).revision⟩ →
    f ∉ s.resolver.queue → s.resolution f = .ok r → (s.feed f).lead ≠ some f →
    s.stops .autoChange (.feed f) = false →
    let x := s.renderOf f
    let followers := if (s.feed f).geomDelay = some r.delay then [] else s.followersToQueue f
    (∀ g, g ∈ s.followersToQueue f ↔
      ((s.feed g).lead = some f ∧
        ((s.feed g).sector = (s.feed f).sector ∨ s.deps.entries.get g = some (s.feed f).sector)) ∨
      (s.deps.overflow.get (s.feed f).sector = true ∧ (s.feed g).sector ≠ (s.feed f).sector ∧
        (s.feed g).lead.isSome = true)) ∧
    ∃ t, exec .resolutionComplete s = .next t ∧
      t.feed f = { s.feed f with geomDelay := some r.delay, resolution := .clean, faultReason := none } ∧
      (∀ g ∈ followers, t.feed g = (s.feed g).queued) ∧
      (∀ g, g ≠ f → g ∉ followers → t.feed g = s.feed g) ∧
      t.renderOf f =
        { x with
          standby := r.standby
          pending := if r.normal = x.settled then none else r.normal
          silenceOrder := r.normal ≠ x.settled ∧ r.normal = none
          takeStopped :=
            if (r.normal ≠ x.settled ∧ r.normal.isSome = true) ∨ x.pending.isSome = true then false
            else x.takeStopped } ∧
      (∀ g, g ≠ f → t.renderOf g = s.renderOf g) ∧
      t.resolver = ⟨followers.foldl appendOnce s.resolver.queue, none⟩ ∧
      t = { (s.watchTest .autoChange (.feed f)).1 with
            feeds := t.feeds, render := t.render, resolver := t.resolver }

/-! ### The Climate Unit -/

/-- The temperature of a code, by the probe's kind: the value u itself, or the point of the fixed curve, extended past
its ends, each rounded once, halves away from zero. A reading: a code at an end of the range, or a temperature out of
-30.0 to +60.0 °C, empties the window, faults the channel and raises SENSOR-FAULT; any other joins the window of eight
and its average. A channel with a sector then has it evaluated in full; a reading left without effect changes nothing
but its own end. A conversion's start changes no field of R100, and since change counts one second at the 1,500th
block boundary, stopping at 65,535; how the model keeps the two counts is its choice (log 28, 29). -/
def Obligations.ReadingsAndClocks : Prop :=
  (∀ (g : ChannelConfig) (c : Int), 0 < g.gain →
    let x := c - 64 * g.offsetTrim * g.gain
    let t := readingTemp g c
    let nearest := fun (n d : Int) => 2 * |n - d * t| ≤ d ∧ (2 * |n - d * t| = d → |n| < |d * t|)
    let curve : List (Int × Int) := [(-720, -300), (-485, -200), (-245, -100), (0, 0), (250, 100), (505, 200), (765, 300),
      (1030, 400), (1300, 500), (1575, 600)]
    (g.probe = .linear → nearest x g.gain) ∧
    (g.probe = .bridge → ∀ (k : Nat) (low high : Int × Int), curve[k]? = some low → curve[k + 1]? = some high →
      k = 0 ∨ low.1 * g.gain ≤ x → k = 8 ∨ x ≤ high.1 * g.gain →
      let width := high.1 - low.1
      nearest (low.2 * (g.gain * width) + (x - low.1 * g.gain) * 100) (g.gain * width))) ∧
  (∀ (s : State) (k : ChannelNo) (measured : Int) (x : Reading), (s.channel k).reading = some x →
    let c := s.channel k
    let landed := { c with reading := none }
    let code := if measured < -2048 then -2048 else if 2047 < measured then 2047 else measured
    let temp := readingTemp c.config code
    let window := if c.window.length = 8 then c.window.tail ++ [temp] else c.window ++ [temp]
    let evaluated := fun t : State => match c.config.sector with
      | some n => t.fullEvaluation n
      | none => t
    (x.void = true → exec (.readingComplete k measured) s = .next (s.setChannel k landed)) ∧
    (x.void = false → c.config.enabled = true → c.window.length ≤ 8 →
      (measured ≤ -2048 ∨ 2047 ≤ measured ∨ temp < -300 ∨ 600 < temp →
        exec (.readingComplete k measured) s = .next (evaluated
          ((s.setChannel k { landed with lastCode := some code, window := [], average := none, state := .faulted }).raise
            (.sensorFault (.channel k))))) ∧
      (-2048 < measured → measured < 2047 → -300 ≤ temp → temp ≤ 600 →
        exec (.readingComplete k measured) s = .next (evaluated (s.setChannel k
          { landed with
            lastCode := some measured
            window := window
            average := some (roundDiv window.sum window.length)
            state := if c.state = .valid ∨ window.length = 8 then .valid else .warming }))))) ∧
  (∀ (s : State) (k : ChannelNo),
    ((s.channel k).config.enabled = true → (s.channel k).reading = none →
      exec (.conversionStart k) s = .next (s.setChannel k
        { s.channel k with
          reading := some ⟨75, false⟩
          toNext := (s.channel k).toNext + (s.channel k).config.interval * 1500 })) ∧
    ((s.channel k).config.enabled = false ∨ (s.channel k).reading.isSome = true →
      exec (.conversionStart k) s = .next s)) ∧
  ∀ (s : State) (n : SectorNo) (past : Nat), (s.sector n).sinceChange = some past →
    (1500 ≤ (s.sector n).blocks →
      exec (.sinceChangeTick n) s = .next (s.setSector n
        { s.sector n with
          sinceChange := some (if 65535 ≤ past then 65535 else past + 1)
          blocks := (s.sector n).blocks - 1500 })) ∧
    ((s.sector n).blocks < 1500 → exec (.sinceChangeTick n) s = .next s)

/-- A full evaluation of a SENSED sector forms its temperature from the VALID channels and makes the speed test; with
none it is DEGRADED, with SENSOR-FAULT on the change, and its speed stays. While the override is ENGAGED no speed
changes. The counter of blocks, set to 0 at a speed change, is the model's own (log 28); an awaiting fix mark is
cleared by an equal candidate while the override is ENGAGED too (log 35). -/
def Obligations.SectorEvaluated : Prop :=
  ∀ (s : State) (n : SectorNo),
    let e := s.sector n
    let averages := s.validAverages n
    let t := s.fullEvaluation n
    (e.config.mode = .fixed →
      t = s.setSector n { e with sensedTemp := meanOf averages, status := .fixed }) ∧
    (e.config.mode = .sensed → averages = [] →
      t = { (s.setSector n { e with sensedTemp := none, status := .degraded }) with
        notices := if e.status = .degraded then s.notices else s.notices.raise (.sensorFault (.sector n)) }) ∧
    (e.config.mode = .sensed → averages ≠ [] →
      let temp := roundDiv averages.sum averages.length
      let c := speedAt temp
      let tracked := { e with sensedTemp := some temp, status := .tracking }
      let settled := e.deferred = true ∨ ∀ past, e.sinceChange = some past → e.config.settle ≤ past
      let passes := (e.awaitingFix = true ∧ c ≠ e.speed) ∨ ((e.config.hysteresis : Int) ≤ |c - e.speed| ∧ settled)
      let awaiting := e.awaitingFix && c ≠ e.speed
      (passes → s.override.state = .clear →
        t = (s.setSector n
          { tracked with speed := c, epoch := e.epoch + 1, sinceChange := some 0, blocks := 0, awaitingFix := false
                         deferred := false }).queueFeeds (s.feedsOfSector n)) ∧
      (passes → s.override.state = .engaged → t = s.setSector n { tracked with deferred := true }) ∧
      (¬ passes → s.override.state = .clear →
        t = s.setSector n { tracked with awaitingFix := awaiting, deferred := false }) ∧
      (¬ passes → s.override.state = .engaged → t = s.setSector n { tracked with awaitingFix := awaiting }))

/-- SENSOR SET: the tests of R106 in order (the name, the values in their sets, a long operation); a taken request
stores the supplied fields, restarts the channel as the change asks, makes the status evaluation of the sector before
the request and of the one after it (R109, R111), moves the cursor, and queues no feed. A request that supplies no
field forms no items (log 14). The model's choices: the reply is LOOK's image without a length byte (log 41), the
order of the two evaluations (log 36), and how the schedule is counted (log 29). -/
def Obligations.SensorSetStored : Prop :=
  (∀ (s : State) (n : SectorNo),
    let e := s.sector n
    let averages := (List.finRange 8).filterMap fun k =>
      if (s.channel k).config.sector = some n ∧ (s.channel k).state = .valid then (s.channel k).average else none
    let degraded := e.config.mode = .sensed ∧ averages = []
    s.validAverages n = averages ∧
    s.statusEvaluation n =
      { s with
        sectors := s.sectors.upd n
          { e with
            sensedTemp := if averages = [] then none else some (roundDiv averages.sum averages.length)
            status := if e.config.mode = .fixed then .fixed else if averages = [] then .degraded else .tracking }
        notices := if degraded ∧ e.status ≠ .degraded then s.notices.raise (.sensorFault (.sector n)) else s.notices }) ∧
  (∀ (s : State) (ref : RecordRef),
    (∀ st, s.resolve ref = .error st → s.refSensor ref = .error st) ∧
    ∀ t, s.resolve ref = .ok t →
      (t.cls ≠ .sensor → s.refSensor ref = .error .noReference) ∧
      (t.cls = .sensor → 7 < t.number → s.refSensor ref = .error .outOfRange) ∧
      ∀ n : ChannelNo, t.cls = .sensor → t.number = n.val → s.refSensor ref = .ok n) ∧
  (∀ (i : SensorSetItems) (g : ChannelConfig),
    let new := sensorApplied i g
    new.enabled = i.enabled.getD g.enabled ∧ new.positive = i.positive.getD g.positive ∧
    new.negative = i.negative.getD g.negative ∧ new.gain = i.gain.getD g.gain ∧
    new.offsetTrim = i.offsetTrim.getD g.offsetTrim ∧ new.probe = i.probe.getD g.probe ∧
    new.interval = i.interval.getD g.interval ∧ (i.sector = none → new.sector = g.sector) ∧
    (i.sector = some none → new.sector = none) ∧ (∀ n : SectorNo, i.sector = some (some n.val) → new.sector = some n) ∧
    (sensorValuesAllowed i g = true ↔
      (∀ x, i.gain = some x → x = 1 ∨ x = 2 ∨ x = 4 ∨ x = 8) ∧ (∀ x, i.offsetTrim = some x → -15 ≤ x ∧ x ≤ 15) ∧
      (∀ x, i.interval = some x → 1 ≤ x ∧ x ≤ 60) ∧ (∀ x, i.sector = some (some x) → x ≤ 15) ∧
      new.positive ≠ new.negative)) ∧
  (∀ (s : State) (tag : Byte) (i : SensorSetItems) (st : Status), s.ready → SensorSetFormed i = true →
    s.refSensor i.sensor = .error st → exec (.sensorSet ⟨tag, some i⟩) s = .next (s.released.answered tag st [])) ∧
  (∀ (s : State) (tag : Byte) (ref : RecordRef), s.ready →
    exec (.sensorSet ⟨tag, some ⟨ref, none, none, none, none, none, none, none, none⟩⟩) s =
      .next (s.released.answered tag .badValue [])) ∧
  ∀ (s : State) (tag : Byte) (i : SensorSetItems) (k : ChannelNo), s.ready → SensorSetFormed i = true →
    s.refSensor i.sensor = .ok k →
    let c := s.channel k
    let new := sensorApplied i c.config
    (sensorValuesAllowed i c.config = false →
      exec (.sensorSet ⟨tag, some i⟩) s = .next (s.released.answered tag .badValue [])) ∧
    (sensorValuesAllowed i c.config = true →
      (∀ st, s.longOperation = some st →
        exec (.sensorSet ⟨tag, some i⟩) s = .next (s.released.answered tag st [])) ∧
      (s.longOperation = none → ∃ t, exec (.sensorSet ⟨tag, some i⟩) s = .next t ∧
        (c.config.enabled = false → new.enabled = true → t.channel k =
          { c with config := new, state := .warming, window := [], average := none, toNext := new.interval * 1500 }) ∧
        (c.config.enabled = true → new.enabled = false → t.channel k =
          { c with config := new, state := .off, window := [], average := none, reading := none, toNext := 0 }) ∧
        (c.config.enabled = false → new.enabled = false → t.channel k = { c with config := new }) ∧
        (c.config.enabled = true → new.enabled = true →
          let toNext := if c.config.interval = new.interval then c.toNext else new.interval * 1500
          t.channel k =
            if measurementChanged c.config new = true then
              { c with
                config := new, state := .warming, window := [], average := none, toNext := toNext
                reading := c.reading.map fun x => { x with void := true } }
            else { c with config := new, toNext := toNext }) ∧
        (∀ j, j ≠ k → t.channel j = s.channel j) ∧
        (∀ n, (t.sector n).speed = (s.sector n).speed ∧ (t.sector n).epoch = (s.sector n).epoch ∧
          (t.sector n).config = (s.sector n).config) ∧
        (let concerned :=
           if c.config.enabled ≠ new.enabled ∨ (c.config.enabled = true ∧ measurementChanged c.config new = true) ∨
               c.config.sector ≠ new.sector then
             c.config.sector.toList ++ if new.sector = c.config.sector then [] else new.sector.toList
           else []
         let evaluated := concerned.foldl State.statusEvaluation { s with channels := t.channels }
         t.sectors = evaluated.sectors ∧ t.notices = evaluated.notices) ∧
        (measurementChanged c.config new = true ↔
          c.config.positive ≠ new.positive ∨ c.config.negative ≠ new.negative ∨ c.config.gain ≠ new.gain ∨
          c.config.offsetTrim ≠ new.offsetTrim ∨ c.config.probe ≠ new.probe) ∧
        t.port = s.portAnsweredAt (.sensor k) tag .ok (t.sensorImage k) ∧
        t = { s with channels := t.channels, sectors := t.sectors, notices := t.notices, port := t.port
                     image := s.endWait.image }))

/-- SECTOR SET: the tests of R114 in order (the name, the values in the ranges of R107, a long operation, LOCKED,
IN-USE); a taken request stores the supplied fields; one that fixes the speed changes it at once where it differs, and
queues the sector's feeds; one that enters SENSED mode awaits its fix, keeps the speed, and is DEGRADED with
SENSOR-FAULT where it has no VALID channel; the cursor moves. A request that supplies no field forms no items
(log 14). The model's choice (log 41): the reply is LOOK's image, held flag, hold request and overflow mark with it,
without a length byte. The counter of blocks, set to 0 where the speed changes, is the model's own too (log 28). -/
def Obligations.SectorSetStored : Prop :=
  (∀ (s : State) (ref : RecordRef),
    (∀ st, s.resolve ref = .error st → s.refSector ref = .error st) ∧
    ∀ t, s.resolve ref = .ok t →
      (t.cls ≠ .sector → s.refSector ref = .error .noReference) ∧
      (t.cls = .sector → 15 < t.number → s.refSector ref = .error .outOfRange) ∧
      ∀ n : SectorNo, t.cls = .sector → t.number = n.val → s.refSector ref = .ok n) ∧
  (∀ (i : SectorSetItems) (g : SectorConfig),
    let new := sectorApplied i g
    (i.stand = none → new.stand = g.stand) ∧ (∀ n : Fin 4, i.stand = some n.val → new.stand = n) ∧
    new.mode = i.mode.getD g.mode ∧ new.fixedTemp = i.fixedTemp.getD g.fixedTemp ∧
    new.hysteresis = i.hysteresis.getD g.hysteresis ∧ new.settle = i.settle.getD g.settle ∧
    new.glide = i.glide.getD g.glide ∧
    (sectorValuesAllowed i = true ↔
      (∀ x, i.stand = some x → x ≤ 3) ∧ (∀ x, i.fixedTemp = some x → -300 ≤ x ∧ x ≤ 600) ∧
      (∀ x, i.hysteresis = some x → 5 ≤ x ∧ x ≤ 200) ∧ (∀ x, i.settle = some x → 5 ≤ x ∧ x ≤ 600) ∧
      ∀ x, i.glide = some x → 8 ≤ x ∧ x ≤ 1536)) ∧
  (∀ (s : State) (n : SectorNo), s.sectorLinked n = true ↔
    ∃ f l, (s.feed f).lead = some l ∧
      ((s.feed f).sector = n ∧ (s.feed l).sector ≠ n ∨ (s.feed f).sector ≠ n ∧ (s.feed l).sector = n)) ∧
  (∀ (s : State) (tag : Byte) (i : SectorSetItems) (st : Status), s.ready → SectorSetFormed i = true →
    s.refSector i.sector = .error st → exec (.sectorSet ⟨tag, some i⟩) s = .next (s.released.answered tag st [])) ∧
  (∀ (s : State) (tag : Byte) (ref : RecordRef), s.ready →
    exec (.sectorSet ⟨tag, some ⟨ref, none, none, none, none, none, none⟩⟩) s =
      .next (s.released.answered tag .badValue [])) ∧
  ∀ (s : State) (tag : Byte) (i : SectorSetItems) (n : SectorNo), s.ready → SectorSetFormed i = true →
    s.refSector i.sector = .ok n →
    let e := s.sector n
    let new := sectorApplied i e.config
    (∀ st, s.testSectorSet i = .error st →
      exec (.sectorSet ⟨tag, some i⟩) s = .next (s.released.answered tag st [])) ∧
    (sectorValuesAllowed i = false →
      exec (.sectorSet ⟨tag, some i⟩) s = .next (s.released.answered tag .badValue [])) ∧
    (∀ st, sectorValuesAllowed i = true → s.longOperation = some st →
      exec (.sectorSet ⟨tag, some i⟩) s = .next (s.released.answered tag st [])) ∧
    (sectorValuesAllowed i = true → s.longOperation = none →
      s.testSectorSet i =
        if s.locked = true ∧ (i.mode.isSome = true ∨ i.fixedTemp.isSome = true) then .error .locked
        else if new.stand ≠ e.config.stand ∧ s.sectorLinked n = true then .error .inUse
        else .ok n) ∧
    (s.testSectorSet i = .ok n → ∃ t, exec (.sectorSet ⟨tag, some i⟩) s = .next t ∧
      (t.sector n).config = new ∧ (∀ m, m ≠ n → t.sector m = s.sector m) ∧
      (new.mode = .fixed → e.config.mode = .sensed ∨ new.fixedTemp ≠ e.config.fixedTemp →
        (t.sector n).status = .fixed ∧ (t.sector n).awaitingFix = false ∧ (t.sector n).deferred = false ∧
        (t.sector n).speed = speedAt new.fixedTemp ∧
        (speedAt new.fixedTemp ≠ e.speed → (t.sector n).epoch = e.epoch + 1 ∧ (t.sector n).sinceChange = some 0 ∧
          (∀ f, (s.feed f).sector = n → t.feed f = (s.feed f).queued) ∧
          (∀ f, (s.feed f).sector ≠ n → t.feed f = s.feed f) ∧
          t.resolver = s.queuedAll (s.feedsOfSector n)) ∧
        (speedAt new.fixedTemp = e.speed → (t.sector n).epoch = e.epoch ∧
          (t.sector n).sinceChange = e.sinceChange) ∧
        (t.sector n).sensedTemp = e.sensedTemp ∧
        (t.sector n).blocks = (if speedAt new.fixedTemp = e.speed then e.blocks else 0) ∧ t.notices = s.notices) ∧
      (new.mode = .sensed → e.config.mode = .fixed →
        t.sector n =
          { e with
            config := new
            awaitingFix := true
            sensedTemp := meanOf (s.validAverages n)
            status := if s.validAverages n = [] then .degraded else .tracking } ∧
        t.notices = if s.validAverages n = [] ∧ e.status ≠ .degraded then
            s.notices.raise (.sensorFault (.sector n)) else s.notices) ∧
      (new.mode = e.config.mode → new.mode = .sensed ∨ new.fixedTemp = e.config.fixedTemp →
        t.sector n = { e with config := new } ∧ t.notices = s.notices) ∧
      (new.mode = .sensed ∨ speedAt new.fixedTemp = e.speed ∨
          (e.config.mode = .fixed ∧ new.fixedTemp = e.config.fixedTemp) →
        t.feeds = s.feeds ∧ t.resolver = s.resolver) ∧
      t.port = s.portAnsweredAt (.sector n) tag .ok (t.sectorImage n) ∧
      t = { s with sectors := t.sectors, feeds := t.feeds, resolver := t.resolver, notices := t.notices, port := t.port
                   image := s.endWait.image })

/-! ### The Render Engine and the Override Unit -/

/-- HOLD and RELEASE store the hold requests of the sectors named, and change no held flag; an empty set is refused. -/
def Obligations.HoldsRequested : Prop :=
  ∀ (s : State) (tag : Byte) (set : SectorSet), s.ready →
    (set = 0 → exec (.hold ⟨tag, some set⟩) s = .next (s.released.answered tag .badValue []) ∧
      exec (.release ⟨tag, some set⟩) s = .next (s.released.answered tag .badValue [])) ∧
    (set ≠ 0 → ∀ yes : Bool, ∃ t, exec (if yes then .hold ⟨tag, some set⟩ else .release ⟨tag, some set⟩) s = .next t ∧
      (∀ n, t.holds.get n =
        ⟨(s.holds.get n).held, if set.getLsbD n.val then yes else (s.holds.get n).request⟩) ∧
      t = { s with
        holds := t.holds
        port := s.portAnswered tag .ok
          (bytes2 (sectorSetOf fun n => (t.holds.get n).request) ++
            bytes2 (sectorSetOf fun n => (s.holds.get n).held)) })

/-- A block boundary with the override's state already applied, CLEAR or ENGAGED: every held flag takes its request,
every feed makes the one step of R121 that its silence order, its transition, its STANDBY or its PENDING asks for, a
take that a watch observes meets the watch test in feed order, and the clocks count the block. A glide of at most 512
sub-samples goes by tap slip, a longer one by tap crossfade. The model's choices: the order of the feeds' takes at the
watches (log 25), the end of a feed's step after its silence order (log 24), a source STANDBY with none in play
(log 37), and how the clocks are counted in boundaries (log 28, 29, 30). What a transition moves is R119's table; how
a level is kept is log 23. -/
def Obligations.BlockBoundarySteps : Prop :=
  (∀ s : State, s.pins.resetLow = false → s.override.applied = s.override.state →
    ∃ t, exec .blockBoundary s = .next t ∧ BoundaryKept s t (allFeeds.filter s.takeDue) ∧
      ∀ f, Stepped s f (t.renderOf f)) ∧
  (∀ (old new : Setting) (done length : Nat),
    (⟨.glide, .setting old, some new, done, length⟩ : Transition).method =
      some (if |new.outputDelay - old.outputDelay| ≤ 512 then .tapSlip else .tapCrossfade)) ∧
  ∀ (x : FeedRender) (left : OutputLeft) (old new : Setting) (target : Option Setting) (done length : Nat),
    let during := fun (kind : TransitionKind) (from_ : OutputLeft) (to_ : Option Setting) =>
      ({ x with transition := some ⟨kind, from_, to_, done, length⟩ } : FeedRender).voices
    let falling := left.voices.map fun v => { v with level := v.level.toward .silent done length }
    let rising := Level.silent.toward .full done length
    (∀ a b : Level, (0 < length → a.toward b 0 length = a) ∧ a.toward b length length = b) ∧
    (∃ delay, during .glide (.setting old) (some new) =
        [⟨delay, new.sections, new.gain, new.polarity, new.bus, .full⟩] ∧
      (done = length → delay = .steady new.outputDelay) ∧
      (done < length → delay = .moving
        (if |new.outputDelay - old.outputDelay| ≤ 512 then .tapSlip else .tapCrossfade)
        old.outputDelay new.outputDelay done length)) ∧
    during .fadeIn .silence (some new) =
      [⟨.steady new.outputDelay, new.sections, new.gain, new.polarity, new.bus, rising⟩] ∧
    during .fadeOut left none = falling ∧
    during .crossfade left none = falling ∧
    during .crossfade left (some new) =
      falling ++ [⟨.steady new.outputDelay, new.sections, new.gain, new.polarity, new.bus, rising⟩] ∧
    ({ x with transition := none, source := .normal, active := target } : FeedRender).voices =
      target.toList.map fun p => ⟨.steady p.outputDelay, p.sections, p.gain, p.polarity, p.bus, .full⟩

/-- The boundary where the engagement acts: KEEP feeds step as ever, SILENCE feeds and SWITCH feeds without STANDBY
mute, SWITCH feeds with STANDBY cross to it, each with its transition cut short, its silence order carried out, and
the output left at the level it had reached, one block after the last boundary's count. The model's choices: how the
record keeps that output (log 23), the order of takes (log 25), and how the clocks are counted in boundaries (log 28,
29, 30). -/
def Obligations.EngagementActs : Prop :=
  (∀ s : State, s.pins.resetLow = false → s.override.state = .engaged → s.override.applied = .clear →
    ∃ t, exec .blockBoundary s = .next t ∧
      BoundaryKept s t (allFeeds.filter fun f => s.takeDue f && (s.feed f).overrideAction = .keep) ∧
      (∀ f, (s.feed f).overrideAction = .keep → Stepped s f (t.renderOf f)) ∧
      ∀ f, (s.feed f).overrideAction ≠ .keep → Engaged s f (t.renderOf f)) ∧
  ∀ x : FeedRender, x.source = .normal →
    (x.transition = none → x.cutShort = x ∧ x.outputAfterCut = .ofSetting x.active) ∧
    ∀ v, x.transition = some v →
      let reached := if v.kind = .fadeOut then none else v.target
      x.cutShort = { x with transition := none, active := reached } ∧
      x.outputAfterCut = .atLevelOf reached (.partWay v.kind v.left v.target (v.blocksDone + 1) v.length)

/-- The boundary where the disengagement acts: a feed on STANDBY or MUTE has its transition abandoned and its silence
order carried out, takes its PENDING where R123 allows, and returns to its normal source from the output as it stands,
one block after the last boundary's count; a feed on NORMAL steps as ever. The model's choices: how the record keeps
the output as it stands (log 23), the order of takes (log 25), and how the clocks are counted in boundaries (log 28,
29, 30). -/
def Obligations.DisengagementReturns : Prop :=
  (∀ s : State, s.pins.resetLow = false → s.override.state = .clear → s.override.applied = .engaged →
    ∃ t, exec .blockBoundary s = .next t ∧
      BoundaryKept s t (allFeeds.filter fun f => s.takeDue f || s.returnTakeDue f) ∧
      (∀ f, (s.renderOf f).source = .normal → Stepped s f (t.renderOf f)) ∧
      ∀ f, (s.renderOf f).source ≠ .normal → Returned s f (t.renderOf f)) ∧
  ∀ x : FeedRender,
    (∀ v, x.transition = some v →
      x.outputAtBoundary = .partWay v.kind v.left v.target (v.blocksDone + 1) v.length) ∧
    (x.transition = none → x.outputAtBoundary = match x.source with
      | .normal => .ofSetting x.active
      | .standby => .ofSetting x.standbyInPlay
      | .mute => .silence)

/-- TRANSITION_COMPLETE: a transition that has reached its length ends, and the feed's fields change by its kind and the
output source; one still under way is left (the model's choice, log 27). -/
def Obligations.TransitionCompletes : Prop :=
  ∀ (s : State) (f : FeedNo) (y : Transition), (s.renderOf f).transition = some y →
    let x := s.renderOf f
    let ended := { x with transition := none }
    (y.blocksDone ≠ y.length → exec (.transitionComplete f) s = .next s) ∧
    (y.blocksDone = y.length →
      (y.kind = .glide ∧ x.source = .normal ∨ y.kind = .fadeIn ∧ x.source = .normal ∨
          y.kind = .crossfade ∧ x.source = .normal →
        exec (.transitionComplete f) s = .next (s.setRender f { ended with active := y.target })) ∧
      (y.kind = .fadeOut → x.source = .normal →
        exec (.transitionComplete f) s = .next (s.setRender f { ended with active := none })) ∧
      (y.kind = .fadeOut → x.source = .mute → exec (.transitionComplete f) s = .next (s.setRender f ended)) ∧
      (y.kind = .glide ∨ y.kind = .crossfade → x.source = .standby →
        exec (.transitionComplete f) s = .next (s.setRender f { ended with standbyInPlay := y.target })))

/-! ### The Image Interface -/

/-- SAVE is refused with BUSY outside IDLE; else the record set as it stands is written. At its end the flash holds
the new image, or none when it does not answer or its CRC-32 differs, and SAVE-DONE is raised. The record set holds
what R165 lists, an enumerated value by its place in its list (log 34), and nothing else. -/
def Obligations.SaveRuns : Prop :=
  (∀ s : State,
    let raw := fun h : Handle => (⟨h.ix.val + 1, h.gen.val⟩ : RawHandle)
    s.savedRecords =
      { feeds := (List.finRange 96).map fun f =>
          let e := s.feed f
          { label := e.label.toNat, tier := e.tier.code, sector := e.sector.val, bus := e.bus.val
            binding := e.binding.map raw, overrideBinding := e.overrideBinding.map raw
            overrideAction := e.overrideAction.code, lead := e.lead.map Fin.val, excessPath := e.excessPath }
        profiles := ((List.finRange 255).filter fun h => (s.handle h).state ≠ .free).filterMap fun h =>
          let e := s.handle h
          e.record.map fun p =>
            { handle := ⟨h.val + 1, e.gen.val⟩, state := e.state.code, label := p.label.toNat, tier := p.tier.code
              base := p.base.map raw, latencyTrim := p.latencyTrim, gainTrim := p.gainTrim, polarity := p.polarity.code
              sections := p.sections.map fun x => ⟨x.shape.code, x.enabled, x.frequency, x.gain, x.width⟩ }
        sectors := (List.finRange 16).map fun n =>
          let g := (s.sector n).config
          { stand := g.stand.val, mode := g.mode.code, fixedTemp := g.fixedTemp, hysteresis := g.hysteresis
            settle := g.settle, glide := g.glide }
        channels := (List.finRange 8).map fun k =>
          let g := (s.channel k).config
          { enabled := g.enabled, positive := g.positive.code, negative := g.negative.code, gain := g.gain
            offsetTrim := g.offsetTrim, probe := g.probe.code, interval := g.interval, sector := g.sector.map Fin.val }
        policy := [Tier.safety, .programme, .ambient, .test].flatMap fun a =>
          [Tier.safety, .programme, .ambient, .test].map fun b => (s.policyFor a b).code
        crossStand := s.crossStand.code
        noticeMask := s.noticeMask.toNat } ∧
    ∀ x : PolicyOutcome, [PolicyOutcome.allow, .notify, .refuse][x.code]? = some x) ∧
  (∀ (s : State) (tag : Byte), s.ready →
    (s.pool.compaction = .idle → s.image = .idle →
      exec (.save ⟨tag, some ()⟩) s = .next
        { s with image := .saving, flash := .writing s.savedRecords, port := s.portAnswered tag .started [] }) ∧
    (s.pool.compaction ≠ .idle ∨ s.image ≠ .idle →
      exec (.save ⟨tag, some ()⟩) s = .next (s.released.answered tag .busy []))) ∧
  ∀ (s : State) (records : RawImage), s.image = .saving → s.flash = .writing records →
    let written : State :=
      { s with
        image := .idle, flash := .image 1 records .computed, notices := s.notices.raise (.saveDone .written) }
    let failed : State :=
      { s with image := .idle, flash := .noImage, notices := s.notices.raise (.saveDone .failed) }
    exec (.saveComplete .intact) s = .next written ∧ exec (.saveComplete .noAnswer) s = .next failed ∧
    ∀ bytes,
      (crc32 bytes = crc32 (Config.imageBytes 1 records) → exec (.saveComplete (.bytes bytes)) s = .next written) ∧
      (crc32 bytes ≠ crc32 (Config.imageBytes 1 records) → exec (.saveComplete (.bytes bytes)) s = .next failed)

/-- LOAD: BUSY, then LOCKED, else the reading begins; an invalid image ends it with its notices and replaces nothing;
a valid one waits while the override is engaged, and replaces the tables once it is CLEAR. An image is valid when it
passes the tests of R168, and the fields read are those the flash holds. The start-up wait ends in a load at its
expiry. The model's readings: the wait for the override ends by a command of its own (log 32), the flash is what the
reading finds (log 33), and STARTUP_WAIT_EXPIRY begins the load whatever count was waited (log 30). -/
def Obligations.LoadRuns : Prop :=
  (validate .noImage = none ∧ ∀ records, validate (.writing records) = none) ∧
  (∀ (format : Nat) (records : RawImage) (crc : ImageCrc),
    ((validate (.image format records crc)).isSome = true ↔
      format = 1 ∧ (∀ w, crc = .word w → w = crc32 (Config.imageBytes format records)) ∧ records.Valid) ∧
    ∀ g, validate (.image format records crc) = some g → g.records = records ∧ g.consistent = true) ∧
  (∀ (s : State) (tag : Byte), s.ready →
    (s.pool.compaction ≠ .idle ∨ s.longOperation.isSome = true →
      exec (.load ⟨tag, some ()⟩) s = .next (s.released.answered tag .busy [])) ∧
    (s.pool.compaction = .idle → s.longOperation = none →
      (s.locked = true → exec (.load ⟨tag, some ()⟩) s = .next (s.released.answered tag .locked [])) ∧
      (s.locked = false → exec (.load ⟨tag, some ()⟩) s = .next
        { s with image := .loading .reading, port := s.portAnswered tag .started [] }))) ∧
  (∀ (s : State), s.image = .loading .reading →
    let ended : State :=
      { s with image := .idle, notices := (s.notices.raise .imageInvalid).raise (.loadDone .invalid) }
    exec (.loadReadComplete .noAnswer) s = .next ended ∧
    (validate s.flash = none → exec (.loadReadComplete .held) s = .next ended) ∧
    ∀ g, validate s.flash = some g → s.locked = true →
      exec (.loadReadComplete .held) s = .next { s with image := .loading (.held g) }) ∧
  (∀ (s : State) (flash : FlashContents), s.image = .loading .reading →
    exec (.loadReadComplete (.exchanged flash)) s = exec (.loadReadComplete .held) { s with flash := flash }) ∧
  (∀ (s : State) (g : Image), s.image = .loading (.held g) → s.locked = true →
    exec .heldLoadReplacement s = .next s) ∧
  (∀ (s : State) (g : Image), s.image = .loading (.held g) → s.locked = false →
    ∃ t, exec .heldLoadReplacement s = .next t ∧ t.image = .idle ∧ t.notices.loadDone.isSome = true ∧
      t.policy = g.policy ∧ t.crossStand = g.crossStand ∧ t.noticeMask = g.noticeMask ∧
      (∀ f, (t.feed f).resolution = .queued) ∧ t.resolver.queue = allFeeds ∧
      t.render = s.render ∧ t.override = s.override ∧ t.holds = s.holds ∧ t.watches = s.watches ∧ t.port = s.port ∧
      t.flash = s.flash ∧ t.pins = s.pins ∧ t.pending = s.pending) ∧
  ∀ (s : State) (n : Nat), s.image = .waiting n →
    exec .startupWaitExpiry s = .next { s with image := .loading .reading }

/-- The replacement of the tables by a valid image, once the override is CLEAR, at the end of the reading or of the
wait for the override: saved fields, counts rebuilt, RETIRING profiles without references freed, records side by side
from offset 0 in handle order, dependencies rebuilt, sectors and channels as R116 gives, every feed queued in feed
order, and the notices DEPENDENCY-OVERFLOW, where a follower is left unrecorded, and LOAD-DONE; the rest of the block
stays. How a channel's schedule and the second of since change are counted is the model's choice (log 28, 29). -/
def Obligations.TablesReplaced : Prop :=
  ∀ (s : State) (g : Image) (c : Instr), s.locked = false → g.consistent = true →
    (c = .loadReadComplete .held ∧ s.image = .loading .reading ∧ validate s.flash = some g) ∨
      (c = .heldLoadReplacement ∧ s.image = .loading (.held g)) →
    let count := fun (ps : List SavedProfile) (h : HandleIx) =>
      (allFeeds.filter fun f => (g.feeds.get f).binding.map Handle.ix = some h).length +
      (allFeeds.filter fun f => (g.feeds.get f).overrideBinding.map Handle.ix = some h).length +
      (ps.filter fun p => p.record.base.map Handle.ix = some h).length
    let round := fun ps : List SavedProfile => ps.filter fun p => p.retiring = false ∨ 0 < count ps p.handle.ix
    let kept := round (round g.profiles)
    let words := fun p : SavedProfile => 4 + 2 * p.record.sections.length
    let used := (kept.map words).sum
    ∃ t, exec c s = .next t ∧
      (∀ f, let v := g.feeds.get f
        t.feed f =
          { label := v.label, tier := v.tier, sector := v.sector, bus := v.bus, binding := v.binding
            overrideBinding := v.overrideBinding, overrideAction := v.overrideAction, lead := v.lead
            excessPath := v.excessPath, geomDelay := none, revision := (s.feed f).revision + 1
            resolution := .queued, faultReason := none }) ∧
      t.resolver = ⟨allFeeds, s.resolver.inFlight⟩ ∧
      (∀ p ∈ kept, t.handle p.handle.ix =
        { state := if p.retiring then .retiring else .live
          gen := p.handle.gen
          extent := some ⟨((kept.filter fun q => q.handle.ix < p.handle.ix).map words).sum, words p⟩
          refCount := count kept p.handle.ix
          inMove := false
          record := some p.record }) ∧
      (∀ p ∈ g.profiles, p ∉ kept → t.handle p.handle.ix = ⟨.free, p.handle.gen + 1, none, 0, false, none⟩) ∧
      (∀ h, (∀ p ∈ g.profiles, p.handle.ix ≠ h) → t.handle h =
        if (s.handle h).state = .free then s.handle h else ⟨.free, (s.handle h).gen + 1, none, 0, false, none⟩) ∧
      t.pool = ⟨if used = 4096 then [] else [⟨used, 4096 - used⟩], .idle, none⟩ ∧
      t.deps = t.rebuiltDependencies ∧
      (∀ f n, t.deps.entries.get f = some n ↔ (f, n) ∈ t.crossSectorFollowers.take 48) ∧
      (∀ n, t.deps.overflow.get n = true ↔ ∃ f, (f, n) ∈ t.crossSectorFollowers.drop 48) ∧
      (∀ n, let e := s.sector n
        let new := g.sectors.get n
        (new.mode = .fixed → t.sector n =
          if speedAt new.fixedTemp = e.speed then
            { e with config := new, status := .fixed, sensedTemp := none, awaitingFix := false, deferred := false }
          else
            { e with config := new, status := .fixed, sensedTemp := none, awaitingFix := false, deferred := false
                     speed := speedAt new.fixedTemp, epoch := e.epoch + 1, sinceChange := some 0, blocks := 0 }) ∧
        (new.mode = .sensed → t.sector n =
          { e with config := new, status := .degraded, sensedTemp := none, awaitingFix := true, deferred := false })) ∧
      (∀ k, let new := g.channels.get k
        t.channel k =
          { config := new
            state := if new.enabled then .warming else .off
            window := []
            average := none
            lastCode := none
            reading := (s.channel k).reading.map fun x => { x with void := true }
            toNext := if new.enabled then new.interval * 1500 else 0 }) ∧
      t.policy = g.policy ∧ t.crossStand = g.crossStand ∧ t.noticeMask = g.noticeMask ∧
      t.notices = Notices.raise (match t.crossSectorFollowers[48]? with
        | some (_, n) => s.notices.raise (.dependencyOverflow n)
        | none => s.notices) (.loadDone .loaded) ∧
      t = { s with
        feeds := t.feeds, handles := t.handles, pool := t.pool, resolver := t.resolver, sectors := t.sectors
        channels := t.channels, policy := g.policy, crossStand := g.crossStand, noticeMask := g.noticeMask
        deps := t.deps, notices := t.notices, image := .idle }

/-! ### Frames -/

/-- The bytes of a well-formed request's frame decode to that request: no bit of an encoding is dropped. -/
def Obligations.FrameRoundTrip : Prop :=
  ∀ (c : Instr) (bytes : List Byte), c.wellFormed = true → encodeFrame c = some bytes → decodeFrame bytes = c

/-! ### What every step keeps -/

/-- The state right after reset has every property that a step keeps. -/
def Obligations.ResetIsSound : Prop :=
  PoolSound State.reset ∧ ReferencesSound State.reset ∧ PortSound State.reset ∧ RenderSound State.reset ∧
  ClimateSound State.reset ∧ QueueSound State.reset ∧ DependenciesSound State.reset ∧ OverrideSound State.reset ∧
  FaultsSound State.reset ∧ DependenciesMatch State.reset ∧ ChainsSound State.reset

/-- R50, R51: the extents of the handles and the free list part the pool among them, whatever command is taken. -/
def Obligations.PoolStaysSound : Prop :=
  ∀ s t : State, PoolSound s → step s = .next t → PoolSound t

/-- R6, R28, R33: every stored reference names a profile that exists, and the counts count the references. -/
def Obligations.ReferencesStaySound : Prop :=
  ∀ s t : State, ReferencesSound s → step s = .next t → ReferencesSound t

/-- R149: a reply, a request in progress and a judged transaction stand one at a time. -/
def Obligations.PortStaysSound : Prop :=
  ∀ s t : State, PortSound s → step s = .next t → PortSound t

/-- R117: PENDING never stands beside a silence order, and standby in play only beside the source STANDBY. -/
def Obligations.RenderStaysSound : Prop :=
  ∀ s t : State, RenderSound s → step s = .next t → RenderSound t

/-- R100, R107: windows and averages of the channels, and the speeds of the sectors. -/
def Obligations.ClimateStaysSound : Prop :=
  ∀ s t : State, ClimateSound s → step s = .next t → ClimateSound t

/-- R83, R75, R133, R7, R11: the queue holds no feed twice, at most 48 dependency entries stand, the override is
ENGAGED while a source is active, a fault reason stands in FAULTED alone, every cross-sector follower has its entry or
its lead's sector the mark, and no chain of leads has more than four links. Each is kept by itself. -/
def Obligations.RecordsStaySound : Prop :=
  ∀ s t : State, step s = .next t →
    (QueueSound s → QueueSound t) ∧ (DependenciesSound s → DependenciesSound t) ∧
    (OverrideSound s → OverrideSound t) ∧ (FaultsSound s → FaultsSound t) ∧
    (DependenciesMatch s → DependenciesMatch t) ∧ (ChainsSound s → ChainsSound t)
end

