-- ==== Sys2Proof/Laws/Table.lean ====
section
/-! SUPPORT. Reading a table after a change of one record, and reading the tables that a function or one value fills. -/

namespace Sys2Proof.Table

variable {α : Type} {n : Nat}

theorem get_upd (t : Table α n) (i j : Fin n) (x : α) : (t.upd i x).get j = if j = i then x else t.get j := by
  simp only [get, upd, List.getElem_set, Fin.ext_iff]
  by_cases h : i.val = j.val
  · simp [h]
  · simp [h, Ne.symm h]

@[simp] theorem get_upd_same (t : Table α n) (i : Fin n) (x : α) : (t.upd i x).get i = x := by
  simp [get_upd]

theorem get_upd_other (t : Table α n) {i j : Fin n} (x : α) (h : j ≠ i) : (t.upd i x).get j = t.get j := by
  simp [get_upd, h]

@[simp] theorem get_fill (x : α) (i : Fin n) : (fill n x).get i = x := by
  simp [get, fill]

@[simp] theorem get_tab (f : Fin n → α) (i : Fin n) : (tab f).get i = f i := by
  simp [get, tab]

/-- Two tables with the same records are the same table. -/
theorem ext_get {t u : Table α n} (h : ∀ i, t.get i = u.get i) : t = u := by
  obtain ⟨xs, hx⟩ := t
  obtain ⟨ys, hy⟩ := u
  have : xs = ys := by
    apply List.ext_getElem (by rw [hx, hy])
    intro k hk _
    exact h ⟨k, by rw [← hx]; exact hk⟩
  subst this
  rfl

@[simp] theorem upd_get (t : Table α n) (i : Fin n) : t.upd i (t.get i) = t := by
  apply ext_get
  intro j
  rw [get_upd]
  split
  · next h => rw [h]
  · rfl

end Sys2Proof.Table
end

