-- ==== Sys2Proof/Laws/State.lean ====
section
/-! SUPPORT. One lemma for each field of the state under each named update, and the reads of one record after an update
of one record. -/

namespace Sys2Proof.Machine.State

variable (s : State)

/-! ### setFeed -/

@[simp] theorem setFeed_feeds (f : FeedNo) (e : FeedEntry) : (s.setFeed f e).feeds = s.feeds.upd f e := rfl
@[simp] theorem setFeed_handles (f : FeedNo) (e : FeedEntry) : (s.setFeed f e).handles = s.handles := rfl
@[simp] theorem setFeed_pool (f : FeedNo) (e : FeedEntry) : (s.setFeed f e).pool = s.pool := rfl
@[simp] theorem setFeed_policy (f : FeedNo) (e : FeedEntry) : (s.setFeed f e).policy = s.policy := rfl
@[simp] theorem setFeed_crossStand (f : FeedNo) (e : FeedEntry) : (s.setFeed f e).crossStand = s.crossStand := rfl
@[simp] theorem setFeed_deps (f : FeedNo) (e : FeedEntry) : (s.setFeed f e).deps = s.deps := rfl
@[simp] theorem setFeed_resolver (f : FeedNo) (e : FeedEntry) : (s.setFeed f e).resolver = s.resolver := rfl
@[simp] theorem setFeed_channels (f : FeedNo) (e : FeedEntry) : (s.setFeed f e).channels = s.channels := rfl
@[simp] theorem setFeed_sectors (f : FeedNo) (e : FeedEntry) : (s.setFeed f e).sectors = s.sectors := rfl
@[simp] theorem setFeed_render (f : FeedNo) (e : FeedEntry) : (s.setFeed f e).render = s.render := rfl
@[simp] theorem setFeed_holds (f : FeedNo) (e : FeedEntry) : (s.setFeed f e).holds = s.holds := rfl
@[simp] theorem setFeed_override (f : FeedNo) (e : FeedEntry) : (s.setFeed f e).override = s.override := rfl
@[simp] theorem setFeed_watches (f : FeedNo) (e : FeedEntry) : (s.setFeed f e).watches = s.watches := rfl
@[simp] theorem setFeed_port (f : FeedNo) (e : FeedEntry) : (s.setFeed f e).port = s.port := rfl
@[simp] theorem setFeed_notices (f : FeedNo) (e : FeedEntry) : (s.setFeed f e).notices = s.notices := rfl
@[simp] theorem setFeed_noticeMask (f : FeedNo) (e : FeedEntry) : (s.setFeed f e).noticeMask = s.noticeMask := rfl
@[simp] theorem setFeed_image (f : FeedNo) (e : FeedEntry) : (s.setFeed f e).image = s.image := rfl
@[simp] theorem setFeed_flash (f : FeedNo) (e : FeedEntry) : (s.setFeed f e).flash = s.flash := rfl
@[simp] theorem setFeed_pins (f : FeedNo) (e : FeedEntry) : (s.setFeed f e).pins = s.pins := rfl
@[simp] theorem setFeed_pending (f : FeedNo) (e : FeedEntry) : (s.setFeed f e).pending = s.pending := rfl

/-! ### setHandle -/

@[simp] theorem setHandle_feeds (h : HandleIx) (e : HandleEntry) : (s.setHandle h e).feeds = s.feeds := rfl
@[simp] theorem setHandle_handles (h : HandleIx) (e : HandleEntry) : (s.setHandle h e).handles = s.handles.upd h e := rfl
@[simp] theorem setHandle_pool (h : HandleIx) (e : HandleEntry) : (s.setHandle h e).pool = s.pool := rfl
@[simp] theorem setHandle_policy (h : HandleIx) (e : HandleEntry) : (s.setHandle h e).policy = s.policy := rfl
@[simp] theorem setHandle_crossStand (h : HandleIx) (e : HandleEntry) : (s.setHandle h e).crossStand = s.crossStand := rfl
@[simp] theorem setHandle_deps (h : HandleIx) (e : HandleEntry) : (s.setHandle h e).deps = s.deps := rfl
@[simp] theorem setHandle_resolver (h : HandleIx) (e : HandleEntry) : (s.setHandle h e).resolver = s.resolver := rfl
@[simp] theorem setHandle_channels (h : HandleIx) (e : HandleEntry) : (s.setHandle h e).channels = s.channels := rfl
@[simp] theorem setHandle_sectors (h : HandleIx) (e : HandleEntry) : (s.setHandle h e).sectors = s.sectors := rfl
@[simp] theorem setHandle_render (h : HandleIx) (e : HandleEntry) : (s.setHandle h e).render = s.render := rfl
@[simp] theorem setHandle_holds (h : HandleIx) (e : HandleEntry) : (s.setHandle h e).holds = s.holds := rfl
@[simp] theorem setHandle_override (h : HandleIx) (e : HandleEntry) : (s.setHandle h e).override = s.override := rfl
@[simp] theorem setHandle_watches (h : HandleIx) (e : HandleEntry) : (s.setHandle h e).watches = s.watches := rfl
@[simp] theorem setHandle_port (h : HandleIx) (e : HandleEntry) : (s.setHandle h e).port = s.port := rfl
@[simp] theorem setHandle_notices (h : HandleIx) (e : HandleEntry) : (s.setHandle h e).notices = s.notices := rfl
@[simp] theorem setHandle_noticeMask (h : HandleIx) (e : HandleEntry) : (s.setHandle h e).noticeMask = s.noticeMask := rfl
@[simp] theorem setHandle_image (h : HandleIx) (e : HandleEntry) : (s.setHandle h e).image = s.image := rfl
@[simp] theorem setHandle_flash (h : HandleIx) (e : HandleEntry) : (s.setHandle h e).flash = s.flash := rfl
@[simp] theorem setHandle_pins (h : HandleIx) (e : HandleEntry) : (s.setHandle h e).pins = s.pins := rfl
@[simp] theorem setHandle_pending (h : HandleIx) (e : HandleEntry) : (s.setHandle h e).pending = s.pending := rfl

/-! ### setSector -/

@[simp] theorem setSector_feeds (n : SectorNo) (e : Sector) : (s.setSector n e).feeds = s.feeds := rfl
@[simp] theorem setSector_handles (n : SectorNo) (e : Sector) : (s.setSector n e).handles = s.handles := rfl
@[simp] theorem setSector_pool (n : SectorNo) (e : Sector) : (s.setSector n e).pool = s.pool := rfl
@[simp] theorem setSector_policy (n : SectorNo) (e : Sector) : (s.setSector n e).policy = s.policy := rfl
@[simp] theorem setSector_crossStand (n : SectorNo) (e : Sector) : (s.setSector n e).crossStand = s.crossStand := rfl
@[simp] theorem setSector_deps (n : SectorNo) (e : Sector) : (s.setSector n e).deps = s.deps := rfl
@[simp] theorem setSector_resolver (n : SectorNo) (e : Sector) : (s.setSector n e).resolver = s.resolver := rfl
@[simp] theorem setSector_channels (n : SectorNo) (e : Sector) : (s.setSector n e).channels = s.channels := rfl
@[simp] theorem setSector_sectors (n : SectorNo) (e : Sector) : (s.setSector n e).sectors = s.sectors.upd n e := rfl
@[simp] theorem setSector_render (n : SectorNo) (e : Sector) : (s.setSector n e).render = s.render := rfl
@[simp] theorem setSector_holds (n : SectorNo) (e : Sector) : (s.setSector n e).holds = s.holds := rfl
@[simp] theorem setSector_override (n : SectorNo) (e : Sector) : (s.setSector n e).override = s.override := rfl
@[simp] theorem setSector_watches (n : SectorNo) (e : Sector) : (s.setSector n e).watches = s.watches := rfl
@[simp] theorem setSector_port (n : SectorNo) (e : Sector) : (s.setSector n e).port = s.port := rfl
@[simp] theorem setSector_notices (n : SectorNo) (e : Sector) : (s.setSector n e).notices = s.notices := rfl
@[simp] theorem setSector_noticeMask (n : SectorNo) (e : Sector) : (s.setSector n e).noticeMask = s.noticeMask := rfl
@[simp] theorem setSector_image (n : SectorNo) (e : Sector) : (s.setSector n e).image = s.image := rfl
@[simp] theorem setSector_flash (n : SectorNo) (e : Sector) : (s.setSector n e).flash = s.flash := rfl
@[simp] theorem setSector_pins (n : SectorNo) (e : Sector) : (s.setSector n e).pins = s.pins := rfl
@[simp] theorem setSector_pending (n : SectorNo) (e : Sector) : (s.setSector n e).pending = s.pending := rfl

/-! ### setChannel -/

@[simp] theorem setChannel_feeds (k : ChannelNo) (c : Channel) : (s.setChannel k c).feeds = s.feeds := rfl
@[simp] theorem setChannel_handles (k : ChannelNo) (c : Channel) : (s.setChannel k c).handles = s.handles := rfl
@[simp] theorem setChannel_pool (k : ChannelNo) (c : Channel) : (s.setChannel k c).pool = s.pool := rfl
@[simp] theorem setChannel_policy (k : ChannelNo) (c : Channel) : (s.setChannel k c).policy = s.policy := rfl
@[simp] theorem setChannel_crossStand (k : ChannelNo) (c : Channel) : (s.setChannel k c).crossStand = s.crossStand := rfl
@[simp] theorem setChannel_deps (k : ChannelNo) (c : Channel) : (s.setChannel k c).deps = s.deps := rfl
@[simp] theorem setChannel_resolver (k : ChannelNo) (c : Channel) : (s.setChannel k c).resolver = s.resolver := rfl
@[simp] theorem setChannel_channels (k : ChannelNo) (c : Channel) : (s.setChannel k c).channels = s.channels.upd k c := rfl
@[simp] theorem setChannel_sectors (k : ChannelNo) (c : Channel) : (s.setChannel k c).sectors = s.sectors := rfl
@[simp] theorem setChannel_render (k : ChannelNo) (c : Channel) : (s.setChannel k c).render = s.render := rfl
@[simp] theorem setChannel_holds (k : ChannelNo) (c : Channel) : (s.setChannel k c).holds = s.holds := rfl
@[simp] theorem setChannel_override (k : ChannelNo) (c : Channel) : (s.setChannel k c).override = s.override := rfl
@[simp] theorem setChannel_watches (k : ChannelNo) (c : Channel) : (s.setChannel k c).watches = s.watches := rfl
@[simp] theorem setChannel_port (k : ChannelNo) (c : Channel) : (s.setChannel k c).port = s.port := rfl
@[simp] theorem setChannel_notices (k : ChannelNo) (c : Channel) : (s.setChannel k c).notices = s.notices := rfl
@[simp] theorem setChannel_noticeMask (k : ChannelNo) (c : Channel) : (s.setChannel k c).noticeMask = s.noticeMask := rfl
@[simp] theorem setChannel_image (k : ChannelNo) (c : Channel) : (s.setChannel k c).image = s.image := rfl
@[simp] theorem setChannel_flash (k : ChannelNo) (c : Channel) : (s.setChannel k c).flash = s.flash := rfl
@[simp] theorem setChannel_pins (k : ChannelNo) (c : Channel) : (s.setChannel k c).pins = s.pins := rfl
@[simp] theorem setChannel_pending (k : ChannelNo) (c : Channel) : (s.setChannel k c).pending = s.pending := rfl

/-! ### setRender -/

@[simp] theorem setRender_feeds (f : FeedNo) (r : FeedRender) : (s.setRender f r).feeds = s.feeds := rfl
@[simp] theorem setRender_handles (f : FeedNo) (r : FeedRender) : (s.setRender f r).handles = s.handles := rfl
@[simp] theorem setRender_pool (f : FeedNo) (r : FeedRender) : (s.setRender f r).pool = s.pool := rfl
@[simp] theorem setRender_policy (f : FeedNo) (r : FeedRender) : (s.setRender f r).policy = s.policy := rfl
@[simp] theorem setRender_crossStand (f : FeedNo) (r : FeedRender) : (s.setRender f r).crossStand = s.crossStand := rfl
@[simp] theorem setRender_deps (f : FeedNo) (r : FeedRender) : (s.setRender f r).deps = s.deps := rfl
@[simp] theorem setRender_resolver (f : FeedNo) (r : FeedRender) : (s.setRender f r).resolver = s.resolver := rfl
@[simp] theorem setRender_channels (f : FeedNo) (r : FeedRender) : (s.setRender f r).channels = s.channels := rfl
@[simp] theorem setRender_sectors (f : FeedNo) (r : FeedRender) : (s.setRender f r).sectors = s.sectors := rfl
@[simp] theorem setRender_render (f : FeedNo) (r : FeedRender) : (s.setRender f r).render = s.render.upd f r := rfl
@[simp] theorem setRender_holds (f : FeedNo) (r : FeedRender) : (s.setRender f r).holds = s.holds := rfl
@[simp] theorem setRender_override (f : FeedNo) (r : FeedRender) : (s.setRender f r).override = s.override := rfl
@[simp] theorem setRender_watches (f : FeedNo) (r : FeedRender) : (s.setRender f r).watches = s.watches := rfl
@[simp] theorem setRender_port (f : FeedNo) (r : FeedRender) : (s.setRender f r).port = s.port := rfl
@[simp] theorem setRender_notices (f : FeedNo) (r : FeedRender) : (s.setRender f r).notices = s.notices := rfl
@[simp] theorem setRender_noticeMask (f : FeedNo) (r : FeedRender) : (s.setRender f r).noticeMask = s.noticeMask := rfl
@[simp] theorem setRender_image (f : FeedNo) (r : FeedRender) : (s.setRender f r).image = s.image := rfl
@[simp] theorem setRender_flash (f : FeedNo) (r : FeedRender) : (s.setRender f r).flash = s.flash := rfl
@[simp] theorem setRender_pins (f : FeedNo) (r : FeedRender) : (s.setRender f r).pins = s.pins := rfl
@[simp] theorem setRender_pending (f : FeedNo) (r : FeedRender) : (s.setRender f r).pending = s.pending := rfl

/-! ### setWatch -/

@[simp] theorem setWatch_feeds (i : WatchNo) (w : Watch) : (s.setWatch i w).feeds = s.feeds := rfl
@[simp] theorem setWatch_handles (i : WatchNo) (w : Watch) : (s.setWatch i w).handles = s.handles := rfl
@[simp] theorem setWatch_pool (i : WatchNo) (w : Watch) : (s.setWatch i w).pool = s.pool := rfl
@[simp] theorem setWatch_policy (i : WatchNo) (w : Watch) : (s.setWatch i w).policy = s.policy := rfl
@[simp] theorem setWatch_crossStand (i : WatchNo) (w : Watch) : (s.setWatch i w).crossStand = s.crossStand := rfl
@[simp] theorem setWatch_deps (i : WatchNo) (w : Watch) : (s.setWatch i w).deps = s.deps := rfl
@[simp] theorem setWatch_resolver (i : WatchNo) (w : Watch) : (s.setWatch i w).resolver = s.resolver := rfl
@[simp] theorem setWatch_channels (i : WatchNo) (w : Watch) : (s.setWatch i w).channels = s.channels := rfl
@[simp] theorem setWatch_sectors (i : WatchNo) (w : Watch) : (s.setWatch i w).sectors = s.sectors := rfl
@[simp] theorem setWatch_render (i : WatchNo) (w : Watch) : (s.setWatch i w).render = s.render := rfl
@[simp] theorem setWatch_holds (i : WatchNo) (w : Watch) : (s.setWatch i w).holds = s.holds := rfl
@[simp] theorem setWatch_override (i : WatchNo) (w : Watch) : (s.setWatch i w).override = s.override := rfl
@[simp] theorem setWatch_watches (i : WatchNo) (w : Watch) : (s.setWatch i w).watches = s.watches.upd i w := rfl
@[simp] theorem setWatch_port (i : WatchNo) (w : Watch) : (s.setWatch i w).port = s.port := rfl
@[simp] theorem setWatch_notices (i : WatchNo) (w : Watch) : (s.setWatch i w).notices = s.notices := rfl
@[simp] theorem setWatch_noticeMask (i : WatchNo) (w : Watch) : (s.setWatch i w).noticeMask = s.noticeMask := rfl
@[simp] theorem setWatch_image (i : WatchNo) (w : Watch) : (s.setWatch i w).image = s.image := rfl
@[simp] theorem setWatch_flash (i : WatchNo) (w : Watch) : (s.setWatch i w).flash = s.flash := rfl
@[simp] theorem setWatch_pins (i : WatchNo) (w : Watch) : (s.setWatch i w).pins = s.pins := rfl
@[simp] theorem setWatch_pending (i : WatchNo) (w : Watch) : (s.setWatch i w).pending = s.pending := rfl

/-! ### setCursor -/

@[simp] theorem setCursor_feeds (r : RecordName) : (s.setCursor r).feeds = s.feeds := rfl
@[simp] theorem setCursor_handles (r : RecordName) : (s.setCursor r).handles = s.handles := rfl
@[simp] theorem setCursor_pool (r : RecordName) : (s.setCursor r).pool = s.pool := rfl
@[simp] theorem setCursor_policy (r : RecordName) : (s.setCursor r).policy = s.policy := rfl
@[simp] theorem setCursor_crossStand (r : RecordName) : (s.setCursor r).crossStand = s.crossStand := rfl
@[simp] theorem setCursor_deps (r : RecordName) : (s.setCursor r).deps = s.deps := rfl
@[simp] theorem setCursor_resolver (r : RecordName) : (s.setCursor r).resolver = s.resolver := rfl
@[simp] theorem setCursor_channels (r : RecordName) : (s.setCursor r).channels = s.channels := rfl
@[simp] theorem setCursor_sectors (r : RecordName) : (s.setCursor r).sectors = s.sectors := rfl
@[simp] theorem setCursor_render (r : RecordName) : (s.setCursor r).render = s.render := rfl
@[simp] theorem setCursor_holds (r : RecordName) : (s.setCursor r).holds = s.holds := rfl
@[simp] theorem setCursor_override (r : RecordName) : (s.setCursor r).override = s.override := rfl
@[simp] theorem setCursor_watches (r : RecordName) : (s.setCursor r).watches = s.watches := rfl
@[simp] theorem setCursor_port (r : RecordName) : (s.setCursor r).port = { s.port with cursor := r } := rfl
@[simp] theorem setCursor_notices (r : RecordName) : (s.setCursor r).notices = s.notices := rfl
@[simp] theorem setCursor_noticeMask (r : RecordName) : (s.setCursor r).noticeMask = s.noticeMask := rfl
@[simp] theorem setCursor_image (r : RecordName) : (s.setCursor r).image = s.image := rfl
@[simp] theorem setCursor_flash (r : RecordName) : (s.setCursor r).flash = s.flash := rfl
@[simp] theorem setCursor_pins (r : RecordName) : (s.setCursor r).pins = s.pins := rfl
@[simp] theorem setCursor_pending (r : RecordName) : (s.setCursor r).pending = s.pending := rfl

/-! ### setInProgress -/

@[simp] theorem setInProgress_feeds (tag : Byte) (w : Work) : (s.setInProgress tag w).feeds = s.feeds := rfl
@[simp] theorem setInProgress_handles (tag : Byte) (w : Work) : (s.setInProgress tag w).handles = s.handles := rfl
@[simp] theorem setInProgress_pool (tag : Byte) (w : Work) : (s.setInProgress tag w).pool = s.pool := rfl
@[simp] theorem setInProgress_policy (tag : Byte) (w : Work) : (s.setInProgress tag w).policy = s.policy := rfl
@[simp] theorem setInProgress_crossStand (tag : Byte) (w : Work) : (s.setInProgress tag w).crossStand = s.crossStand := rfl
@[simp] theorem setInProgress_deps (tag : Byte) (w : Work) : (s.setInProgress tag w).deps = s.deps := rfl
@[simp] theorem setInProgress_resolver (tag : Byte) (w : Work) : (s.setInProgress tag w).resolver = s.resolver := rfl
@[simp] theorem setInProgress_channels (tag : Byte) (w : Work) : (s.setInProgress tag w).channels = s.channels := rfl
@[simp] theorem setInProgress_sectors (tag : Byte) (w : Work) : (s.setInProgress tag w).sectors = s.sectors := rfl
@[simp] theorem setInProgress_render (tag : Byte) (w : Work) : (s.setInProgress tag w).render = s.render := rfl
@[simp] theorem setInProgress_holds (tag : Byte) (w : Work) : (s.setInProgress tag w).holds = s.holds := rfl
@[simp] theorem setInProgress_override (tag : Byte) (w : Work) : (s.setInProgress tag w).override = s.override := rfl
@[simp] theorem setInProgress_watches (tag : Byte) (w : Work) : (s.setInProgress tag w).watches = s.watches := rfl
@[simp] theorem setInProgress_port (tag : Byte) (w : Work) : (s.setInProgress tag w).port = { s.port with inProgress := some ⟨tag, w⟩ } := rfl
@[simp] theorem setInProgress_notices (tag : Byte) (w : Work) : (s.setInProgress tag w).notices = s.notices := rfl
@[simp] theorem setInProgress_noticeMask (tag : Byte) (w : Work) : (s.setInProgress tag w).noticeMask = s.noticeMask := rfl
@[simp] theorem setInProgress_image (tag : Byte) (w : Work) : (s.setInProgress tag w).image = s.image := rfl
@[simp] theorem setInProgress_flash (tag : Byte) (w : Work) : (s.setInProgress tag w).flash = s.flash := rfl
@[simp] theorem setInProgress_pins (tag : Byte) (w : Work) : (s.setInProgress tag w).pins = s.pins := rfl
@[simp] theorem setInProgress_pending (tag : Byte) (w : Work) : (s.setInProgress tag w).pending = s.pending := rfl

/-! ### raise -/

@[simp] theorem raise_feeds (o : Notice) : (s.raise o).feeds = s.feeds := rfl
@[simp] theorem raise_handles (o : Notice) : (s.raise o).handles = s.handles := rfl
@[simp] theorem raise_pool (o : Notice) : (s.raise o).pool = s.pool := rfl
@[simp] theorem raise_policy (o : Notice) : (s.raise o).policy = s.policy := rfl
@[simp] theorem raise_crossStand (o : Notice) : (s.raise o).crossStand = s.crossStand := rfl
@[simp] theorem raise_deps (o : Notice) : (s.raise o).deps = s.deps := rfl
@[simp] theorem raise_resolver (o : Notice) : (s.raise o).resolver = s.resolver := rfl
@[simp] theorem raise_channels (o : Notice) : (s.raise o).channels = s.channels := rfl
@[simp] theorem raise_sectors (o : Notice) : (s.raise o).sectors = s.sectors := rfl
@[simp] theorem raise_render (o : Notice) : (s.raise o).render = s.render := rfl
@[simp] theorem raise_holds (o : Notice) : (s.raise o).holds = s.holds := rfl
@[simp] theorem raise_override (o : Notice) : (s.raise o).override = s.override := rfl
@[simp] theorem raise_watches (o : Notice) : (s.raise o).watches = s.watches := rfl
@[simp] theorem raise_port (o : Notice) : (s.raise o).port = s.port := rfl
@[simp] theorem raise_notices (o : Notice) : (s.raise o).notices = s.notices.raise o := rfl
@[simp] theorem raise_noticeMask (o : Notice) : (s.raise o).noticeMask = s.noticeMask := rfl
@[simp] theorem raise_image (o : Notice) : (s.raise o).image = s.image := rfl
@[simp] theorem raise_flash (o : Notice) : (s.raise o).flash = s.flash := rfl
@[simp] theorem raise_pins (o : Notice) : (s.raise o).pins = s.pins := rfl
@[simp] theorem raise_pending (o : Notice) : (s.raise o).pending = s.pending := rfl

/-! ### queueFeed -/

@[simp] theorem queueFeed_handles (f : FeedNo) : (s.queueFeed f).handles = s.handles := rfl
@[simp] theorem queueFeed_pool (f : FeedNo) : (s.queueFeed f).pool = s.pool := rfl
@[simp] theorem queueFeed_policy (f : FeedNo) : (s.queueFeed f).policy = s.policy := rfl
@[simp] theorem queueFeed_crossStand (f : FeedNo) : (s.queueFeed f).crossStand = s.crossStand := rfl
@[simp] theorem queueFeed_deps (f : FeedNo) : (s.queueFeed f).deps = s.deps := rfl
@[simp] theorem queueFeed_channels (f : FeedNo) : (s.queueFeed f).channels = s.channels := rfl
@[simp] theorem queueFeed_sectors (f : FeedNo) : (s.queueFeed f).sectors = s.sectors := rfl
@[simp] theorem queueFeed_render (f : FeedNo) : (s.queueFeed f).render = s.render := rfl
@[simp] theorem queueFeed_holds (f : FeedNo) : (s.queueFeed f).holds = s.holds := rfl
@[simp] theorem queueFeed_override (f : FeedNo) : (s.queueFeed f).override = s.override := rfl
@[simp] theorem queueFeed_watches (f : FeedNo) : (s.queueFeed f).watches = s.watches := rfl
@[simp] theorem queueFeed_port (f : FeedNo) : (s.queueFeed f).port = s.port := rfl
@[simp] theorem queueFeed_notices (f : FeedNo) : (s.queueFeed f).notices = s.notices := rfl
@[simp] theorem queueFeed_noticeMask (f : FeedNo) : (s.queueFeed f).noticeMask = s.noticeMask := rfl
@[simp] theorem queueFeed_image (f : FeedNo) : (s.queueFeed f).image = s.image := rfl
@[simp] theorem queueFeed_flash (f : FeedNo) : (s.queueFeed f).flash = s.flash := rfl
@[simp] theorem queueFeed_pins (f : FeedNo) : (s.queueFeed f).pins = s.pins := rfl
@[simp] theorem queueFeed_pending (f : FeedNo) : (s.queueFeed f).pending = s.pending := rfl

/-! ### raiseCount -/

@[simp] theorem raiseCount_feeds (h : HandleIx) : (s.raiseCount h).feeds = s.feeds := rfl
@[simp] theorem raiseCount_pool (h : HandleIx) : (s.raiseCount h).pool = s.pool := rfl
@[simp] theorem raiseCount_policy (h : HandleIx) : (s.raiseCount h).policy = s.policy := rfl
@[simp] theorem raiseCount_crossStand (h : HandleIx) : (s.raiseCount h).crossStand = s.crossStand := rfl
@[simp] theorem raiseCount_deps (h : HandleIx) : (s.raiseCount h).deps = s.deps := rfl
@[simp] theorem raiseCount_resolver (h : HandleIx) : (s.raiseCount h).resolver = s.resolver := rfl
@[simp] theorem raiseCount_channels (h : HandleIx) : (s.raiseCount h).channels = s.channels := rfl
@[simp] theorem raiseCount_sectors (h : HandleIx) : (s.raiseCount h).sectors = s.sectors := rfl
@[simp] theorem raiseCount_render (h : HandleIx) : (s.raiseCount h).render = s.render := rfl
@[simp] theorem raiseCount_holds (h : HandleIx) : (s.raiseCount h).holds = s.holds := rfl
@[simp] theorem raiseCount_override (h : HandleIx) : (s.raiseCount h).override = s.override := rfl
@[simp] theorem raiseCount_watches (h : HandleIx) : (s.raiseCount h).watches = s.watches := rfl
@[simp] theorem raiseCount_port (h : HandleIx) : (s.raiseCount h).port = s.port := rfl
@[simp] theorem raiseCount_notices (h : HandleIx) : (s.raiseCount h).notices = s.notices := rfl
@[simp] theorem raiseCount_noticeMask (h : HandleIx) : (s.raiseCount h).noticeMask = s.noticeMask := rfl
@[simp] theorem raiseCount_image (h : HandleIx) : (s.raiseCount h).image = s.image := rfl
@[simp] theorem raiseCount_flash (h : HandleIx) : (s.raiseCount h).flash = s.flash := rfl
@[simp] theorem raiseCount_pins (h : HandleIx) : (s.raiseCount h).pins = s.pins := rfl
@[simp] theorem raiseCount_pending (h : HandleIx) : (s.raiseCount h).pending = s.pending := rfl

/-! ### lowerCount -/

@[simp] theorem lowerCount_feeds (h : HandleIx) : (s.lowerCount h).feeds = s.feeds := rfl
@[simp] theorem lowerCount_pool (h : HandleIx) : (s.lowerCount h).pool = s.pool := rfl
@[simp] theorem lowerCount_policy (h : HandleIx) : (s.lowerCount h).policy = s.policy := rfl
@[simp] theorem lowerCount_crossStand (h : HandleIx) : (s.lowerCount h).crossStand = s.crossStand := rfl
@[simp] theorem lowerCount_deps (h : HandleIx) : (s.lowerCount h).deps = s.deps := rfl
@[simp] theorem lowerCount_resolver (h : HandleIx) : (s.lowerCount h).resolver = s.resolver := rfl
@[simp] theorem lowerCount_channels (h : HandleIx) : (s.lowerCount h).channels = s.channels := rfl
@[simp] theorem lowerCount_sectors (h : HandleIx) : (s.lowerCount h).sectors = s.sectors := rfl
@[simp] theorem lowerCount_render (h : HandleIx) : (s.lowerCount h).render = s.render := rfl
@[simp] theorem lowerCount_holds (h : HandleIx) : (s.lowerCount h).holds = s.holds := rfl
@[simp] theorem lowerCount_override (h : HandleIx) : (s.lowerCount h).override = s.override := rfl
@[simp] theorem lowerCount_watches (h : HandleIx) : (s.lowerCount h).watches = s.watches := rfl
@[simp] theorem lowerCount_port (h : HandleIx) : (s.lowerCount h).port = s.port := rfl
@[simp] theorem lowerCount_notices (h : HandleIx) : (s.lowerCount h).notices = s.notices := rfl
@[simp] theorem lowerCount_noticeMask (h : HandleIx) : (s.lowerCount h).noticeMask = s.noticeMask := rfl
@[simp] theorem lowerCount_image (h : HandleIx) : (s.lowerCount h).image = s.image := rfl
@[simp] theorem lowerCount_flash (h : HandleIx) : (s.lowerCount h).flash = s.flash := rfl
@[simp] theorem lowerCount_pins (h : HandleIx) : (s.lowerCount h).pins = s.pins := rfl
@[simp] theorem lowerCount_pending (h : HandleIx) : (s.lowerCount h).pending = s.pending := rfl

/-! ### freeOne -/

@[simp] theorem freeOne_feeds (h : HandleIx) : (s.freeOne h).feeds = s.feeds := rfl
@[simp] theorem freeOne_policy (h : HandleIx) : (s.freeOne h).policy = s.policy := rfl
@[simp] theorem freeOne_crossStand (h : HandleIx) : (s.freeOne h).crossStand = s.crossStand := rfl
@[simp] theorem freeOne_deps (h : HandleIx) : (s.freeOne h).deps = s.deps := rfl
@[simp] theorem freeOne_resolver (h : HandleIx) : (s.freeOne h).resolver = s.resolver := rfl
@[simp] theorem freeOne_channels (h : HandleIx) : (s.freeOne h).channels = s.channels := rfl
@[simp] theorem freeOne_sectors (h : HandleIx) : (s.freeOne h).sectors = s.sectors := rfl
@[simp] theorem freeOne_render (h : HandleIx) : (s.freeOne h).render = s.render := rfl
@[simp] theorem freeOne_holds (h : HandleIx) : (s.freeOne h).holds = s.holds := rfl
@[simp] theorem freeOne_override (h : HandleIx) : (s.freeOne h).override = s.override := rfl
@[simp] theorem freeOne_watches (h : HandleIx) : (s.freeOne h).watches = s.watches := rfl
@[simp] theorem freeOne_port (h : HandleIx) : (s.freeOne h).port = s.port := rfl
@[simp] theorem freeOne_notices (h : HandleIx) : (s.freeOne h).notices = s.notices := rfl
@[simp] theorem freeOne_noticeMask (h : HandleIx) : (s.freeOne h).noticeMask = s.noticeMask := rfl
@[simp] theorem freeOne_image (h : HandleIx) : (s.freeOne h).image = s.image := rfl
@[simp] theorem freeOne_flash (h : HandleIx) : (s.freeOne h).flash = s.flash := rfl
@[simp] theorem freeOne_pins (h : HandleIx) : (s.freeOne h).pins = s.pins := rfl
@[simp] theorem freeOne_pending (h : HandleIx) : (s.freeOne h).pending = s.pending := rfl

/-! ### settleMove -/

@[simp] theorem settleMove_feeds (m : MoveRecord) : (s.settleMove m).feeds = s.feeds := rfl
@[simp] theorem settleMove_policy (m : MoveRecord) : (s.settleMove m).policy = s.policy := rfl
@[simp] theorem settleMove_crossStand (m : MoveRecord) : (s.settleMove m).crossStand = s.crossStand := rfl
@[simp] theorem settleMove_deps (m : MoveRecord) : (s.settleMove m).deps = s.deps := rfl
@[simp] theorem settleMove_resolver (m : MoveRecord) : (s.settleMove m).resolver = s.resolver := rfl
@[simp] theorem settleMove_channels (m : MoveRecord) : (s.settleMove m).channels = s.channels := rfl
@[simp] theorem settleMove_sectors (m : MoveRecord) : (s.settleMove m).sectors = s.sectors := rfl
@[simp] theorem settleMove_render (m : MoveRecord) : (s.settleMove m).render = s.render := rfl
@[simp] theorem settleMove_holds (m : MoveRecord) : (s.settleMove m).holds = s.holds := rfl
@[simp] theorem settleMove_override (m : MoveRecord) : (s.settleMove m).override = s.override := rfl
@[simp] theorem settleMove_watches (m : MoveRecord) : (s.settleMove m).watches = s.watches := rfl
@[simp] theorem settleMove_port (m : MoveRecord) : (s.settleMove m).port = s.port := rfl
@[simp] theorem settleMove_notices (m : MoveRecord) : (s.settleMove m).notices = s.notices := rfl
@[simp] theorem settleMove_noticeMask (m : MoveRecord) : (s.settleMove m).noticeMask = s.noticeMask := rfl
@[simp] theorem settleMove_image (m : MoveRecord) : (s.settleMove m).image = s.image := rfl
@[simp] theorem settleMove_flash (m : MoveRecord) : (s.settleMove m).flash = s.flash := rfl
@[simp] theorem settleMove_pins (m : MoveRecord) : (s.settleMove m).pins = s.pins := rfl
@[simp] theorem settleMove_pending (m : MoveRecord) : (s.settleMove m).pending = s.pending := rfl

/-! ### beginMove -/

@[simp] theorem beginMove_feeds (x : Extent) (h : HandleIx) : (s.beginMove x h).feeds = s.feeds := rfl
@[simp] theorem beginMove_policy (x : Extent) (h : HandleIx) : (s.beginMove x h).policy = s.policy := rfl
@[simp] theorem beginMove_crossStand (x : Extent) (h : HandleIx) : (s.beginMove x h).crossStand = s.crossStand := rfl
@[simp] theorem beginMove_deps (x : Extent) (h : HandleIx) : (s.beginMove x h).deps = s.deps := rfl
@[simp] theorem beginMove_resolver (x : Extent) (h : HandleIx) : (s.beginMove x h).resolver = s.resolver := rfl
@[simp] theorem beginMove_channels (x : Extent) (h : HandleIx) : (s.beginMove x h).channels = s.channels := rfl
@[simp] theorem beginMove_sectors (x : Extent) (h : HandleIx) : (s.beginMove x h).sectors = s.sectors := rfl
@[simp] theorem beginMove_render (x : Extent) (h : HandleIx) : (s.beginMove x h).render = s.render := rfl
@[simp] theorem beginMove_holds (x : Extent) (h : HandleIx) : (s.beginMove x h).holds = s.holds := rfl
@[simp] theorem beginMove_override (x : Extent) (h : HandleIx) : (s.beginMove x h).override = s.override := rfl
@[simp] theorem beginMove_watches (x : Extent) (h : HandleIx) : (s.beginMove x h).watches = s.watches := rfl
@[simp] theorem beginMove_port (x : Extent) (h : HandleIx) : (s.beginMove x h).port = s.port := rfl
@[simp] theorem beginMove_notices (x : Extent) (h : HandleIx) : (s.beginMove x h).notices = s.notices := rfl
@[simp] theorem beginMove_noticeMask (x : Extent) (h : HandleIx) : (s.beginMove x h).noticeMask = s.noticeMask := rfl
@[simp] theorem beginMove_image (x : Extent) (h : HandleIx) : (s.beginMove x h).image = s.image := rfl
@[simp] theorem beginMove_flash (x : Extent) (h : HandleIx) : (s.beginMove x h).flash = s.flash := rfl
@[simp] theorem beginMove_pins (x : Extent) (h : HandleIx) : (s.beginMove x h).pins = s.pins := rfl
@[simp] theorem beginMove_pending (x : Extent) (h : HandleIx) : (s.beginMove x h).pending = s.pending := rfl

/-! ### setRecord -/

@[simp] theorem setRecord_feeds (h : HandleIx) (r : ProfileRecord) : (s.setRecord h r).feeds = s.feeds := rfl
@[simp] theorem setRecord_pool (h : HandleIx) (r : ProfileRecord) : (s.setRecord h r).pool = s.pool := rfl
@[simp] theorem setRecord_policy (h : HandleIx) (r : ProfileRecord) : (s.setRecord h r).policy = s.policy := rfl
@[simp] theorem setRecord_crossStand (h : HandleIx) (r : ProfileRecord) : (s.setRecord h r).crossStand = s.crossStand := rfl
@[simp] theorem setRecord_deps (h : HandleIx) (r : ProfileRecord) : (s.setRecord h r).deps = s.deps := rfl
@[simp] theorem setRecord_resolver (h : HandleIx) (r : ProfileRecord) : (s.setRecord h r).resolver = s.resolver := rfl
@[simp] theorem setRecord_channels (h : HandleIx) (r : ProfileRecord) : (s.setRecord h r).channels = s.channels := rfl
@[simp] theorem setRecord_sectors (h : HandleIx) (r : ProfileRecord) : (s.setRecord h r).sectors = s.sectors := rfl
@[simp] theorem setRecord_render (h : HandleIx) (r : ProfileRecord) : (s.setRecord h r).render = s.render := rfl
@[simp] theorem setRecord_holds (h : HandleIx) (r : ProfileRecord) : (s.setRecord h r).holds = s.holds := rfl
@[simp] theorem setRecord_override (h : HandleIx) (r : ProfileRecord) : (s.setRecord h r).override = s.override := rfl
@[simp] theorem setRecord_watches (h : HandleIx) (r : ProfileRecord) : (s.setRecord h r).watches = s.watches := rfl
@[simp] theorem setRecord_port (h : HandleIx) (r : ProfileRecord) : (s.setRecord h r).port = s.port := rfl
@[simp] theorem setRecord_notices (h : HandleIx) (r : ProfileRecord) : (s.setRecord h r).notices = s.notices := rfl
@[simp] theorem setRecord_noticeMask (h : HandleIx) (r : ProfileRecord) : (s.setRecord h r).noticeMask = s.noticeMask := rfl
@[simp] theorem setRecord_image (h : HandleIx) (r : ProfileRecord) : (s.setRecord h r).image = s.image := rfl
@[simp] theorem setRecord_flash (h : HandleIx) (r : ProfileRecord) : (s.setRecord h r).flash = s.flash := rfl
@[simp] theorem setRecord_pins (h : HandleIx) (r : ProfileRecord) : (s.setRecord h r).pins = s.pins := rfl
@[simp] theorem setRecord_pending (h : HandleIx) (r : ProfileRecord) : (s.setRecord h r).pending = s.pending := rfl

/-! ### clearInFlight -/

@[simp] theorem clearInFlight_feeds : s.clearInFlight.feeds = s.feeds := rfl
@[simp] theorem clearInFlight_handles : s.clearInFlight.handles = s.handles := rfl
@[simp] theorem clearInFlight_pool : s.clearInFlight.pool = s.pool := rfl
@[simp] theorem clearInFlight_policy : s.clearInFlight.policy = s.policy := rfl
@[simp] theorem clearInFlight_crossStand : s.clearInFlight.crossStand = s.crossStand := rfl
@[simp] theorem clearInFlight_deps : s.clearInFlight.deps = s.deps := rfl
@[simp] theorem clearInFlight_channels : s.clearInFlight.channels = s.channels := rfl
@[simp] theorem clearInFlight_sectors : s.clearInFlight.sectors = s.sectors := rfl
@[simp] theorem clearInFlight_render : s.clearInFlight.render = s.render := rfl
@[simp] theorem clearInFlight_holds : s.clearInFlight.holds = s.holds := rfl
@[simp] theorem clearInFlight_override : s.clearInFlight.override = s.override := rfl
@[simp] theorem clearInFlight_watches : s.clearInFlight.watches = s.watches := rfl
@[simp] theorem clearInFlight_port : s.clearInFlight.port = s.port := rfl
@[simp] theorem clearInFlight_notices : s.clearInFlight.notices = s.notices := rfl
@[simp] theorem clearInFlight_noticeMask : s.clearInFlight.noticeMask = s.noticeMask := rfl
@[simp] theorem clearInFlight_image : s.clearInFlight.image = s.image := rfl
@[simp] theorem clearInFlight_flash : s.clearInFlight.flash = s.flash := rfl
@[simp] theorem clearInFlight_pins : s.clearInFlight.pins = s.pins := rfl
@[simp] theorem clearInFlight_pending : s.clearInFlight.pending = s.pending := rfl

/-! ### updateHolds -/

@[simp] theorem updateHolds_feeds : s.updateHolds.feeds = s.feeds := rfl
@[simp] theorem updateHolds_handles : s.updateHolds.handles = s.handles := rfl
@[simp] theorem updateHolds_pool : s.updateHolds.pool = s.pool := rfl
@[simp] theorem updateHolds_policy : s.updateHolds.policy = s.policy := rfl
@[simp] theorem updateHolds_crossStand : s.updateHolds.crossStand = s.crossStand := rfl
@[simp] theorem updateHolds_deps : s.updateHolds.deps = s.deps := rfl
@[simp] theorem updateHolds_resolver : s.updateHolds.resolver = s.resolver := rfl
@[simp] theorem updateHolds_channels : s.updateHolds.channels = s.channels := rfl
@[simp] theorem updateHolds_sectors : s.updateHolds.sectors = s.sectors := rfl
@[simp] theorem updateHolds_render : s.updateHolds.render = s.render := rfl
@[simp] theorem updateHolds_override : s.updateHolds.override = s.override := rfl
@[simp] theorem updateHolds_watches : s.updateHolds.watches = s.watches := rfl
@[simp] theorem updateHolds_port : s.updateHolds.port = s.port := rfl
@[simp] theorem updateHolds_notices : s.updateHolds.notices = s.notices := rfl
@[simp] theorem updateHolds_noticeMask : s.updateHolds.noticeMask = s.noticeMask := rfl
@[simp] theorem updateHolds_image : s.updateHolds.image = s.image := rfl
@[simp] theorem updateHolds_flash : s.updateHolds.flash = s.flash := rfl
@[simp] theorem updateHolds_pins : s.updateHolds.pins = s.pins := rfl
@[simp] theorem updateHolds_pending : s.updateHolds.pending = s.pending := rfl

/-! ### applyOverride -/

@[simp] theorem applyOverride_feeds : s.applyOverride.feeds = s.feeds := rfl
@[simp] theorem applyOverride_handles : s.applyOverride.handles = s.handles := rfl
@[simp] theorem applyOverride_pool : s.applyOverride.pool = s.pool := rfl
@[simp] theorem applyOverride_policy : s.applyOverride.policy = s.policy := rfl
@[simp] theorem applyOverride_crossStand : s.applyOverride.crossStand = s.crossStand := rfl
@[simp] theorem applyOverride_deps : s.applyOverride.deps = s.deps := rfl
@[simp] theorem applyOverride_resolver : s.applyOverride.resolver = s.resolver := rfl
@[simp] theorem applyOverride_channels : s.applyOverride.channels = s.channels := rfl
@[simp] theorem applyOverride_sectors : s.applyOverride.sectors = s.sectors := rfl
@[simp] theorem applyOverride_render : s.applyOverride.render = s.render := rfl
@[simp] theorem applyOverride_holds : s.applyOverride.holds = s.holds := rfl
@[simp] theorem applyOverride_watches : s.applyOverride.watches = s.watches := rfl
@[simp] theorem applyOverride_port : s.applyOverride.port = s.port := rfl
@[simp] theorem applyOverride_notices : s.applyOverride.notices = s.notices := rfl
@[simp] theorem applyOverride_noticeMask : s.applyOverride.noticeMask = s.noticeMask := rfl
@[simp] theorem applyOverride_image : s.applyOverride.image = s.image := rfl
@[simp] theorem applyOverride_flash : s.applyOverride.flash = s.flash := rfl
@[simp] theorem applyOverride_pins : s.applyOverride.pins = s.pins := rfl
@[simp] theorem applyOverride_pending : s.applyOverride.pending = s.pending := rfl

/-! ### countBlocks -/

@[simp] theorem countBlocks_feeds : s.countBlocks.feeds = s.feeds := rfl
@[simp] theorem countBlocks_handles : s.countBlocks.handles = s.handles := rfl
@[simp] theorem countBlocks_pool : s.countBlocks.pool = s.pool := rfl
@[simp] theorem countBlocks_policy : s.countBlocks.policy = s.policy := rfl
@[simp] theorem countBlocks_crossStand : s.countBlocks.crossStand = s.crossStand := rfl
@[simp] theorem countBlocks_deps : s.countBlocks.deps = s.deps := rfl
@[simp] theorem countBlocks_resolver : s.countBlocks.resolver = s.resolver := rfl
@[simp] theorem countBlocks_render : s.countBlocks.render = s.render := rfl
@[simp] theorem countBlocks_holds : s.countBlocks.holds = s.holds := rfl
@[simp] theorem countBlocks_override : s.countBlocks.override = s.override := rfl
@[simp] theorem countBlocks_watches : s.countBlocks.watches = s.watches := rfl
@[simp] theorem countBlocks_port : s.countBlocks.port = s.port := rfl
@[simp] theorem countBlocks_notices : s.countBlocks.notices = s.notices := rfl
@[simp] theorem countBlocks_noticeMask : s.countBlocks.noticeMask = s.noticeMask := rfl
@[simp] theorem countBlocks_flash : s.countBlocks.flash = s.flash := rfl
@[simp] theorem countBlocks_pins : s.countBlocks.pins = s.pins := rfl
@[simp] theorem countBlocks_pending : s.countBlocks.pending = s.pending := rfl

/-! ### Reads of one record -/

@[simp] theorem feed_setFeed (f : FeedNo) (x : FeedEntry) : (s.setFeed f x).feed f = x :=
  Table.get_upd_same _ _ _

theorem feed_setFeed_other {f j : FeedNo} (x : FeedEntry) (h' : j ≠ f) : (s.setFeed f x).feed j = s.feed j :=
  Table.get_upd_other _ _ h'

@[simp] theorem handle_setHandle (h : HandleIx) (x : HandleEntry) : (s.setHandle h x).handle h = x :=
  Table.get_upd_same _ _ _

theorem handle_setHandle_other {h j : HandleIx} (x : HandleEntry) (h' : j ≠ h) : (s.setHandle h x).handle j = s.handle j :=
  Table.get_upd_other _ _ h'

@[simp] theorem sector_setSector (n : SectorNo) (x : Sector) : (s.setSector n x).sector n = x :=
  Table.get_upd_same _ _ _

theorem sector_setSector_other {n j : SectorNo} (x : Sector) (h' : j ≠ n) : (s.setSector n x).sector j = s.sector j :=
  Table.get_upd_other _ _ h'

@[simp] theorem channel_setChannel (k : ChannelNo) (x : Channel) : (s.setChannel k x).channel k = x :=
  Table.get_upd_same _ _ _

theorem channel_setChannel_other {k j : ChannelNo} (x : Channel) (h' : j ≠ k) : (s.setChannel k x).channel j = s.channel j :=
  Table.get_upd_other _ _ h'

@[simp] theorem renderOf_setRender (f : FeedNo) (x : FeedRender) : (s.setRender f x).renderOf f = x :=
  Table.get_upd_same _ _ _

theorem renderOf_setRender_other {f j : FeedNo} (x : FeedRender) (h' : j ≠ f) : (s.setRender f x).renderOf j = s.renderOf j :=
  Table.get_upd_other _ _ h'

end Sys2Proof.Machine.State
end

