-- ==== Sys2Proof/Laws/Frames.lean ====
section
/-! SUPPORT. What the shared operations leave alone: one lemma for each field they do not touch. -/

namespace Sys2Proof.Machine


theorem foldl_keeps {α β γ : Type} (get : α → γ) (step : α → β → α) (keep : ∀ a b, get (step a b) = get a)
    (bs : List β) (a : α) : get (bs.foldl step a) = get a := by
  induction bs generalizing a with
  | nil => rfl
  | cons b bs ih => rw [List.foldl_cons, ih, keep]

namespace State

variable (s : State)

/-! ### queueFeeds -/

@[simp] theorem queueFeeds_handles (fs : List FeedNo) : (s.queueFeeds fs).handles = s.handles := 
 foldl_keeps State.handles State.queueFeed queueFeed_handles fs s
@[simp] theorem queueFeeds_pool (fs : List FeedNo) : (s.queueFeeds fs).pool = s.pool := 
 foldl_keeps State.pool State.queueFeed queueFeed_pool fs s
@[simp] theorem queueFeeds_policy (fs : List FeedNo) : (s.queueFeeds fs).policy = s.policy := 
 foldl_keeps State.policy State.queueFeed queueFeed_policy fs s
@[simp] theorem queueFeeds_crossStand (fs : List FeedNo) : (s.queueFeeds fs).crossStand = s.crossStand := 
 foldl_keeps State.crossStand State.queueFeed queueFeed_crossStand fs s
@[simp] theorem queueFeeds_deps (fs : List FeedNo) : (s.queueFeeds fs).deps = s.deps := 
 foldl_keeps State.deps State.queueFeed queueFeed_deps fs s
@[simp] theorem queueFeeds_channels (fs : List FeedNo) : (s.queueFeeds fs).channels = s.channels := 
 foldl_keeps State.channels State.queueFeed queueFeed_channels fs s
@[simp] theorem queueFeeds_sectors (fs : List FeedNo) : (s.queueFeeds fs).sectors = s.sectors := 
 foldl_keeps State.sectors State.queueFeed queueFeed_sectors fs s
@[simp] theorem queueFeeds_render (fs : List FeedNo) : (s.queueFeeds fs).render = s.render := 
 foldl_keeps State.render State.queueFeed queueFeed_render fs s
@[simp] theorem queueFeeds_holds (fs : List FeedNo) : (s.queueFeeds fs).holds = s.holds := 
 foldl_keeps State.holds State.queueFeed queueFeed_holds fs s
@[simp] theorem queueFeeds_override (fs : List FeedNo) : (s.queueFeeds fs).override = s.override := 
 foldl_keeps State.override State.queueFeed queueFeed_override fs s
@[simp] theorem queueFeeds_watches (fs : List FeedNo) : (s.queueFeeds fs).watches = s.watches := 
 foldl_keeps State.watches State.queueFeed queueFeed_watches fs s
@[simp] theorem queueFeeds_port (fs : List FeedNo) : (s.queueFeeds fs).port = s.port := 
 foldl_keeps State.port State.queueFeed queueFeed_port fs s
@[simp] theorem queueFeeds_notices (fs : List FeedNo) : (s.queueFeeds fs).notices = s.notices := 
 foldl_keeps State.notices State.queueFeed queueFeed_notices fs s
@[simp] theorem queueFeeds_noticeMask (fs : List FeedNo) : (s.queueFeeds fs).noticeMask = s.noticeMask := 
 foldl_keeps State.noticeMask State.queueFeed queueFeed_noticeMask fs s
@[simp] theorem queueFeeds_image (fs : List FeedNo) : (s.queueFeeds fs).image = s.image := 
 foldl_keeps State.image State.queueFeed queueFeed_image fs s
@[simp] theorem queueFeeds_flash (fs : List FeedNo) : (s.queueFeeds fs).flash = s.flash := 
 foldl_keeps State.flash State.queueFeed queueFeed_flash fs s
@[simp] theorem queueFeeds_pins (fs : List FeedNo) : (s.queueFeeds fs).pins = s.pins := 
 foldl_keeps State.pins State.queueFeed queueFeed_pins fs s
@[simp] theorem queueFeeds_pending (fs : List FeedNo) : (s.queueFeeds fs).pending = s.pending := 
 foldl_keeps State.pending State.queueFeed queueFeed_pending fs s

/-! ### testWatch and watchTest -/

@[simp] theorem testWatch_feeds (a : Access) (r : RecordName) (st : Bool) (i : WatchNo) : (State.testWatch a r st s i).feeds = s.feeds := by
 unfold testWatch; dsimp only; split <;> rfl
@[simp] theorem testWatch_handles (a : Access) (r : RecordName) (st : Bool) (i : WatchNo) : (State.testWatch a r st s i).handles = s.handles := by
 unfold testWatch; dsimp only; split <;> rfl
@[simp] theorem testWatch_pool (a : Access) (r : RecordName) (st : Bool) (i : WatchNo) : (State.testWatch a r st s i).pool = s.pool := by
 unfold testWatch; dsimp only; split <;> rfl
@[simp] theorem testWatch_policy (a : Access) (r : RecordName) (st : Bool) (i : WatchNo) : (State.testWatch a r st s i).policy = s.policy := by
 unfold testWatch; dsimp only; split <;> rfl
@[simp] theorem testWatch_crossStand (a : Access) (r : RecordName) (st : Bool) (i : WatchNo) : (State.testWatch a r st s i).crossStand = s.crossStand := by
 unfold testWatch; dsimp only; split <;> rfl
@[simp] theorem testWatch_deps (a : Access) (r : RecordName) (st : Bool) (i : WatchNo) : (State.testWatch a r st s i).deps = s.deps := by
 unfold testWatch; dsimp only; split <;> rfl
@[simp] theorem testWatch_resolver (a : Access) (r : RecordName) (st : Bool) (i : WatchNo) : (State.testWatch a r st s i).resolver = s.resolver := by
 unfold testWatch; dsimp only; split <;> rfl
@[simp] theorem testWatch_channels (a : Access) (r : RecordName) (st : Bool) (i : WatchNo) : (State.testWatch a r st s i).channels = s.channels := by
 unfold testWatch; dsimp only; split <;> rfl
@[simp] theorem testWatch_sectors (a : Access) (r : RecordName) (st : Bool) (i : WatchNo) : (State.testWatch a r st s i).sectors = s.sectors := by
 unfold testWatch; dsimp only; split <;> rfl
@[simp] theorem testWatch_render (a : Access) (r : RecordName) (st : Bool) (i : WatchNo) : (State.testWatch a r st s i).render = s.render := by
 unfold testWatch; dsimp only; split <;> rfl
@[simp] theorem testWatch_holds (a : Access) (r : RecordName) (st : Bool) (i : WatchNo) : (State.testWatch a r st s i).holds = s.holds := by
 unfold testWatch; dsimp only; split <;> rfl
@[simp] theorem testWatch_override (a : Access) (r : RecordName) (st : Bool) (i : WatchNo) : (State.testWatch a r st s i).override = s.override := by
 unfold testWatch; dsimp only; split <;> rfl
@[simp] theorem testWatch_port (a : Access) (r : RecordName) (st : Bool) (i : WatchNo) : (State.testWatch a r st s i).port = s.port := by
 unfold testWatch; dsimp only; split <;> rfl
@[simp] theorem testWatch_noticeMask (a : Access) (r : RecordName) (st : Bool) (i : WatchNo) : (State.testWatch a r st s i).noticeMask = s.noticeMask := by
 unfold testWatch; dsimp only; split <;> rfl
@[simp] theorem testWatch_image (a : Access) (r : RecordName) (st : Bool) (i : WatchNo) : (State.testWatch a r st s i).image = s.image := by
 unfold testWatch; dsimp only; split <;> rfl
@[simp] theorem testWatch_flash (a : Access) (r : RecordName) (st : Bool) (i : WatchNo) : (State.testWatch a r st s i).flash = s.flash := by
 unfold testWatch; dsimp only; split <;> rfl
@[simp] theorem testWatch_pins (a : Access) (r : RecordName) (st : Bool) (i : WatchNo) : (State.testWatch a r st s i).pins = s.pins := by
 unfold testWatch; dsimp only; split <;> rfl
@[simp] theorem testWatch_pending (a : Access) (r : RecordName) (st : Bool) (i : WatchNo) : (State.testWatch a r st s i).pending = s.pending := by
 unfold testWatch; dsimp only; split <;> rfl
@[simp] theorem watchTest_feeds (a : Access) (r : RecordName) : (s.watchTest a r).1.feeds = s.feeds := 
 foldl_keeps State.feeds _ (fun t i => testWatch_feeds t a r _ i) _ s
@[simp] theorem watchTest_handles (a : Access) (r : RecordName) : (s.watchTest a r).1.handles = s.handles := 
 foldl_keeps State.handles _ (fun t i => testWatch_handles t a r _ i) _ s
@[simp] theorem watchTest_pool (a : Access) (r : RecordName) : (s.watchTest a r).1.pool = s.pool := 
 foldl_keeps State.pool _ (fun t i => testWatch_pool t a r _ i) _ s
@[simp] theorem watchTest_policy (a : Access) (r : RecordName) : (s.watchTest a r).1.policy = s.policy := 
 foldl_keeps State.policy _ (fun t i => testWatch_policy t a r _ i) _ s
@[simp] theorem watchTest_crossStand (a : Access) (r : RecordName) : (s.watchTest a r).1.crossStand = s.crossStand := 
 foldl_keeps State.crossStand _ (fun t i => testWatch_crossStand t a r _ i) _ s
@[simp] theorem watchTest_deps (a : Access) (r : RecordName) : (s.watchTest a r).1.deps = s.deps := 
 foldl_keeps State.deps _ (fun t i => testWatch_deps t a r _ i) _ s
@[simp] theorem watchTest_resolver (a : Access) (r : RecordName) : (s.watchTest a r).1.resolver = s.resolver := 
 foldl_keeps State.resolver _ (fun t i => testWatch_resolver t a r _ i) _ s
@[simp] theorem watchTest_channels (a : Access) (r : RecordName) : (s.watchTest a r).1.channels = s.channels := 
 foldl_keeps State.channels _ (fun t i => testWatch_channels t a r _ i) _ s
@[simp] theorem watchTest_sectors (a : Access) (r : RecordName) : (s.watchTest a r).1.sectors = s.sectors := 
 foldl_keeps State.sectors _ (fun t i => testWatch_sectors t a r _ i) _ s
@[simp] theorem watchTest_render (a : Access) (r : RecordName) : (s.watchTest a r).1.render = s.render := 
 foldl_keeps State.render _ (fun t i => testWatch_render t a r _ i) _ s
@[simp] theorem watchTest_holds (a : Access) (r : RecordName) : (s.watchTest a r).1.holds = s.holds := 
 foldl_keeps State.holds _ (fun t i => testWatch_holds t a r _ i) _ s
@[simp] theorem watchTest_override (a : Access) (r : RecordName) : (s.watchTest a r).1.override = s.override := 
 foldl_keeps State.override _ (fun t i => testWatch_override t a r _ i) _ s
@[simp] theorem watchTest_port (a : Access) (r : RecordName) : (s.watchTest a r).1.port = s.port := 
 foldl_keeps State.port _ (fun t i => testWatch_port t a r _ i) _ s
@[simp] theorem watchTest_noticeMask (a : Access) (r : RecordName) : (s.watchTest a r).1.noticeMask = s.noticeMask := 
 foldl_keeps State.noticeMask _ (fun t i => testWatch_noticeMask t a r _ i) _ s
@[simp] theorem watchTest_image (a : Access) (r : RecordName) : (s.watchTest a r).1.image = s.image := 
 foldl_keeps State.image _ (fun t i => testWatch_image t a r _ i) _ s
@[simp] theorem watchTest_flash (a : Access) (r : RecordName) : (s.watchTest a r).1.flash = s.flash := 
 foldl_keeps State.flash _ (fun t i => testWatch_flash t a r _ i) _ s
@[simp] theorem watchTest_pins (a : Access) (r : RecordName) : (s.watchTest a r).1.pins = s.pins := 
 foldl_keeps State.pins _ (fun t i => testWatch_pins t a r _ i) _ s
@[simp] theorem watchTest_pending (a : Access) (r : RecordName) : (s.watchTest a r).1.pending = s.pending := 
 foldl_keeps State.pending _ (fun t i => testWatch_pending t a r _ i) _ s

/-! ### Handles and their counts -/

@[simp] theorem dropBase_feeds (b : HandleIx) : (s.dropBase b).feeds = s.feeds := by
 unfold dropBase; dsimp only; split <;> simp
@[simp] theorem dropBase_policy (b : HandleIx) : (s.dropBase b).policy = s.policy := by
 unfold dropBase; dsimp only; split <;> simp
@[simp] theorem dropBase_crossStand (b : HandleIx) : (s.dropBase b).crossStand = s.crossStand := by
 unfold dropBase; dsimp only; split <;> simp
@[simp] theorem dropBase_deps (b : HandleIx) : (s.dropBase b).deps = s.deps := by
 unfold dropBase; dsimp only; split <;> simp
@[simp] theorem dropBase_resolver (b : HandleIx) : (s.dropBase b).resolver = s.resolver := by
 unfold dropBase; dsimp only; split <;> simp
@[simp] theorem dropBase_channels (b : HandleIx) : (s.dropBase b).channels = s.channels := by
 unfold dropBase; dsimp only; split <;> simp
@[simp] theorem dropBase_sectors (b : HandleIx) : (s.dropBase b).sectors = s.sectors := by
 unfold dropBase; dsimp only; split <;> simp
@[simp] theorem dropBase_render (b : HandleIx) : (s.dropBase b).render = s.render := by
 unfold dropBase; dsimp only; split <;> simp
@[simp] theorem dropBase_holds (b : HandleIx) : (s.dropBase b).holds = s.holds := by
 unfold dropBase; dsimp only; split <;> simp
@[simp] theorem dropBase_override (b : HandleIx) : (s.dropBase b).override = s.override := by
 unfold dropBase; dsimp only; split <;> simp
@[simp] theorem dropBase_watches (b : HandleIx) : (s.dropBase b).watches = s.watches := by
 unfold dropBase; dsimp only; split <;> simp
@[simp] theorem dropBase_port (b : HandleIx) : (s.dropBase b).port = s.port := by
 unfold dropBase; dsimp only; split <;> simp
@[simp] theorem dropBase_notices (b : HandleIx) : (s.dropBase b).notices = s.notices := by
 unfold dropBase; dsimp only; split <;> simp
@[simp] theorem dropBase_noticeMask (b : HandleIx) : (s.dropBase b).noticeMask = s.noticeMask := by
 unfold dropBase; dsimp only; split <;> simp
@[simp] theorem dropBase_image (b : HandleIx) : (s.dropBase b).image = s.image := by
 unfold dropBase; dsimp only; split <;> simp
@[simp] theorem dropBase_flash (b : HandleIx) : (s.dropBase b).flash = s.flash := by
 unfold dropBase; dsimp only; split <;> simp
@[simp] theorem dropBase_pins (b : HandleIx) : (s.dropBase b).pins = s.pins := by
 unfold dropBase; dsimp only; split <;> simp
@[simp] theorem dropBase_pending (b : HandleIx) : (s.dropBase b).pending = s.pending := by
 unfold dropBase; dsimp only; split <;> simp
@[simp] theorem freeHandle_feeds (h : HandleIx) : (s.freeHandle h).feeds = s.feeds := by
 unfold freeHandle; dsimp only; split <;> simp
@[simp] theorem freeHandle_policy (h : HandleIx) : (s.freeHandle h).policy = s.policy := by
 unfold freeHandle; dsimp only; split <;> simp
@[simp] theorem freeHandle_crossStand (h : HandleIx) : (s.freeHandle h).crossStand = s.crossStand := by
 unfold freeHandle; dsimp only; split <;> simp
@[simp] theorem freeHandle_deps (h : HandleIx) : (s.freeHandle h).deps = s.deps := by
 unfold freeHandle; dsimp only; split <;> simp
@[simp] theorem freeHandle_resolver (h : HandleIx) : (s.freeHandle h).resolver = s.resolver := by
 unfold freeHandle; dsimp only; split <;> simp
@[simp] theorem freeHandle_channels (h : HandleIx) : (s.freeHandle h).channels = s.channels := by
 unfold freeHandle; dsimp only; split <;> simp
@[simp] theorem freeHandle_sectors (h : HandleIx) : (s.freeHandle h).sectors = s.sectors := by
 unfold freeHandle; dsimp only; split <;> simp
@[simp] theorem freeHandle_render (h : HandleIx) : (s.freeHandle h).render = s.render := by
 unfold freeHandle; dsimp only; split <;> simp
@[simp] theorem freeHandle_holds (h : HandleIx) : (s.freeHandle h).holds = s.holds := by
 unfold freeHandle; dsimp only; split <;> simp
@[simp] theorem freeHandle_override (h : HandleIx) : (s.freeHandle h).override = s.override := by
 unfold freeHandle; dsimp only; split <;> simp
@[simp] theorem freeHandle_watches (h : HandleIx) : (s.freeHandle h).watches = s.watches := by
 unfold freeHandle; dsimp only; split <;> simp
@[simp] theorem freeHandle_port (h : HandleIx) : (s.freeHandle h).port = s.port := by
 unfold freeHandle; dsimp only; split <;> simp
@[simp] theorem freeHandle_notices (h : HandleIx) : (s.freeHandle h).notices = s.notices := by
 unfold freeHandle; dsimp only; split <;> simp
@[simp] theorem freeHandle_noticeMask (h : HandleIx) : (s.freeHandle h).noticeMask = s.noticeMask := by
 unfold freeHandle; dsimp only; split <;> simp
@[simp] theorem freeHandle_image (h : HandleIx) : (s.freeHandle h).image = s.image := by
 unfold freeHandle; dsimp only; split <;> simp
@[simp] theorem freeHandle_flash (h : HandleIx) : (s.freeHandle h).flash = s.flash := by
 unfold freeHandle; dsimp only; split <;> simp
@[simp] theorem freeHandle_pins (h : HandleIx) : (s.freeHandle h).pins = s.pins := by
 unfold freeHandle; dsimp only; split <;> simp
@[simp] theorem freeHandle_pending (h : HandleIx) : (s.freeHandle h).pending = s.pending := by
 unfold freeHandle; dsimp only; split <;> simp
@[simp] theorem dropReference_feeds (h : HandleIx) : (s.dropReference h).feeds = s.feeds := by
 unfold dropReference; dsimp only; split <;> simp
@[simp] theorem dropReference_policy (h : HandleIx) : (s.dropReference h).policy = s.policy := by
 unfold dropReference; dsimp only; split <;> simp
@[simp] theorem dropReference_crossStand (h : HandleIx) : (s.dropReference h).crossStand = s.crossStand := by
 unfold dropReference; dsimp only; split <;> simp
@[simp] theorem dropReference_deps (h : HandleIx) : (s.dropReference h).deps = s.deps := by
 unfold dropReference; dsimp only; split <;> simp
@[simp] theorem dropReference_resolver (h : HandleIx) : (s.dropReference h).resolver = s.resolver := by
 unfold dropReference; dsimp only; split <;> simp
@[simp] theorem dropReference_channels (h : HandleIx) : (s.dropReference h).channels = s.channels := by
 unfold dropReference; dsimp only; split <;> simp
@[simp] theorem dropReference_sectors (h : HandleIx) : (s.dropReference h).sectors = s.sectors := by
 unfold dropReference; dsimp only; split <;> simp
@[simp] theorem dropReference_render (h : HandleIx) : (s.dropReference h).render = s.render := by
 unfold dropReference; dsimp only; split <;> simp
@[simp] theorem dropReference_holds (h : HandleIx) : (s.dropReference h).holds = s.holds := by
 unfold dropReference; dsimp only; split <;> simp
@[simp] theorem dropReference_override (h : HandleIx) : (s.dropReference h).override = s.override := by
 unfold dropReference; dsimp only; split <;> simp
@[simp] theorem dropReference_watches (h : HandleIx) : (s.dropReference h).watches = s.watches := by
 unfold dropReference; dsimp only; split <;> simp
@[simp] theorem dropReference_port (h : HandleIx) : (s.dropReference h).port = s.port := by
 unfold dropReference; dsimp only; split <;> simp
@[simp] theorem dropReference_notices (h : HandleIx) : (s.dropReference h).notices = s.notices := by
 unfold dropReference; dsimp only; split <;> simp
@[simp] theorem dropReference_noticeMask (h : HandleIx) : (s.dropReference h).noticeMask = s.noticeMask := by
 unfold dropReference; dsimp only; split <;> simp
@[simp] theorem dropReference_image (h : HandleIx) : (s.dropReference h).image = s.image := by
 unfold dropReference; dsimp only; split <;> simp
@[simp] theorem dropReference_flash (h : HandleIx) : (s.dropReference h).flash = s.flash := by
 unfold dropReference; dsimp only; split <;> simp
@[simp] theorem dropReference_pins (h : HandleIx) : (s.dropReference h).pins = s.pins := by
 unfold dropReference; dsimp only; split <;> simp
@[simp] theorem dropReference_pending (h : HandleIx) : (s.dropReference h).pending = s.pending := by
 unfold dropReference; dsimp only; split <;> simp
@[simp] theorem dropOptional_feeds (b : Option Handle) : (s.dropOptional b).feeds = s.feeds := by
 cases b <;> simp [dropOptional]
@[simp] theorem dropOptional_policy (b : Option Handle) : (s.dropOptional b).policy = s.policy := by
 cases b <;> simp [dropOptional]
@[simp] theorem dropOptional_crossStand (b : Option Handle) : (s.dropOptional b).crossStand = s.crossStand := by
 cases b <;> simp [dropOptional]
@[simp] theorem dropOptional_deps (b : Option Handle) : (s.dropOptional b).deps = s.deps := by
 cases b <;> simp [dropOptional]
@[simp] theorem dropOptional_resolver (b : Option Handle) : (s.dropOptional b).resolver = s.resolver := by
 cases b <;> simp [dropOptional]
@[simp] theorem dropOptional_channels (b : Option Handle) : (s.dropOptional b).channels = s.channels := by
 cases b <;> simp [dropOptional]
@[simp] theorem dropOptional_sectors (b : Option Handle) : (s.dropOptional b).sectors = s.sectors := by
 cases b <;> simp [dropOptional]
@[simp] theorem dropOptional_render (b : Option Handle) : (s.dropOptional b).render = s.render := by
 cases b <;> simp [dropOptional]
@[simp] theorem dropOptional_holds (b : Option Handle) : (s.dropOptional b).holds = s.holds := by
 cases b <;> simp [dropOptional]
@[simp] theorem dropOptional_override (b : Option Handle) : (s.dropOptional b).override = s.override := by
 cases b <;> simp [dropOptional]
@[simp] theorem dropOptional_watches (b : Option Handle) : (s.dropOptional b).watches = s.watches := by
 cases b <;> simp [dropOptional]
@[simp] theorem dropOptional_port (b : Option Handle) : (s.dropOptional b).port = s.port := by
 cases b <;> simp [dropOptional]
@[simp] theorem dropOptional_notices (b : Option Handle) : (s.dropOptional b).notices = s.notices := by
 cases b <;> simp [dropOptional]
@[simp] theorem dropOptional_noticeMask (b : Option Handle) : (s.dropOptional b).noticeMask = s.noticeMask := by
 cases b <;> simp [dropOptional]
@[simp] theorem dropOptional_image (b : Option Handle) : (s.dropOptional b).image = s.image := by
 cases b <;> simp [dropOptional]
@[simp] theorem dropOptional_flash (b : Option Handle) : (s.dropOptional b).flash = s.flash := by
 cases b <;> simp [dropOptional]
@[simp] theorem dropOptional_pins (b : Option Handle) : (s.dropOptional b).pins = s.pins := by
 cases b <;> simp [dropOptional]
@[simp] theorem dropOptional_pending (b : Option Handle) : (s.dropOptional b).pending = s.pending := by
 cases b <;> simp [dropOptional]
@[simp] theorem replaceReference_feeds (old : Option Handle) (new : HandleIx) : (s.replaceReference old new).feeds = s.feeds := by
 simp [replaceReference]
@[simp] theorem replaceReference_policy (old : Option Handle) (new : HandleIx) : (s.replaceReference old new).policy = s.policy := by
 simp [replaceReference]
@[simp] theorem replaceReference_crossStand (old : Option Handle) (new : HandleIx) : (s.replaceReference old new).crossStand = s.crossStand := by
 simp [replaceReference]
@[simp] theorem replaceReference_deps (old : Option Handle) (new : HandleIx) : (s.replaceReference old new).deps = s.deps := by
 simp [replaceReference]
@[simp] theorem replaceReference_resolver (old : Option Handle) (new : HandleIx) : (s.replaceReference old new).resolver = s.resolver := by
 simp [replaceReference]
@[simp] theorem replaceReference_channels (old : Option Handle) (new : HandleIx) : (s.replaceReference old new).channels = s.channels := by
 simp [replaceReference]
@[simp] theorem replaceReference_sectors (old : Option Handle) (new : HandleIx) : (s.replaceReference old new).sectors = s.sectors := by
 simp [replaceReference]
@[simp] theorem replaceReference_render (old : Option Handle) (new : HandleIx) : (s.replaceReference old new).render = s.render := by
 simp [replaceReference]
@[simp] theorem replaceReference_holds (old : Option Handle) (new : HandleIx) : (s.replaceReference old new).holds = s.holds := by
 simp [replaceReference]
@[simp] theorem replaceReference_override (old : Option Handle) (new : HandleIx) : (s.replaceReference old new).override = s.override := by
 simp [replaceReference]
@[simp] theorem replaceReference_watches (old : Option Handle) (new : HandleIx) : (s.replaceReference old new).watches = s.watches := by
 simp [replaceReference]
@[simp] theorem replaceReference_port (old : Option Handle) (new : HandleIx) : (s.replaceReference old new).port = s.port := by
 simp [replaceReference]
@[simp] theorem replaceReference_notices (old : Option Handle) (new : HandleIx) : (s.replaceReference old new).notices = s.notices := by
 simp [replaceReference]
@[simp] theorem replaceReference_noticeMask (old : Option Handle) (new : HandleIx) : (s.replaceReference old new).noticeMask = s.noticeMask := by
 simp [replaceReference]
@[simp] theorem replaceReference_image (old : Option Handle) (new : HandleIx) : (s.replaceReference old new).image = s.image := by
 simp [replaceReference]
@[simp] theorem replaceReference_flash (old : Option Handle) (new : HandleIx) : (s.replaceReference old new).flash = s.flash := by
 simp [replaceReference]
@[simp] theorem replaceReference_pins (old : Option Handle) (new : HandleIx) : (s.replaceReference old new).pins = s.pins := by
 simp [replaceReference]
@[simp] theorem replaceReference_pending (old : Option Handle) (new : HandleIx) : (s.replaceReference old new).pending = s.pending := by
 simp [replaceReference]

/-! ### Compaction -/

@[simp] theorem nextMove_feeds : s.nextMove.feeds = s.feeds := by
 unfold nextMove; split <;> rfl
@[simp] theorem nextMove_policy : s.nextMove.policy = s.policy := by
 unfold nextMove; split <;> rfl
@[simp] theorem nextMove_crossStand : s.nextMove.crossStand = s.crossStand := by
 unfold nextMove; split <;> rfl
@[simp] theorem nextMove_deps : s.nextMove.deps = s.deps := by
 unfold nextMove; split <;> rfl
@[simp] theorem nextMove_resolver : s.nextMove.resolver = s.resolver := by
 unfold nextMove; split <;> rfl
@[simp] theorem nextMove_channels : s.nextMove.channels = s.channels := by
 unfold nextMove; split <;> rfl
@[simp] theorem nextMove_sectors : s.nextMove.sectors = s.sectors := by
 unfold nextMove; split <;> rfl
@[simp] theorem nextMove_render : s.nextMove.render = s.render := by
 unfold nextMove; split <;> rfl
@[simp] theorem nextMove_holds : s.nextMove.holds = s.holds := by
 unfold nextMove; split <;> rfl
@[simp] theorem nextMove_override : s.nextMove.override = s.override := by
 unfold nextMove; split <;> rfl
@[simp] theorem nextMove_watches : s.nextMove.watches = s.watches := by
 unfold nextMove; split <;> rfl
@[simp] theorem nextMove_port : s.nextMove.port = s.port := by
 unfold nextMove; split <;> rfl
@[simp] theorem nextMove_noticeMask : s.nextMove.noticeMask = s.noticeMask := by
 unfold nextMove; split <;> rfl
@[simp] theorem nextMove_image : s.nextMove.image = s.image := by
 unfold nextMove; split <;> rfl
@[simp] theorem nextMove_flash : s.nextMove.flash = s.flash := by
 unfold nextMove; split <;> rfl
@[simp] theorem nextMove_pins : s.nextMove.pins = s.pins := by
 unfold nextMove; split <;> rfl
@[simp] theorem nextMove_pending : s.nextMove.pending = s.pending := by
 unfold nextMove; split <;> rfl
@[simp] theorem afterAbandon_feeds : s.afterAbandon.feeds = s.feeds := by
 unfold afterAbandon; split <;> simp
@[simp] theorem afterAbandon_policy : s.afterAbandon.policy = s.policy := by
 unfold afterAbandon; split <;> simp
@[simp] theorem afterAbandon_crossStand : s.afterAbandon.crossStand = s.crossStand := by
 unfold afterAbandon; split <;> simp
@[simp] theorem afterAbandon_deps : s.afterAbandon.deps = s.deps := by
 unfold afterAbandon; split <;> simp
@[simp] theorem afterAbandon_resolver : s.afterAbandon.resolver = s.resolver := by
 unfold afterAbandon; split <;> simp
@[simp] theorem afterAbandon_channels : s.afterAbandon.channels = s.channels := by
 unfold afterAbandon; split <;> simp
@[simp] theorem afterAbandon_sectors : s.afterAbandon.sectors = s.sectors := by
 unfold afterAbandon; split <;> simp
@[simp] theorem afterAbandon_render : s.afterAbandon.render = s.render := by
 unfold afterAbandon; split <;> simp
@[simp] theorem afterAbandon_holds : s.afterAbandon.holds = s.holds := by
 unfold afterAbandon; split <;> simp
@[simp] theorem afterAbandon_override : s.afterAbandon.override = s.override := by
 unfold afterAbandon; split <;> simp
@[simp] theorem afterAbandon_watches : s.afterAbandon.watches = s.watches := by
 unfold afterAbandon; split <;> simp
@[simp] theorem afterAbandon_port : s.afterAbandon.port = s.port := by
 unfold afterAbandon; split <;> simp
@[simp] theorem afterAbandon_noticeMask : s.afterAbandon.noticeMask = s.noticeMask := by
 unfold afterAbandon; split <;> simp
@[simp] theorem afterAbandon_image : s.afterAbandon.image = s.image := by
 unfold afterAbandon; split <;> simp
@[simp] theorem afterAbandon_flash : s.afterAbandon.flash = s.flash := by
 unfold afterAbandon; split <;> simp
@[simp] theorem afterAbandon_pins : s.afterAbandon.pins = s.pins := by
 unfold afterAbandon; split <;> simp
@[simp] theorem afterAbandon_pending : s.afterAbandon.pending = s.pending := by
 unfold afterAbandon; split <;> simp

/-! ### Notices, the override, the start-up wait -/

@[simp] theorem notifyPolicy_feeds (c : PolicyOutcome) (d : PolicyDetail) : (s.notifyPolicy c d).feeds = s.feeds := by
 unfold notifyPolicy; split <;> rfl
@[simp] theorem notifyPolicy_handles (c : PolicyOutcome) (d : PolicyDetail) : (s.notifyPolicy c d).handles = s.handles := by
 unfold notifyPolicy; split <;> rfl
@[simp] theorem notifyPolicy_pool (c : PolicyOutcome) (d : PolicyDetail) : (s.notifyPolicy c d).pool = s.pool := by
 unfold notifyPolicy; split <;> rfl
@[simp] theorem notifyPolicy_policy (c : PolicyOutcome) (d : PolicyDetail) : (s.notifyPolicy c d).policy = s.policy := by
 unfold notifyPolicy; split <;> rfl
@[simp] theorem notifyPolicy_crossStand (c : PolicyOutcome) (d : PolicyDetail) : (s.notifyPolicy c d).crossStand = s.crossStand := by
 unfold notifyPolicy; split <;> rfl
@[simp] theorem notifyPolicy_deps (c : PolicyOutcome) (d : PolicyDetail) : (s.notifyPolicy c d).deps = s.deps := by
 unfold notifyPolicy; split <;> rfl
@[simp] theorem notifyPolicy_resolver (c : PolicyOutcome) (d : PolicyDetail) : (s.notifyPolicy c d).resolver = s.resolver := by
 unfold notifyPolicy; split <;> rfl
@[simp] theorem notifyPolicy_channels (c : PolicyOutcome) (d : PolicyDetail) : (s.notifyPolicy c d).channels = s.channels := by
 unfold notifyPolicy; split <;> rfl
@[simp] theorem notifyPolicy_sectors (c : PolicyOutcome) (d : PolicyDetail) : (s.notifyPolicy c d).sectors = s.sectors := by
 unfold notifyPolicy; split <;> rfl
@[simp] theorem notifyPolicy_render (c : PolicyOutcome) (d : PolicyDetail) : (s.notifyPolicy c d).render = s.render := by
 unfold notifyPolicy; split <;> rfl
@[simp] theorem notifyPolicy_holds (c : PolicyOutcome) (d : PolicyDetail) : (s.notifyPolicy c d).holds = s.holds := by
 unfold notifyPolicy; split <;> rfl
@[simp] theorem notifyPolicy_override (c : PolicyOutcome) (d : PolicyDetail) : (s.notifyPolicy c d).override = s.override := by
 unfold notifyPolicy; split <;> rfl
@[simp] theorem notifyPolicy_watches (c : PolicyOutcome) (d : PolicyDetail) : (s.notifyPolicy c d).watches = s.watches := by
 unfold notifyPolicy; split <;> rfl
@[simp] theorem notifyPolicy_port (c : PolicyOutcome) (d : PolicyDetail) : (s.notifyPolicy c d).port = s.port := by
 unfold notifyPolicy; split <;> rfl
@[simp] theorem notifyPolicy_noticeMask (c : PolicyOutcome) (d : PolicyDetail) : (s.notifyPolicy c d).noticeMask = s.noticeMask := by
 unfold notifyPolicy; split <;> rfl
@[simp] theorem notifyPolicy_image (c : PolicyOutcome) (d : PolicyDetail) : (s.notifyPolicy c d).image = s.image := by
 unfold notifyPolicy; split <;> rfl
@[simp] theorem notifyPolicy_flash (c : PolicyOutcome) (d : PolicyDetail) : (s.notifyPolicy c d).flash = s.flash := by
 unfold notifyPolicy; split <;> rfl
@[simp] theorem notifyPolicy_pins (c : PolicyOutcome) (d : PolicyDetail) : (s.notifyPolicy c d).pins = s.pins := by
 unfold notifyPolicy; split <;> rfl
@[simp] theorem notifyPolicy_pending (c : PolicyOutcome) (d : PolicyDetail) : (s.notifyPolicy c d).pending = s.pending := by
 unfold notifyPolicy; split <;> rfl
@[simp] theorem changeSources_feeds (c : OverrideSource) (x : Override) : (s.changeSources c x).feeds = s.feeds := by
 unfold changeSources; dsimp only; split <;> rfl
@[simp] theorem changeSources_handles (c : OverrideSource) (x : Override) : (s.changeSources c x).handles = s.handles := by
 unfold changeSources; dsimp only; split <;> rfl
@[simp] theorem changeSources_pool (c : OverrideSource) (x : Override) : (s.changeSources c x).pool = s.pool := by
 unfold changeSources; dsimp only; split <;> rfl
@[simp] theorem changeSources_policy (c : OverrideSource) (x : Override) : (s.changeSources c x).policy = s.policy := by
 unfold changeSources; dsimp only; split <;> rfl
@[simp] theorem changeSources_crossStand (c : OverrideSource) (x : Override) : (s.changeSources c x).crossStand = s.crossStand := by
 unfold changeSources; dsimp only; split <;> rfl
@[simp] theorem changeSources_deps (c : OverrideSource) (x : Override) : (s.changeSources c x).deps = s.deps := by
 unfold changeSources; dsimp only; split <;> rfl
@[simp] theorem changeSources_resolver (c : OverrideSource) (x : Override) : (s.changeSources c x).resolver = s.resolver := by
 unfold changeSources; dsimp only; split <;> rfl
@[simp] theorem changeSources_channels (c : OverrideSource) (x : Override) : (s.changeSources c x).channels = s.channels := by
 unfold changeSources; dsimp only; split <;> rfl
@[simp] theorem changeSources_sectors (c : OverrideSource) (x : Override) : (s.changeSources c x).sectors = s.sectors := by
 unfold changeSources; dsimp only; split <;> rfl
@[simp] theorem changeSources_render (c : OverrideSource) (x : Override) : (s.changeSources c x).render = s.render := by
 unfold changeSources; dsimp only; split <;> rfl
@[simp] theorem changeSources_holds (c : OverrideSource) (x : Override) : (s.changeSources c x).holds = s.holds := by
 unfold changeSources; dsimp only; split <;> rfl
@[simp] theorem changeSources_watches (c : OverrideSource) (x : Override) : (s.changeSources c x).watches = s.watches := by
 unfold changeSources; dsimp only; split <;> rfl
@[simp] theorem changeSources_port (c : OverrideSource) (x : Override) : (s.changeSources c x).port = s.port := by
 unfold changeSources; dsimp only; split <;> rfl
@[simp] theorem changeSources_noticeMask (c : OverrideSource) (x : Override) : (s.changeSources c x).noticeMask = s.noticeMask := by
 unfold changeSources; dsimp only; split <;> rfl
@[simp] theorem changeSources_image (c : OverrideSource) (x : Override) : (s.changeSources c x).image = s.image := by
 unfold changeSources; dsimp only; split <;> rfl
@[simp] theorem changeSources_flash (c : OverrideSource) (x : Override) : (s.changeSources c x).flash = s.flash := by
 unfold changeSources; dsimp only; split <;> rfl
@[simp] theorem changeSources_pins (c : OverrideSource) (x : Override) : (s.changeSources c x).pins = s.pins := by
 unfold changeSources; dsimp only; split <;> rfl
@[simp] theorem changeSources_pending (c : OverrideSource) (x : Override) : (s.changeSources c x).pending = s.pending := by
 unfold changeSources; dsimp only; split <;> rfl
@[simp] theorem endWait_feeds : s.endWait.feeds = s.feeds := by
 unfold endWait; split <;> rfl
@[simp] theorem endWait_handles : s.endWait.handles = s.handles := by
 unfold endWait; split <;> rfl
@[simp] theorem endWait_pool : s.endWait.pool = s.pool := by
 unfold endWait; split <;> rfl
@[simp] theorem endWait_policy : s.endWait.policy = s.policy := by
 unfold endWait; split <;> rfl
@[simp] theorem endWait_crossStand : s.endWait.crossStand = s.crossStand := by
 unfold endWait; split <;> rfl
@[simp] theorem endWait_deps : s.endWait.deps = s.deps := by
 unfold endWait; split <;> rfl
@[simp] theorem endWait_resolver : s.endWait.resolver = s.resolver := by
 unfold endWait; split <;> rfl
@[simp] theorem endWait_channels : s.endWait.channels = s.channels := by
 unfold endWait; split <;> rfl
@[simp] theorem endWait_sectors : s.endWait.sectors = s.sectors := by
 unfold endWait; split <;> rfl
@[simp] theorem endWait_render : s.endWait.render = s.render := by
 unfold endWait; split <;> rfl
@[simp] theorem endWait_holds : s.endWait.holds = s.holds := by
 unfold endWait; split <;> rfl
@[simp] theorem endWait_override : s.endWait.override = s.override := by
 unfold endWait; split <;> rfl
@[simp] theorem endWait_watches : s.endWait.watches = s.watches := by
 unfold endWait; split <;> rfl
@[simp] theorem endWait_port : s.endWait.port = s.port := by
 unfold endWait; split <;> rfl
@[simp] theorem endWait_notices : s.endWait.notices = s.notices := by
 unfold endWait; split <;> rfl
@[simp] theorem endWait_noticeMask : s.endWait.noticeMask = s.noticeMask := by
 unfold endWait; split <;> rfl
@[simp] theorem endWait_flash : s.endWait.flash = s.flash := by
 unfold endWait; split <;> rfl
@[simp] theorem endWait_pins : s.endWait.pins = s.pins := by
 unfold endWait; split <;> rfl
@[simp] theorem endWait_pending : s.endWait.pending = s.pending := by
 unfold endWait; split <;> rfl

/-! ### The Climate Unit -/

@[simp] theorem statusEvaluation_feeds (n : SectorNo) : (s.statusEvaluation n).feeds = s.feeds := by
 unfold statusEvaluation; dsimp only; split <;> rfl
@[simp] theorem statusEvaluation_handles (n : SectorNo) : (s.statusEvaluation n).handles = s.handles := by
 unfold statusEvaluation; dsimp only; split <;> rfl
@[simp] theorem statusEvaluation_pool (n : SectorNo) : (s.statusEvaluation n).pool = s.pool := by
 unfold statusEvaluation; dsimp only; split <;> rfl
@[simp] theorem statusEvaluation_policy (n : SectorNo) : (s.statusEvaluation n).policy = s.policy := by
 unfold statusEvaluation; dsimp only; split <;> rfl
@[simp] theorem statusEvaluation_crossStand (n : SectorNo) : (s.statusEvaluation n).crossStand = s.crossStand := by
 unfold statusEvaluation; dsimp only; split <;> rfl
@[simp] theorem statusEvaluation_deps (n : SectorNo) : (s.statusEvaluation n).deps = s.deps := by
 unfold statusEvaluation; dsimp only; split <;> rfl
@[simp] theorem statusEvaluation_resolver (n : SectorNo) : (s.statusEvaluation n).resolver = s.resolver := by
 unfold statusEvaluation; dsimp only; split <;> rfl
@[simp] theorem statusEvaluation_channels (n : SectorNo) : (s.statusEvaluation n).channels = s.channels := by
 unfold statusEvaluation; dsimp only; split <;> rfl
@[simp] theorem statusEvaluation_render (n : SectorNo) : (s.statusEvaluation n).render = s.render := by
 unfold statusEvaluation; dsimp only; split <;> rfl
@[simp] theorem statusEvaluation_holds (n : SectorNo) : (s.statusEvaluation n).holds = s.holds := by
 unfold statusEvaluation; dsimp only; split <;> rfl
@[simp] theorem statusEvaluation_override (n : SectorNo) : (s.statusEvaluation n).override = s.override := by
 unfold statusEvaluation; dsimp only; split <;> rfl
@[simp] theorem statusEvaluation_watches (n : SectorNo) : (s.statusEvaluation n).watches = s.watches := by
 unfold statusEvaluation; dsimp only; split <;> rfl
@[simp] theorem statusEvaluation_port (n : SectorNo) : (s.statusEvaluation n).port = s.port := by
 unfold statusEvaluation; dsimp only; split <;> rfl
@[simp] theorem statusEvaluation_noticeMask (n : SectorNo) : (s.statusEvaluation n).noticeMask = s.noticeMask := by
 unfold statusEvaluation; dsimp only; split <;> rfl
@[simp] theorem statusEvaluation_image (n : SectorNo) : (s.statusEvaluation n).image = s.image := by
 unfold statusEvaluation; dsimp only; split <;> rfl
@[simp] theorem statusEvaluation_flash (n : SectorNo) : (s.statusEvaluation n).flash = s.flash := by
 unfold statusEvaluation; dsimp only; split <;> rfl
@[simp] theorem statusEvaluation_pins (n : SectorNo) : (s.statusEvaluation n).pins = s.pins := by
 unfold statusEvaluation; dsimp only; split <;> rfl
@[simp] theorem statusEvaluation_pending (n : SectorNo) : (s.statusEvaluation n).pending = s.pending := by
 unfold statusEvaluation; dsimp only; split <;> rfl
@[simp] theorem changeSpeed_handles (n : SectorNo) (c : Int) : (s.changeSpeed n c).handles = s.handles := by
 simp [changeSpeed]
@[simp] theorem changeSpeed_pool (n : SectorNo) (c : Int) : (s.changeSpeed n c).pool = s.pool := by
 simp [changeSpeed]
@[simp] theorem changeSpeed_policy (n : SectorNo) (c : Int) : (s.changeSpeed n c).policy = s.policy := by
 simp [changeSpeed]
@[simp] theorem changeSpeed_crossStand (n : SectorNo) (c : Int) : (s.changeSpeed n c).crossStand = s.crossStand := by
 simp [changeSpeed]
@[simp] theorem changeSpeed_deps (n : SectorNo) (c : Int) : (s.changeSpeed n c).deps = s.deps := by
 simp [changeSpeed]
@[simp] theorem changeSpeed_channels (n : SectorNo) (c : Int) : (s.changeSpeed n c).channels = s.channels := by
 simp [changeSpeed]
@[simp] theorem changeSpeed_render (n : SectorNo) (c : Int) : (s.changeSpeed n c).render = s.render := by
 simp [changeSpeed]
@[simp] theorem changeSpeed_holds (n : SectorNo) (c : Int) : (s.changeSpeed n c).holds = s.holds := by
 simp [changeSpeed]
@[simp] theorem changeSpeed_override (n : SectorNo) (c : Int) : (s.changeSpeed n c).override = s.override := by
 simp [changeSpeed]
@[simp] theorem changeSpeed_watches (n : SectorNo) (c : Int) : (s.changeSpeed n c).watches = s.watches := by
 simp [changeSpeed]
@[simp] theorem changeSpeed_port (n : SectorNo) (c : Int) : (s.changeSpeed n c).port = s.port := by
 simp [changeSpeed]
@[simp] theorem changeSpeed_notices (n : SectorNo) (c : Int) : (s.changeSpeed n c).notices = s.notices := by
 simp [changeSpeed]
@[simp] theorem changeSpeed_noticeMask (n : SectorNo) (c : Int) : (s.changeSpeed n c).noticeMask = s.noticeMask := by
 simp [changeSpeed]
@[simp] theorem changeSpeed_image (n : SectorNo) (c : Int) : (s.changeSpeed n c).image = s.image := by
 simp [changeSpeed]
@[simp] theorem changeSpeed_flash (n : SectorNo) (c : Int) : (s.changeSpeed n c).flash = s.flash := by
 simp [changeSpeed]
@[simp] theorem changeSpeed_pins (n : SectorNo) (c : Int) : (s.changeSpeed n c).pins = s.pins := by
 simp [changeSpeed]
@[simp] theorem changeSpeed_pending (n : SectorNo) (c : Int) : (s.changeSpeed n c).pending = s.pending := by
 simp [changeSpeed]
@[simp] theorem speedTest_handles (n : SectorNo) (t : Int) : (s.speedTest n t).handles = s.handles := by
 unfold speedTest; dsimp only; split <;> simp
@[simp] theorem speedTest_pool (n : SectorNo) (t : Int) : (s.speedTest n t).pool = s.pool := by
 unfold speedTest; dsimp only; split <;> simp
@[simp] theorem speedTest_policy (n : SectorNo) (t : Int) : (s.speedTest n t).policy = s.policy := by
 unfold speedTest; dsimp only; split <;> simp
@[simp] theorem speedTest_crossStand (n : SectorNo) (t : Int) : (s.speedTest n t).crossStand = s.crossStand := by
 unfold speedTest; dsimp only; split <;> simp
@[simp] theorem speedTest_deps (n : SectorNo) (t : Int) : (s.speedTest n t).deps = s.deps := by
 unfold speedTest; dsimp only; split <;> simp
@[simp] theorem speedTest_channels (n : SectorNo) (t : Int) : (s.speedTest n t).channels = s.channels := by
 unfold speedTest; dsimp only; split <;> simp
@[simp] theorem speedTest_render (n : SectorNo) (t : Int) : (s.speedTest n t).render = s.render := by
 unfold speedTest; dsimp only; split <;> simp
@[simp] theorem speedTest_holds (n : SectorNo) (t : Int) : (s.speedTest n t).holds = s.holds := by
 unfold speedTest; dsimp only; split <;> simp
@[simp] theorem speedTest_override (n : SectorNo) (t : Int) : (s.speedTest n t).override = s.override := by
 unfold speedTest; dsimp only; split <;> simp
@[simp] theorem speedTest_watches (n : SectorNo) (t : Int) : (s.speedTest n t).watches = s.watches := by
 unfold speedTest; dsimp only; split <;> simp
@[simp] theorem speedTest_port (n : SectorNo) (t : Int) : (s.speedTest n t).port = s.port := by
 unfold speedTest; dsimp only; split <;> simp
@[simp] theorem speedTest_notices (n : SectorNo) (t : Int) : (s.speedTest n t).notices = s.notices := by
 unfold speedTest; dsimp only; split <;> simp
@[simp] theorem speedTest_noticeMask (n : SectorNo) (t : Int) : (s.speedTest n t).noticeMask = s.noticeMask := by
 unfold speedTest; dsimp only; split <;> simp
@[simp] theorem speedTest_image (n : SectorNo) (t : Int) : (s.speedTest n t).image = s.image := by
 unfold speedTest; dsimp only; split <;> simp
@[simp] theorem speedTest_flash (n : SectorNo) (t : Int) : (s.speedTest n t).flash = s.flash := by
 unfold speedTest; dsimp only; split <;> simp
@[simp] theorem speedTest_pins (n : SectorNo) (t : Int) : (s.speedTest n t).pins = s.pins := by
 unfold speedTest; dsimp only; split <;> simp
@[simp] theorem speedTest_pending (n : SectorNo) (t : Int) : (s.speedTest n t).pending = s.pending := by
 unfold speedTest; dsimp only; split <;> simp
@[simp] theorem fullEvaluation_handles (n : SectorNo) : (s.fullEvaluation n).handles = s.handles := by
 unfold fullEvaluation; dsimp only; split <;> simp
@[simp] theorem fullEvaluation_pool (n : SectorNo) : (s.fullEvaluation n).pool = s.pool := by
 unfold fullEvaluation; dsimp only; split <;> simp
@[simp] theorem fullEvaluation_policy (n : SectorNo) : (s.fullEvaluation n).policy = s.policy := by
 unfold fullEvaluation; dsimp only; split <;> simp
@[simp] theorem fullEvaluation_crossStand (n : SectorNo) : (s.fullEvaluation n).crossStand = s.crossStand := by
 unfold fullEvaluation; dsimp only; split <;> simp
@[simp] theorem fullEvaluation_deps (n : SectorNo) : (s.fullEvaluation n).deps = s.deps := by
 unfold fullEvaluation; dsimp only; split <;> simp
@[simp] theorem fullEvaluation_channels (n : SectorNo) : (s.fullEvaluation n).channels = s.channels := by
 unfold fullEvaluation; dsimp only; split <;> simp
@[simp] theorem fullEvaluation_render (n : SectorNo) : (s.fullEvaluation n).render = s.render := by
 unfold fullEvaluation; dsimp only; split <;> simp
@[simp] theorem fullEvaluation_holds (n : SectorNo) : (s.fullEvaluation n).holds = s.holds := by
 unfold fullEvaluation; dsimp only; split <;> simp
@[simp] theorem fullEvaluation_override (n : SectorNo) : (s.fullEvaluation n).override = s.override := by
 unfold fullEvaluation; dsimp only; split <;> simp
@[simp] theorem fullEvaluation_watches (n : SectorNo) : (s.fullEvaluation n).watches = s.watches := by
 unfold fullEvaluation; dsimp only; split <;> simp
@[simp] theorem fullEvaluation_port (n : SectorNo) : (s.fullEvaluation n).port = s.port := by
 unfold fullEvaluation; dsimp only; split <;> simp
@[simp] theorem fullEvaluation_noticeMask (n : SectorNo) : (s.fullEvaluation n).noticeMask = s.noticeMask := by
 unfold fullEvaluation; dsimp only; split <;> simp
@[simp] theorem fullEvaluation_image (n : SectorNo) : (s.fullEvaluation n).image = s.image := by
 unfold fullEvaluation; dsimp only; split <;> simp
@[simp] theorem fullEvaluation_flash (n : SectorNo) : (s.fullEvaluation n).flash = s.flash := by
 unfold fullEvaluation; dsimp only; split <;> simp
@[simp] theorem fullEvaluation_pins (n : SectorNo) : (s.fullEvaluation n).pins = s.pins := by
 unfold fullEvaluation; dsimp only; split <;> simp
@[simp] theorem fullEvaluation_pending (n : SectorNo) : (s.fullEvaluation n).pending = s.pending := by
 unfold fullEvaluation; dsimp only; split <;> simp

end State

end Sys2Proof.Machine
end

