-- ==== Sys2Proof/Laws/Change.lean ====
section
/-! SUPPORT. The watch test and the taking of a change request, each with everything it can do (R10, R35, R144 to R146). -/

namespace Sys2Proof.Machine

namespace State

variable (s : State)

theorem watchTest_stopped (a : Access) (r : RecordName) : (s.watchTest a r).2 = s.stops a r := rfl

theorem stops_of_unwatched {s : State} {a : Access} {r : RecordName} (h : s.unwatched a r) :
    s.stops a r = false := by
  unfold stops
  rw [List.any_eq_false]
  intro i _
  simp [h i]

theorem testWatch_of_miss {a : Access} {r : RecordName} {st : Bool} {i : WatchNo}
    (h : (s.watches.get i).config.hits a r = false) : testWatch a r st s i = s := by
  simp [testWatch, h]

/-- An access that no watch observes leaves the block as it is (R144). -/
theorem watchTest_of_unwatched {s : State} {a : Access} {r : RecordName} (h : s.unwatched a r) :
    s.watchTest a r = (s, false) := by
  have hs := stops_of_unwatched h
  unfold watchTest
  rw [hs]
  have : ∀ l : List WatchNo, l.foldl (testWatch a r false) s = s := by
    intro l
    induction l with
    | nil => rfl
    | cons i l ih => rw [List.foldl_cons, testWatch_of_miss s (h i), ih]
  simp only [this]

/-- A change request that fails a test changes nothing (R10, R35). -/
theorem takeChange_error {α : Type} (record : α → RecordName) (effect : α → State → State) (st : Status) :
    s.takeChange (.error st) record effect = (s, .error st) := rfl

/-- A change request that a watch stops (R146). -/
theorem takeChange_stopped {α : Type} (record : α → RecordName) (effect : α → State → State) (a : α)
    (h : s.stops .portChange (record a) = true) :
    s.takeChange (.ok a) record effect = ((s.watchTest .portChange (record a)).1, .error .watched) := by
  simp [takeChange, watchTest_stopped, h]

/-- A change request that is taken. -/
theorem takeChange_taken {α : Type} (record : α → RecordName) (effect : α → State → State) (a : α)
    (h : s.stops .portChange (record a) = false) :
    s.takeChange (.ok a) record effect =
      ((effect a (s.watchTest .portChange (record a)).1).afterAbandon.endWait, .ok a) := by
  simp [takeChange, watchTest_stopped, h]

/-- A change request that is taken with no watch on its record, no wait to end and no compaction. -/
theorem takeChange_plain {α : Type} (record : α → RecordName) (effect : α → State → State) (a : α)
    (hw : s.unwatched .portChange (record a)) :
    s.takeChange (.ok a) record effect = ((effect a s).afterAbandon.endWait, .ok a) := by
  simp [takeChange, watchTest_of_unwatched hw]

theorem endWait_of_idle {s : State} (h : s.image = .idle) : s.endWait = s := by
  simp [endWait, h]

theorem afterAbandon_of_idle {s : State} (h : s.pool.compaction = .idle) : s.afterAbandon = s := by
  unfold afterAbandon
  rw [h]
  cases s.pool.move <;> rfl

theorem afterAbandon_of_move {s : State} (h : s.pool.move.isSome = true) : s.afterAbandon = s := by
  unfold afterAbandon
  cases hm : s.pool.move with
  | none => simp [hm] at h
  | some m => rfl

end State

end Sys2Proof.Machine
end

