-- ==== Sys2Proof/Laws/Boundary.lean ====
section
/-! SUPPORT. The block boundary: what each feed's part of it can do, and the whole of it over the 96 feeds (R121, R136 to R141). -/

namespace Sys2Proof.Machine

namespace State

/-! ### Watch tests and render states do not meet -/

/-- The state with all render states replaced. -/
def withRender (s : State) (render : Table FeedRender 96) : State := { s with render := render }

theorem testWatch_withRender (s : State) (render : Table FeedRender 96) (a : Access) (r : RecordName) (st : Bool)
    (i : WatchNo) : testWatch a r st (s.withRender render) i = (testWatch a r st s i).withRender render := by
  unfold testWatch withRender
  dsimp only
  split <;> rfl

theorem watchTest_withRender (s : State) (render : Table FeedRender 96) (a : Access) (r : RecordName) :
    ((s.withRender render).watchTest a r).1 = (s.watchTest a r).1.withRender render := by
  have h : ∀ (l : List WatchNo) (u : State) (st : Bool), l.foldl (testWatch a r st) (u.withRender render) =
      (l.foldl (testWatch a r st) u).withRender render := by
    intro l
    induction l with
    | nil => intro u st; rfl
    | cons i l ih => intro u st; rw [List.foldl_cons, testWatch_withRender, ih, List.foldl_cons]
  exact h (List.finRange 2) s (s.stops a r)

theorem takesTested_withRender (s : State) (render : Table FeedRender 96) (fs : List FeedNo) :
    (s.withRender render).takesTested fs = (s.takesTested fs).withRender render := by
  unfold takesTested
  induction fs generalizing s with
  | nil => rfl
  | cons f fs ih => rw [List.foldl_cons, watchTest_withRender, ih, List.foldl_cons]

theorem takesTested_twice (s : State) (render render' : Table FeedRender 96) (fs : List FeedNo) :
    ((s.withRender render).takesTested fs).withRender render' = (s.takesTested fs).withRender render' := by
  rw [takesTested_withRender]
  rfl

/-- A test changes no configuration, so it changes no later test. -/
theorem testWatch_config (s : State) (a : Access) (r : RecordName) (st : Bool) (i j : WatchNo) :
    ((testWatch a r st s i).watches.get j).config = (s.watches.get j).config := by
  unfold testWatch
  dsimp only
  split
  · simp only [raise_watches, Table.get_upd]
    split
    · next h => rw [h]; rfl
    · rfl
  · rfl

theorem watchTest_stops (s : State) (a a' : Access) (r r' : RecordName) :
    (s.watchTest a r).1.stops a' r' = s.stops a' r' := by
  have h : ∀ (l : List WatchNo) (u : State) (st : Bool) (j : WatchNo),
      ((l.foldl (testWatch a r st) u).watches.get j).config = (u.watches.get j).config := by
    intro l
    induction l with
    | nil => intro u st j; rfl
    | cons i l ih => intro u st j; rw [List.foldl_cons, ih, testWatch_config]
  unfold stops watchTest
  simp only [h]

/-- `u` stands within the boundary of `s`: the holds, the override and the watches' configurations are those of all feeds. -/
structure Midway (s u : State) : Prop where
  feeds : u.feeds = s.feeds
  sectors : u.sectors = s.sectors
  holds : u.holds = s.updateHolds.holds
  state : u.override = { s.override with applied := s.override.state }
  stops : ∀ a r, u.stops a r = s.stops a r

/-- What an operation on one feed leaves: its watch test, when `due`, and its render state. -/
def touched (u : State) (f : FeedNo) (due : Bool) (y : FeedRender) : State :=
  (if due then (u.watchTest .take (.feed f)).1 else u).setRender f y

theorem Midway.touched {s u : State} (m : Midway s u) (f : FeedNo) (due : Bool) (y : FeedRender) :
    Midway s (u.touched f due y) := by
  unfold State.touched
  cases due
  · exact ⟨m.feeds, m.sectors, m.holds, m.state, m.stops⟩
  · refine ⟨?_, ?_, ?_, ?_, ?_⟩
    · simpa using m.feeds
    · simpa using m.sectors
    · simpa using m.holds
    · simpa using m.state
    · intro a r
      exact (watchTest_stops u .take a (.feed f) r).trans (m.stops a r)

theorem touched_other {u : State} {f g : FeedNo} (due : Bool) (y : FeedRender) (h : g ≠ f) :
    (u.touched f due y).renderOf g = u.renderOf g := by
  unfold touched
  cases due
  · exact renderOf_setRender_other u y h
  · rw [renderOf_setRender_other _ y h]
    simp [renderOf]

theorem touched_same (u : State) (f : FeedNo) (due : Bool) (y : FeedRender) : (u.touched f due y).renderOf f = y :=
  renderOf_setRender _ _ _

/-- A whole boundary of one operation: each feed is touched once, its watch tests come in the list's order. -/
theorem foldl_touched {s : State} {op : State → FeedNo → State} {due : FeedNo → Bool} {P : FeedNo → FeedRender → Prop}
    (each : ∀ u f, Midway s u → u.renderOf f = s.renderOf f → ∃ y, P f y ∧ op u f = u.touched f (due f) y)
    (fs : List FeedNo) (nodup : fs.Nodup) (u : State) (m : Midway s u) (fresh : ∀ f ∈ fs, u.renderOf f = s.renderOf f) :
    ∃ render, fs.foldl op u = (u.takesTested (fs.filter due)).withRender render ∧
      (∀ f ∈ fs, P f (render.get f)) ∧ ∀ f, f ∉ fs → render.get f = u.renderOf f := by
  induction fs generalizing u with
  | nil => exact ⟨u.render, rfl, nofun, fun f _ => rfl⟩
  | cons f fs ih =>
    rw [List.nodup_cons] at nodup
    obtain ⟨y, hy, eq⟩ := each u f m (fresh f (List.mem_cons_self ..))
    have fresh' : ∀ g ∈ fs, (u.touched f (due f) y).renderOf g = s.renderOf g := by
      intro g hg
      rw [touched_other _ _ (fun e : g = f => nodup.1 (e ▸ hg))]
      exact fresh g (List.mem_cons_of_mem _ hg)
    obtain ⟨render, he, hin, hout⟩ := ih nodup.2 (u.touched f (due f) y) (m.touched f (due f) y) fresh'
    refine ⟨render, ?_, ?_, ?_⟩
    · rw [List.foldl_cons, eq, he]
      unfold touched
      cases hd : due f
      · rw [List.filter_cons_of_neg (by simp [hd])]
        exact takesTested_twice u (u.render.upd f y) render _
      · rw [List.filter_cons_of_pos (by simp [hd])]
        exact takesTested_twice (u.watchTest .take (.feed f)).1 _ render _
    · intro g hg
      rcases List.mem_cons.mp hg with h | h
      · subst h
        rw [hout g nodup.1, touched_same]
        exact hy
      · exact hin g h
    · intro g hg
      rw [List.mem_cons, not_or] at hg
      rw [hout g hg.2, touched_other _ _ hg.1]

/-! ### One feed's part of a boundary -/

theorem touched_kept (u : State) (f : FeedNo) : u.touched f false (u.renderOf f) = u := by
  show u.withRender (u.render.upd f (u.render.get f)) = u
  rw [Table.upd_get]
  rfl

theorem testTake_undue {u : State} {f : FeedNo} (h : u.takeable f = none) : u.testTake f = (u, none) := by
  unfold testTake
  rw [h]

theorem testTake_stopped {u : State} {f : FeedNo} {p : Setting} (h : u.takeable f = some p)
    (hs : u.stops .take (.feed f) = true) :
    u.testTake f = (u.touched f true { u.renderOf f with takeStopped := true }, none) := by
  unfold testTake
  rw [h]
  simp only [watchTest_stopped, hs, if_true]
  congr 2
  simp [renderOf]

theorem testTake_taken {u : State} {f : FeedNo} {p : Setting} (h : u.takeable f = some p)
    (hs : u.stops .take (.feed f) = false) :
    u.testTake f = ((u.watchTest .take (.feed f)).1, some p) := by
  unfold testTake
  rw [h]
  simp [watchTest_stopped, hs]

theorem Midway.takeable {s u : State} (m : Midway s u) (f : FeedNo) :
    u.takeable f =
      if s.heldAtBoundary f || (u.renderOf f).takeStopped then none else (u.renderOf f).pending := by
  have hf : u.feed f = s.feed f := by unfold feed; rw [m.feeds]
  unfold State.takeable heldAtBoundary
  rw [m.holds, hf]
  simp [updateHolds]

theorem Midway.glideOf {s u : State} (m : Midway s u) (f : FeedNo) :
    u.glideOf f = (s.sector (s.feed f).sector).config.glide := by
  have hf : u.feed f = s.feed f := by unfold feed; rw [m.feeds]
  unfold State.glideOf sector
  rw [hf, m.sectors]

theorem setRender_touched (u : State) (f : FeedNo) (y : FeedRender) : u.setRender f y = u.touched f false y := rfl

theorem touched_touched (u : State) (f : FeedNo) (due : Bool) (x y : FeedRender) :
    (u.touched f false x).touched f due y = u.touched f due y := by
  have h : ∀ v : State, (v.withRender (u.render.upd f x)).setRender f y = v.withRender ((u.render.upd f x).upd f y) :=
    fun _ => rfl
  have hu : (u.render.upd f x).upd f y = u.render.upd f y := by
    apply Table.ext_get
    intro j
    simp only [Table.get_upd]
    split <;> rfl
  unfold touched
  cases due
  · exact congrArg u.withRender hu
  · simp only [Bool.false_eq_true, if_false, if_true]
    show ((u.withRender (u.render.upd f x)).watchTest .take (.feed f)).1.setRender f y = _
    rw [watchTest_withRender, h, hu]
    simp [setRender, withRender]

theorem touched_setRender (u : State) (f : FeedNo) (due : Bool) (x y : FeedRender) :
    (u.touched f due x).setRender f y = u.touched f due y := by
  unfold touched
  exact touched_touched _ f false x y

/-- The step of a feed within a boundary (R121, R123, R126, R128, R138). -/
theorem Midway.stepFeed {s u : State} (m : Midway s u) {f : FeedNo} (hr : u.renderOf f = s.renderOf f) :
    ∃ y, Stepped s f y ∧ u.stepFeed f = u.touched f (s.takeDue f) y := by
  have hf : u.feed f = s.feed f := by unfold feed; rw [m.feeds]
  have ht := m.takeable f
  rw [hr] at ht
  have hg := m.glideOf f
  have hs := m.stops .take (.feed f)
  have hl : u.looksForStandby f = (s.override.state = .engaged && (s.feed f).overrideAction = .switch) := by
    unfold looksForStandby
    rw [m.state, hf]
  have hk := touched_kept u f
  unfold State.stepFeed
  rw [hr] at hk ⊢
  cases h1 : (s.renderOf f).silenceOrder
  · cases h2 : (s.renderOf f).transition with
    | some v =>
      refine ⟨(s.renderOf f).advance v, ?_, by simp [takeDue, h1, h2, setRender_touched]⟩
      constructor <;> simp_all [takeDue, FeedRender.advance, FeedRender.complete] <;> grind
    | none =>
      cases h3 : (s.renderOf f).source with
      | normal =>
        simp only [h1, h2, h3, Bool.false_eq_true, if_false]
        cases ha : u.takeable f with
        | none =>
          have hd : s.takeDue f = false := by rw [ha] at ht; simp_all [takeDue]; grind
          refine ⟨s.renderOf f, ?_, by rw [hd, hk, stepTake, testTake_undue ha]⟩
          constructor <;> simp_all
        | some p =>
          have hd : s.takeDue f = true := by rw [ha] at ht; simp_all [takeDue]; grind
          have hp : (s.renderOf f).pending = some p := by rw [ha] at ht; grind
          cases hst : u.stops .take (.feed f)
          · refine ⟨(s.renderOf f).take p (u.glideOf f), ?_, ?_⟩
            · have hst' : s.stops .take (.feed f) = false := by rw [← hs]; exact hst
              clear hs hst ha ht hk hl
              rw [hg]
              constructor <;> intros <;>
                simp_all [FeedRender.take, FeedRender.begin, FeedRender.beginFade, Config.fadeBlocks]
            · rw [hd, stepTake, testTake_taken ha hst]
              show (u.watchTest .take (.feed f)).1.setRender f _ = (u.watchTest .take (.feed f)).1.setRender f _
              rw [← hr]
              simp [renderOf, State.glideOf, sector, feed]
          · refine ⟨{ s.renderOf f with takeStopped := true }, ?_, by rw [hd, stepTake, testTake_stopped ha hst, hr]⟩
            constructor <;> simp_all
      | standby =>
        refine ⟨(s.renderOf f).updateStandby (u.glideOf f), ?_, by simp [takeDue, h1, h2, h3, setRender_touched]⟩
        constructor <;> simp_all [takeDue, FeedRender.updateStandby, FeedRender.begin, OutputLeft.ofSetting] <;> grind
      | mute =>
        refine ⟨if u.looksForStandby f then (s.renderOf f).lateStandby else s.renderOf f, ?_, ?_⟩
        · rw [hl]
          constructor <;> simp_all [takeDue, FeedRender.lateStandby, FeedRender.begin, FeedRender.beginFade, Config.fadeBlocks] <;> grind
        · simp only [h1, h2, h3, Bool.false_eq_true, if_false]
          split <;> simp [takeDue, h1, h2, h3, setRender_touched, hk]
  · refine ⟨(s.renderOf f).carrySilence, ?_, by simp [takeDue, h1, setRender_touched]⟩
    constructor <;> cases h3 : (s.renderOf f).source <;>
      simp_all [takeDue, FeedRender.carrySilence, FeedRender.dropQuietly, FeedRender.beginFade, FeedRender.begin, Config.fadeBlocks]

/-- What the engagement does to a feed that leaves its normal source (R137). -/
theorem Midway.engageFeed {s u : State} (m : Midway s u) {f : FeedNo} (hr : u.renderOf f = s.renderOf f) :
    ∃ y, (if (s.feed f).overrideAction = .keep then Stepped s f y else Engaged s f y) ∧
      u.engageFeed f = u.touched f (s.takeDue f && (s.feed f).overrideAction = .keep) y := by
  have hf : u.feed f = s.feed f := by unfold feed; rw [m.feeds]
  obtain ⟨y, hy, he⟩ := m.stepFeed hr
  unfold State.engageFeed
  rw [hf]
  have hc : ∀ x : FeedRender, x.cutShort.silenceOrder = x.silenceOrder ∧ x.cutShort.standby = x.standby := by
    intro x
    unfold FeedRender.cutShort
    cases x.transition with
    | none => exact ⟨rfl, rfl⟩
    | some v => cases hk : v.kind <;> cases hs : x.source <;> simp [FeedRender.complete, hk, hs]
  have hc := hc (s.renderOf f)
  cases ha : (s.feed f).overrideAction with
  | keep => exact ⟨y, by simpa using hy, by simpa using he⟩
  | switch =>
    refine ⟨(s.renderOf f).engage true, ?_, by simp [setRender_touched, hr]⟩
    simp only [reduceCtorEq, if_false]
    constructor <;> intros <;>
      simp_all [FeedRender.engage, FeedRender.leaveNormal, FeedRender.dropQuietly, FeedRender.beginFade, FeedRender.begin,
        Config.fadeBlocks] <;> grind
  | silence =>
    refine ⟨(s.renderOf f).engage false, ?_, by simp [setRender_touched, hr]⟩
    simp only [reduceCtorEq, if_false]
    constructor <;> intros <;>
      simp_all [FeedRender.engage, FeedRender.leaveNormal, FeedRender.dropQuietly, FeedRender.beginFade, FeedRender.begin,
        Config.fadeBlocks] <;> grind

/-- What the disengagement does to a feed on STANDBY or MUTE (R141). -/
theorem Midway.returned {s u : State} (m : Midway s u) {f : FeedNo}
    (hn : (s.renderOf f).source ≠ .normal) :
    ∃ y, Returned s f y ∧
      (((u.setRender f ({ s.renderOf f with transition := none }).dropQuietly).testTake f).1.setRender f
        ((((u.setRender f ({ s.renderOf f with transition := none }).dropQuietly).testTake f).1.renderOf f).return
          (s.renderOf f).outputAtBoundary
          ((u.setRender f ({ s.renderOf f with transition := none }).dropQuietly).testTake f).2)) =
        u.touched f (s.takeDue f || s.returnTakeDue f) y := by
  rw [setRender_touched u]
  generalize hq : ({ s.renderOf f with transition := none } : FeedRender).dropQuietly = x0
  have mv := m.touched f false x0
  have ht := mv.takeable f
  have hv : (u.touched f false x0).renderOf f = x0 := touched_same _ _ _ _
  have hst := mv.stops .take (.feed f)
  have h0 : s.takeDue f = false := by simp [takeDue, hn]
  have hx0 : x0 = { s.renderOf f with silenceOrder := false, active := s.returnActive f, transition := none } := by
    rw [← hq]
    unfold FeedRender.dropQuietly returnActive
    cases hs : (s.renderOf f).silenceOrder <;> simp [hs]
  have p1 : x0.pending = (s.renderOf f).pending := by rw [hx0]
  have p2 : x0.takeStopped = (s.renderOf f).takeStopped := by rw [hx0]
  rw [hv, p1, p2] at ht
  cases ha : (u.touched f false x0).takeable f with
  | none =>
    have hd : s.returnTakeDue f = false := by rw [ha] at ht; simp_all [returnTakeDue]; grind
    rw [testTake_undue ha, hv]
    refine ⟨x0.return (s.renderOf f).outputAtBoundary none, ?_, by rw [setRender_touched, touched_touched, h0, hd]; rfl⟩
    clear hq ht ha mv hv hst
    subst hx0
    constructor <;> intros <;> cases h3 : (s.renderOf f).source <;>
      simp_all [FeedRender.return, backToNormal, FeedRender.beginFade, FeedRender.begin, Config.fadeBlocks] <;>
      (split <;> simp_all)
  | some p =>
    have hd : s.returnTakeDue f = true := by rw [ha] at ht; simp_all [returnTakeDue]; grind
    have hp : (s.renderOf f).pending = some p := by rw [ha] at ht; grind
    have hk : (s.renderOf f).takeStopped = false := by rw [ha] at ht; grind
    cases hw : (u.touched f false x0).stops .take (.feed f)
    · rw [hw] at hst
      rw [testTake_taken ha hw]
      have hx : ((u.touched f false x0).watchTest .take (.feed f)).1.renderOf f = x0 := by
        refine Eq.trans ?_ hv
        simp only [renderOf, watchTest_render]
      rw [hx]
      refine ⟨x0.return (s.renderOf f).outputAtBoundary (some p), ?_, ?_⟩
      · clear hq ht ha mv hv hw hx
        subst hx0
        constructor <;> intros <;> cases h3 : (s.renderOf f).source <;>
          simp_all [FeedRender.return, backToNormal, FeedRender.beginFade, FeedRender.begin, Config.fadeBlocks]
      · rw [h0, hd]
        exact touched_touched u f true x0 _
    · rw [hw] at hst
      rw [testTake_stopped ha hw, hv, touched_same]
      refine ⟨({ x0 with takeStopped := true } : FeedRender).return (s.renderOf f).outputAtBoundary none, ?_, ?_⟩
      · clear hq ht ha mv hv hw
        subst hx0
        constructor <;> intros <;> cases h3 : (s.renderOf f).source <;>
          simp_all [FeedRender.return, backToNormal, FeedRender.beginFade, FeedRender.begin, Config.fadeBlocks] <;>
      (split <;> simp_all)
      · rw [h0, hd, touched_touched, touched_setRender]
        rfl

/-- What the disengagement does to a feed (R141). -/
theorem Midway.disengageFeed {s u : State} (m : Midway s u) {f : FeedNo} (hr : u.renderOf f = s.renderOf f) :
    ∃ y, (if (s.renderOf f).source = .normal then Stepped s f y else Returned s f y) ∧
      u.disengageFeed f = u.touched f (s.takeDue f || s.returnTakeDue f) y := by
  have hf : u.feed f = s.feed f := by unfold feed; rw [m.feeds]
  obtain ⟨y, hy, he⟩ := m.stepFeed hr
  unfold State.disengageFeed
  rw [hr]
  cases h3 : (s.renderOf f).source with
  | normal =>
    have : s.returnTakeDue f = false := by simp [returnTakeDue, h3]
    exact ⟨y, by simpa using hy, by simpa [this, h3] using he⟩
  | standby =>
    obtain ⟨y, hy, he⟩ := m.returned (f := f) (by simp [h3])
    exact ⟨y, by simpa using hy, by simpa only [h3] using he⟩
  | mute =>
    obtain ⟨y, hy, he⟩ := m.returned (f := f) (by simp [h3])
    exact ⟨y, by simpa using hy, by simpa only [h3] using he⟩

end State

end Sys2Proof.Machine
end

