-- ==== Sys2Proof/Laws/Bytes.lean ====
section
/-! SUPPORT. The bytes of an integer item, least significant first, of two's complement by division alone (R151, R153). -/

namespace Sys2Proof

theorem ofNat_eq_ofInt {n : Nat} {i : Int} (h : ((n : Int) - i) % 256 = 0) : BitVec.ofNat 8 n = BitVec.ofInt 8 i := by
  apply BitVec.eq_of_toNat_eq
  simp only [BitVec.toNat_ofNat, BitVec.toNat_ofInt]
  omega

theorem bytes2_le (n : Nat) : bytes2 n = [BitVec.ofInt 8 n, BitVec.ofInt 8 ((n : Int) / 256)] := by
  unfold bytes2
  rw [ofNat_eq_ofInt (i := n) (by omega), ofNat_eq_ofInt (i := (n : Int) / 256) (by omega)]

theorem bytes4_le (n : Nat) : bytes4 n = [BitVec.ofInt 8 n, BitVec.ofInt 8 ((n : Int) / 256),
    BitVec.ofInt 8 ((n : Int) / 65536), BitVec.ofInt 8 ((n : Int) / 16777216)] := by
  unfold bytes4
  rw [bytes2_le, bytes2_le]
  push_cast
  rw [Int.ediv_ediv_of_nonneg (by omega)]
  rfl

theorem signed2_le (i : Int) : signed2 i = [BitVec.ofInt 8 i, BitVec.ofInt 8 (i / 256)] := by
  unfold signed2 bytes2 twos
  rw [ofNat_eq_ofInt (i := i) (by omega), ofNat_eq_ofInt (i := i / 256) (by omega)]

theorem signed4_le (i : Int) : signed4 i = [BitVec.ofInt 8 i, BitVec.ofInt 8 (i / 256), BitVec.ofInt 8 (i / 65536),
    BitVec.ofInt 8 (i / 16777216)] := by
  unfold signed4 bytes4 bytes2 twos
  rw [ofNat_eq_ofInt (i := i) (by omega), ofNat_eq_ofInt (i := i / 256) (by omega),
    ofNat_eq_ofInt (i := i / 65536) (by omega), ofNat_eq_ofInt (i := i / 16777216) (by omega)]
  rfl

end Sys2Proof
end

