-- ==== Sys2Proof/Laws/Chains.lean ====
section
/-! SUPPORT. Chains of leads: where no chain has more than four links, the chain above a feed, its depth and its height are
those of R11, whatever number of links they are followed for. -/

namespace Sys2Proof.Machine

section

variable {lead : FeedNo → Option FeedNo}

theorem chainAbove_of_root {f : FeedNo} (h : lead f = none) (m : Nat) : chainAbove lead m f = [] := by
  cases m <;> simp [chainAbove, h]

theorem chainAbove_of_lead {f l : FeedNo} (h : lead f = some l) (m : Nat) :
    chainAbove lead (m + 1) f = l :: chainAbove lead m l := by
  simp [chainAbove, h]

/-- A chain of at most `n` links is the same however far it is followed beyond them. -/
theorem chainAbove_stable {n : Nat} {f : FeedNo} (h : (chainAbove lead (n + 1) f).length ≤ n) {m : Nat} (hm : n ≤ m) :
    chainAbove lead m f = chainAbove lead n f := by
  induction n generalizing f m with
  | zero =>
    cases e : lead f with
    | none => rw [chainAbove_of_root e, chainAbove_of_root e]
    | some l => simp [chainAbove_of_lead e] at h
  | succ n ih =>
    cases e : lead f with
    | none => rw [chainAbove_of_root e, chainAbove_of_root e]
    | some l =>
      obtain ⟨m, rfl⟩ : ∃ k, m = k + 1 := ⟨m - 1, by omega⟩
      rw [chainAbove_of_lead e] at h
      rw [chainAbove_of_lead e, chainAbove_of_lead e, ih (by simpa using h) (by omega)]

theorem mem_followersOf {f g : FeedNo} : g ∈ followersOf lead f ↔ lead g = some f := by
  simp [followersOf, allFeeds]

/-! ### The greatest of a list of numbers -/

theorem le_foldl_max {α : Type} (F : α → Nat) (l : List α) (b : Nat) :
    b ≤ l.foldl (fun h g => max h (F g)) b ∧ ∀ g ∈ l, F g ≤ l.foldl (fun h g => max h (F g)) b := by
  induction l generalizing b with
  | nil => simp
  | cons a l ih =>
    have h := ih (max b (F a))
    refine ⟨le_trans (le_max_left ..) h.1, fun g hg => ?_⟩
    rcases List.mem_cons.mp hg with rfl | hg
    · exact le_trans (le_max_right ..) h.1
    · exact h.2 g hg

theorem foldl_max_reached {α : Type} (F : α → Nat) (l : List α) (b : Nat) :
    l.foldl (fun h g => max h (F g)) b = b ∨ ∃ g ∈ l, l.foldl (fun h g => max h (F g)) b = F g := by
  induction l generalizing b with
  | nil => simp
  | cons a l ih =>
    rcases ih (max b (F a)) with h | ⟨g, hg, h⟩
    · rcases max_choice b (F a) with hm | hm
      · exact Or.inl (h.trans hm)
      · exact Or.inr ⟨a, by simp, h.trans hm⟩
    · exact Or.inr ⟨g, by simp [hg], h⟩

theorem foldl_max_le {α : Type} (F : α → Nat) (l : List α) (n : Nat) (h : ∀ g ∈ l, F g ≤ n) :
    l.foldl (fun h g => max h (F g)) 0 ≤ n := by
  rcases foldl_max_reached F l 0 with e | ⟨g, hg, e⟩
  · omega
  · rw [e]
    exact h g hg

end

/-! ### Depth and height where no chain has more than four links -/

namespace State

variable {s : State} (sound : ∀ f, (chainAbove s.leadOf 5 f).length ≤ 4)

include sound

theorem chainAbove_any {m : Nat} (hm : 4 ≤ m) (f : FeedNo) : chainAbove s.leadOf m f = chainAbove s.leadOf 4 f :=
  chainAbove_stable (sound f) hm

/-- The chain above a feed is its lead and the chain above that (R11). -/
theorem chainAbove_lead {f l : FeedNo} (h : (s.feed f).lead = some l) :
    chainAbove s.leadOf 96 f = l :: chainAbove s.leadOf 96 l := by
  rw [chainAbove_of_lead (lead := s.leadOf) h, chainAbove_any sound (by omega), chainAbove_any sound (m := 96) (by omega)]

theorem depth_lead {f l : FeedNo} (h : (s.feed f).lead = some l) : s.depth f = s.depth l + 1 := by
  unfold depth
  rw [chainAbove_lead sound h, List.length_cons]

theorem depth_le (f : FeedNo) : s.depth f ≤ 4 := by
  unfold depth
  rw [chainAbove_any sound (by omega), ← chainAbove_any sound (m := 5) (by omega)]
  exact sound f

/-- The feeds on the chain above a feed are those that its lead links reach (R13). -/
theorem mem_chainAbove_iff (f l : FeedNo) :
    f ∈ chainAbove s.leadOf 96 l ↔ Relation.TransGen (fun a b => (s.feed a).lead = some b) l f := by
  constructor
  · have h : ∀ m l, f ∈ chainAbove s.leadOf m l → Relation.TransGen (fun a b => (s.feed a).lead = some b) l f := by
      intro m
      induction m with
      | zero => simp [chainAbove]
      | succ m ih =>
        intro l hf
        cases e : s.leadOf l with
        | none => simp [chainAbove_of_root e] at hf
        | some g =>
          rw [chainAbove_of_lead e] at hf
          rcases List.mem_cons.mp hf with rfl | hf
          · exact .single e
          · exact .head e (ih g hf)
    exact h 96 l
  · intro h
    induction h using Relation.TransGen.head_induction_on with
    | single h => simp [chainAbove_lead sound h]
    | head h _ ih => rw [chainAbove_lead sound h]; exact List.mem_cons_of_mem _ ih

theorem depth_add_heightWithin (m : Nat) (f : FeedNo) : s.depth f + heightWithin s.leadOf m f ≤ 4 := by
  induction m generalizing f with
  | zero => simpa [heightWithin] using depth_le sound f
  | succ m ih =>
    have h : heightWithin s.leadOf (m + 1) f ≤ 4 - s.depth f := by
      refine foldl_max_le _ _ _ fun g hg => ?_
      have hd := depth_lead sound (mem_followersOf.mp hg)
      have := ih g
      omega
    have := depth_le sound f
    omega

theorem heightWithin_stable (m : Nat) (f : FeedNo) (hm : 4 ≤ s.depth f + m) :
    heightWithin s.leadOf (m + 1) f = heightWithin s.leadOf m f := by
  induction m generalizing f with
  | zero =>
    have := depth_add_heightWithin sound 1 f
    simp only [heightWithin] at this ⊢
    omega
  | succ m ih =>
    rw [heightWithin, heightWithin]
    refine List.foldl_ext _ _ _ fun h g hg => ?_
    have hd := depth_lead sound (mem_followersOf.mp hg)
    rw [ih g (by omega)]

/-- The height of a feed is one more than the greatest among its followers (R11). -/
theorem height_eq (f : FeedNo) :
    s.height f = (followersOf s.leadOf f).foldl (fun h g => max h (s.height g + 1)) 0 := by
  rw [height, heightWithin]
  refine List.foldl_ext _ _ _ fun h g _ => ?_
  rw [height, heightWithin_stable sound 95 g (by omega)]

theorem height_of_follower {f g : FeedNo} (h : (s.feed g).lead = some f) : s.height g + 1 ≤ s.height f := by
  rw [height_eq sound f]
  exact (le_foldl_max (fun g => s.height g + 1) _ _).2 g (mem_followersOf (lead := s.leadOf).mpr h)

theorem height_reached {f g : FeedNo} (h : (s.feed g).lead = some f) :
    ∃ g, (s.feed g).lead = some f ∧ s.height f = s.height g + 1 := by
  rcases foldl_max_reached (fun g => s.height g + 1) (followersOf s.leadOf f) 0 with e | ⟨g', hg, e⟩
  · have := height_of_follower sound h
    rw [height_eq sound f] at this
    omega
  · exact ⟨g', mem_followersOf.mp hg, (height_eq sound f).trans e⟩

theorem height_of_none {f : FeedNo} (h : ∀ g, (s.feed g).lead ≠ some f) : s.height f = 0 := by
  have e : followersOf s.leadOf f = [] := List.eq_nil_iff_forall_not_mem.mpr fun g hg => h g (mem_followersOf.mp hg)
  rw [height_eq sound f, e]
  rfl

theorem depth_add_height (f : FeedNo) : s.depth f + s.height f ≤ 4 := depth_add_heightWithin sound 96 f

end State

end Sys2Proof.Machine
end

