-- ==== Sys2Proof/Laws/Counts.lean ====
section
/-! SUPPORT. What counting, freeing and dropping a reference do to the handles (R33, R34). -/

namespace Sys2Proof.Machine.State

variable (s : State)

theorem handle_raiseCount (h : HandleIx) :
    (s.raiseCount h).handle h = { s.handle h with refCount := (s.handle h).refCount + 1 } :=
  handle_setHandle s h _

theorem handle_raiseCount_other {h j : HandleIx} (other : j ≠ h) : (s.raiseCount h).handle j = s.handle j :=
  handle_setHandle_other s _ other

theorem handle_lowerCount (h : HandleIx) :
    (s.lowerCount h).handle h = { s.handle h with refCount := (s.handle h).refCount - 1 } :=
  handle_setHandle s h _

theorem handle_lowerCount_other {h j : HandleIx} (other : j ≠ h) : (s.lowerCount h).handle j = s.handle j :=
  handle_setHandle_other s _ other

theorem handle_freeOne (h : HandleIx) :
    (s.freeOne h).handle h = ⟨.free, (s.handle h).gen + 1, none, 0, false, none⟩ :=
  Table.get_upd_same s.handles h _

theorem handle_freeOne_other {h j : HandleIx} (other : j ≠ h) : (s.freeOne h).handle j = s.handle j :=
  Table.get_upd_other s.handles _ other

theorem exhausted_iff (e : HandleEntry) : e.exhausted = true ↔ e.state = .retiring ∧ e.refCount = 0 := by
  simp [HandleEntry.exhausted]

/-- A count that falls and leaves the handle: it is not RETIRING, or other references stand. -/
theorem dropReference_of_stays {h : HandleIx}
    (stays : (s.handle h).state ≠ .retiring ∨ 2 ≤ (s.handle h).refCount) : s.dropReference h = s.lowerCount h := by
  unfold dropReference
  dsimp only
  rw [if_neg]
  rw [handle_lowerCount, exhausted_iff]
  rintro ⟨retiring, zero⟩
  rcases stays with live | many
  · exact live retiring
  · dsimp only at zero
    omega

/-- The last reference to a RETIRING handle frees it. -/
theorem dropReference_of_last {h : HandleIx} (retiring : (s.handle h).state = .retiring)
    (last : (s.handle h).refCount ≤ 1) : s.dropReference h = (s.lowerCount h).freeHandle h := by
  unfold dropReference
  dsimp only
  rw [if_pos]
  rw [handle_lowerCount, exhausted_iff]
  exact ⟨retiring, by dsimp only; omega⟩

theorem dropBase_of_stays {b : HandleIx}
    (stays : (s.handle b).state ≠ .retiring ∨ 2 ≤ (s.handle b).refCount) : s.dropBase b = s.lowerCount b := by
  unfold dropBase
  dsimp only
  rw [if_neg]
  rw [handle_lowerCount, exhausted_iff]
  rintro ⟨retiring, zero⟩
  rcases stays with live | many
  · exact live retiring
  · dsimp only at zero
    omega

theorem dropBase_of_last {b : HandleIx} (retiring : (s.handle b).state = .retiring)
    (last : (s.handle b).refCount ≤ 1) : s.dropBase b = (s.lowerCount b).freeOne b := by
  unfold dropBase
  dsimp only
  rw [if_pos]
  rw [handle_lowerCount, exhausted_iff]
  exact ⟨retiring, by dsimp only; omega⟩

/-! ### Only the handles and the pool change -/

theorem dropBase_frame (b : HandleIx) : ∃ handles pool, s.dropBase b = { s with handles := handles, pool := pool } := by
  unfold dropBase
  dsimp only
  split
  · exact ⟨_, _, rfl⟩
  · exact ⟨_, s.pool, rfl⟩

theorem freeHandle_frame (h : HandleIx) :
    ∃ handles pool, s.freeHandle h = { s with handles := handles, pool := pool } := by
  unfold freeHandle
  dsimp only
  split
  · rename_i b _
    obtain ⟨handles, pool, eq⟩ := dropBase_frame (s.freeOne h) b.ix
    rw [eq]
    exact ⟨_, _, rfl⟩
  · exact ⟨_, _, rfl⟩

theorem dropReference_frame (h : HandleIx) :
    ∃ handles pool, s.dropReference h = { s with handles := handles, pool := pool } := by
  unfold dropReference
  dsimp only
  split
  · obtain ⟨handles, pool, eq⟩ := freeHandle_frame (s.lowerCount h) h
    rw [eq]
    exact ⟨_, _, rfl⟩
  · exact ⟨_, s.pool, rfl⟩

theorem replaceReference_frame (old : Option Handle) (new : HandleIx) :
    ∃ handles pool, s.replaceReference old new = { s with handles := handles, pool := pool } := by
  unfold replaceReference
  cases old with
  | none => exact ⟨_, s.pool, rfl⟩
  | some b =>
    obtain ⟨handles, pool, eq⟩ := dropReference_frame (s.raiseCount new) b.ix
    unfold dropOptional
    dsimp only
    rw [eq]
    exact ⟨_, _, rfl⟩

end Sys2Proof.Machine.State
end

