-- ==== Sys2Proof/Laws/Freeing.lean ====
section
/-! SUPPORT. What the freeing of a handle does, with the cascade to its base (R34, R62). -/

namespace Sys2Proof.Machine

namespace State

theorem freeOne_handle (s : State) (h g : HandleIx) : (s.freeOne h).handle g =
    if g = h then ⟨.free, (s.handle h).gen + 1, none, 0, false, none⟩ else s.handle g := by
  simp [freeOne, handle, Table.get_upd]

theorem lowerCount_handle (s : State) (h g : HandleIx) : (s.lowerCount h).handle g =
    if g = h then { s.handle h with refCount := (s.handle h).refCount - 1 } else s.handle g := by
  simp [lowerCount, setHandle, handle, Table.get_upd]

/-- A base loses a reference: it is freed when it is RETIRING and that was the last, else it stays (R33, R34). -/
theorem dropBase_eq (s : State) (b : HandleIx) : s.dropBase b =
    if (s.handle b).state = .retiring ∧ (s.handle b).refCount ≤ 1 then (s.lowerCount b).freeOne b else s.lowerCount b := by
  have hx : ((s.lowerCount b).handle b).exhausted =
      decide ((s.handle b).state = .retiring ∧ (s.handle b).refCount ≤ 1) := by
    rw [lowerCount_handle, if_pos rfl]
    by_cases a : (s.handle b).state = .retiring
    · simp [HandleEntry.exhausted, a]
      omega
    · simp [HandleEntry.exhausted, a]
  simp only [dropBase, hx, decide_eq_true_eq]

/-- Freeing a handle that is not its own base (R34, R62). -/
theorem freeHandle_freed (s : State) (h : HandleIx) (hb : ∀ b, s.baseOf h = some b → b.ix ≠ h) :
    HandleFreed s (s.freeHandle h) h := by
  unfold freeHandle
  cases e : s.baseOf h with
  | none =>
    have hw : s.freedWith h = [h] := by simp [freedWith, e]
    refine ⟨?_, fun b hb' => by simp [e] at hb', ?_, ?_, rfl⟩
    · intro g hg
      rw [hw, List.mem_singleton] at hg
      subst hg
      simp [freeOne_handle]
    · intro g hg _
      rw [hw, List.mem_singleton] at hg
      simp [freeOne_handle, hg]
    · rw [hw]
      simp [freeOne, giveBackOptional] <;> rfl
  | some b =>
    have hne := hb b e
    have hbase : (s.freeOne h).handle b.ix = s.handle b.ix := by rw [freeOne_handle, if_neg hne]
    simp only [dropBase_eq, hbase]
    by_cases hc : (s.handle b.ix).state = .retiring ∧ (s.handle b.ix).refCount ≤ 1
    · have hw : s.freedWith h = [h, b.ix] := by simp [freedWith, e, hc]
      rw [if_pos hc]
      refine ⟨?_, ?_, ?_, ?_, rfl⟩
      · intro g hg
        rw [hw] at hg
        rcases List.mem_pair.mp hg with rfl | rfl
        · simp [freeOne_handle, lowerCount_handle, Ne.symm hne]
        · simp [freeOne_handle, lowerCount_handle, hne]
      · intro b' hb' hn
        cases e.symm.trans hb'
        simp [hw] at hn
      · intro g hg _
        simp only [hw, List.mem_cons, List.not_mem_nil, or_false, not_or] at hg
        simp [freeOne_handle, lowerCount_handle, hg]
      · rw [hw]
        simp [freeOne, handle, Table.get_upd, lowerCount, setHandle, hne, giveBackOptional]
        grind
    · have hw : s.freedWith h = [h] := by simp [freedWith, e, hc]
      rw [if_neg hc]
      refine ⟨?_, ?_, ?_, ?_, rfl⟩
      · intro g hg
        rw [hw, List.mem_singleton] at hg
        subst hg
        simp [freeOne_handle, lowerCount_handle, Ne.symm hne]
      · intro b' hb' _
        cases e.symm.trans hb'
        simp [freeOne_handle, lowerCount_handle, hne]
      · intro g hg hg'
        rw [hw, List.mem_singleton] at hg
        simp [freeOne_handle, lowerCount_handle, hg, Ne.symm (hg' b e)]
      · rw [hw]
        simp [freeOne, handle, lowerCount, setHandle, giveBackOptional]
        grind

end State

end Sys2Proof.Machine
end

