-- ==== Sys2Proof/Laws/PerInstr.lean ====
section
/-! SUPPORT. Per command: the body of a well-formed request fits a frame, and its code one byte (R151, R154). -/

namespace Sys2Proof.Laws

@[simp] theorem length_byte1 (n : Nat) : (byte1 n).length = 1 := rfl

@[simp] theorem length_bytes2 (n : Nat) : (bytes2 n).length = 2 := rfl

@[simp] theorem length_bytes4 (n : Nat) : (bytes4 n).length = 4 := rfl

@[simp] theorem length_signed2 (i : Int) : (signed2 i).length = 2 := rfl

@[simp] theorem length_signed4 (i : Int) : (signed4 i).length = 4 := rfl

@[simp] theorem length_ref (r : RecordRef) : r.bytes.length = 4 := by cases r <;> rfl

@[simp] theorem length_section (e : EqSection) : e.bytes.length = 8 := rfl

@[simp] theorem length_sections (es : List EqSection) : (sectionsBytes es).length = 8 * es.length := by
  induction es with
  | nil => rfl
  | cons e es ih => simp [sectionsBytes, ih]; omega

@[simp] theorem length_optHandle (h : Option RawHandle) : (optHandleBytes h).length = 2 := by cases h <;> rfl

@[simp] theorem length_optTrim (t : Option Int) : (optTrimBytes t).length = 2 := by cases t <;> rfl

@[simp] theorem length_changes (cs : List PolicyChange) : (changesBytes cs).length = 3 * cs.length := by
  induction cs with
  | nil => rfl
  | cons c cs ih => simp [changesBytes, ih]; omega

theorem length_optBytes {α : Type} (f : α → List Byte) (k : Nat) (h : ∀ a, (f a).length ≤ k) (x : Option α) :
    (optBytes f x).length ≤ k := by
  cases x with
  | none => exact Nat.zero_le _
  | some a => exact h a

namespace BodyFits

/-- The body of the request is at most the 1,024 bytes of R151, and its code one byte. -/
def Statement (i : Instr) : Prop :=
  i.wellFormed = true → ∀ code tag body, encodeRequest i = some (code, tag, body) →
    code < 256 ∧ body.length ≤ 1024

/-- A command that no request body carries. -/
theorem of_none {i : Instr} (h : encodeRequest i = none) : Statement i := by
  intro _ code tag body hb
  rw [h] at hb
  exact absurd hb (by simp)

/-- A command with this code and body, whatever its tag. -/
theorem of_some {i : Instr} {c : Nat} {t : Byte} {b : List Byte} (h : encodeRequest i = some (c, t, b))
    (hc : c < 256) (hb : i.wellFormed = true → b.length ≤ 1024) : Statement i := by
  intro hw code tag body he
  rw [h] at he
  simp only [Option.some.injEq, Prod.mk.injEq] at he
  obtain ⟨rfl, _, rfl⟩ := he
  exact ⟨hc, hb hw⟩

theorem coldStart : Statement .coldStart := of_none rfl

theorem coldStartEnd (startup : StartupPin) : Statement (.coldStartEnd startup) := of_none rfl

theorem alarmAssertion : Statement .alarmAssertion := of_none rfl

theorem alarmDeassertion : Statement .alarmDeassertion := of_none rfl

theorem transactionBegin : Statement .transactionBegin := of_none rfl

theorem discardedRequest : Statement .discardedRequest := of_none rfl

theorem badFrame (tag : Byte) (reason : FrameReason) : Statement (.badFrame tag reason) := of_none rfl

theorem badCommand (tag : Byte) : Statement (.badCommand tag) := of_none rfl

theorem nop (r : Request Unit) : Statement (.nop r) := by
  obtain ⟨t, _ | x⟩ := r
  · exact of_none rfl
  · exact of_some rfl (by decide) (fun _ => Nat.zero_le _)

theorem status (r : Request Unit) : Statement (.status r) := by
  obtain ⟨t, _ | x⟩ := r
  · exact of_none rfl
  · exact of_some rfl (by decide) (fun _ => Nat.zero_le _)

theorem look (r : Request LookItems) : Statement (.look r) := by
  obtain ⟨t, _ | x⟩ := r
  · exact of_none rfl
  · refine of_some rfl (by decide) ?_
    intro _
    simp

theorem set (r : Request SetItems) : Statement (.set r) := by
  obtain ⟨t, _ | x⟩ := r
  · exact of_none rfl
  · refine of_some rfl (by decide) ?_
    intro _
    simp

theorem find (r : Request FindItems) : Statement (.find r) := by
  obtain ⟨t, _ | x⟩ := r
  · exact of_none rfl
  · refine of_some rfl (by decide) ?_
    intro _
    simp

theorem createProfile (r : Request ProfileContent) : Statement (.createProfile r) := by
  obtain ⟨t, _ | x⟩ := r
  · exact of_none rfl
  · refine of_some rfl (by decide) ?_
    intro hw
    simp only [Instr.wellFormed, Request.wellFormed, fitsOpt, ProfileContent.wellFormed, sectionsWellFormed,
      Bool.and_eq_true, decide_eq_true_eq] at hw
    simp [ProfileContent.bytes]
    omega

theorem clone (r : Request RecordRef) : Statement (.clone r) := by
  obtain ⟨t, _ | x⟩ := r
  · exact of_none rfl
  · refine of_some rfl (by decide) ?_
    intro _
    simp

theorem editSections (r : Request EditSectionsItems) : Statement (.editSections r) := by
  obtain ⟨t, _ | x⟩ := r
  · exact of_none rfl
  · refine of_some rfl (by decide) ?_
    intro hw
    simp only [Instr.wellFormed, Request.wellFormed, fitsOpt, sectionsWellFormed, Bool.and_eq_true,
      decide_eq_true_eq] at hw
    simp
    omega

theorem base (r : Request BaseItems) : Statement (.base r) := by
  obtain ⟨t, _ | x⟩ := r
  · exact of_none rfl
  · refine of_some rfl (by decide) ?_
    intro _
    simp

theorem retire (r : Request RecordRef) : Statement (.retire r) := by
  obtain ⟨t, _ | x⟩ := r
  · exact of_none rfl
  · refine of_some rfl (by decide) ?_
    intro _
    simp

theorem revive (r : Request RecordRef) : Statement (.revive r) := by
  obtain ⟨t, _ | x⟩ := r
  · exact of_none rfl
  · refine of_some rfl (by decide) ?_
    intro _
    simp

theorem bind (r : Request BindItems) : Statement (.bind r) := by
  obtain ⟨t, _ | x⟩ := r
  · exact of_none rfl
  · refine of_some rfl (by decide) ?_
    intro _
    simp

theorem unbind (r : Request RecordRef) : Statement (.unbind r) := by
  obtain ⟨t, _ | x⟩ := r
  · exact of_none rfl
  · refine of_some rfl (by decide) ?_
    intro _
    simp

theorem bindOverride (r : Request BindItems) : Statement (.bindOverride r) := by
  obtain ⟨t, _ | x⟩ := r
  · exact of_none rfl
  · refine of_some rfl (by decide) ?_
    intro _
    simp

theorem unbindOverride (r : Request RecordRef) : Statement (.unbindOverride r) := by
  obtain ⟨t, _ | x⟩ := r
  · exact of_none rfl
  · refine of_some rfl (by decide) ?_
    intro _
    simp

theorem lead (r : Request LeadItems) : Statement (.lead r) := by
  obtain ⟨t, _ | x⟩ := r
  · exact of_none rfl
  · refine of_some rfl (by decide) ?_
    intro _
    simp

theorem clearFeed (r : Request RecordRef) : Statement (.clearFeed r) := by
  obtain ⟨t, _ | x⟩ := r
  · exact of_none rfl
  · refine of_some rfl (by decide) ?_
    intro _
    simp

theorem hold (r : Request SectorSet) : Statement (.hold r) := by
  obtain ⟨t, _ | x⟩ := r
  · exact of_none rfl
  · refine of_some rfl (by decide) ?_
    intro _
    simp

theorem release (r : Request SectorSet) : Statement (.release r) := by
  obtain ⟨t, _ | x⟩ := r
  · exact of_none rfl
  · refine of_some rfl (by decide) ?_
    intro _
    simp

theorem engage (r : Request Unit) : Statement (.engage r) := by
  obtain ⟨t, _ | x⟩ := r
  · exact of_none rfl
  · exact of_some rfl (by decide) (fun _ => Nat.zero_le _)

theorem disengage (r : Request Unit) : Statement (.disengage r) := by
  obtain ⟨t, _ | x⟩ := r
  · exact of_none rfl
  · exact of_some rfl (by decide) (fun _ => Nat.zero_le _)

theorem compactStart (r : Request Unit) : Statement (.compactStart r) := by
  obtain ⟨t, _ | x⟩ := r
  · exact of_none rfl
  · exact of_some rfl (by decide) (fun _ => Nat.zero_le _)

theorem compactStop (r : Request Unit) : Statement (.compactStop r) := by
  obtain ⟨t, _ | x⟩ := r
  · exact of_none rfl
  · exact of_some rfl (by decide) (fun _ => Nat.zero_le _)

theorem rebuildDependencies (r : Request Unit) : Statement (.rebuildDependencies r) := by
  obtain ⟨t, _ | x⟩ := r
  · exact of_none rfl
  · exact of_some rfl (by decide) (fun _ => Nat.zero_le _)

theorem save (r : Request Unit) : Statement (.save r) := by
  obtain ⟨t, _ | x⟩ := r
  · exact of_none rfl
  · exact of_some rfl (by decide) (fun _ => Nat.zero_le _)

theorem load (r : Request Unit) : Statement (.load r) := by
  obtain ⟨t, _ | x⟩ := r
  · exact of_none rfl
  · exact of_some rfl (by decide) (fun _ => Nat.zero_le _)

theorem watchSet (r : Request WatchSetItems) : Statement (.watchSet r) := by
  obtain ⟨t, _ | x⟩ := r
  · exact of_none rfl
  · refine of_some rfl (by decide) ?_
    intro _
    simp [WatchConfig.bytes]

theorem watchClear (r : Request Nat) : Statement (.watchClear r) := by
  obtain ⟨t, _ | x⟩ := r
  · exact of_none rfl
  · refine of_some rfl (by decide) ?_
    intro _
    simp

theorem readWatch (r : Request Nat) : Statement (.readWatch r) := by
  obtain ⟨t, _ | x⟩ := r
  · exact of_none rfl
  · refine of_some rfl (by decide) ?_
    intro _
    simp

theorem sensorSet (r : Request SensorSetItems) : Statement (.sensorSet r) := by
  obtain ⟨t, _ | x⟩ := r
  · exact of_none rfl
  · refine of_some rfl (by decide) ?_
    intro _
    have h1 := length_optBytes (fun b => byte1 (yesNoCode b)) 1 (fun _ => Nat.le_refl 1) x.enabled
    have h2 := length_optBytes (fun a : AnalogInput => byte1 a.code) 1 (fun _ => Nat.le_refl 1) x.positive
    have h3 := length_optBytes (fun a : AnalogInput => byte1 a.code) 1 (fun _ => Nat.le_refl 1) x.negative
    have h4 := length_optBytes byte1 1 (fun _ => Nat.le_refl 1) x.gain
    have h5 := length_optBytes signed2 2 (fun _ => Nat.le_refl 2) x.offsetTrim
    have h6 := length_optBytes (fun p : ProbeKind => byte1 p.code) 1 (fun _ => Nat.le_refl 1) x.probe
    have h7 := length_optBytes byte1 1 (fun _ => Nat.le_refl 1) x.interval
    have h8 := length_optBytes (fun n : Option Nat => byte1 (n.getD 255)) 1 (fun _ => Nat.le_refl 1) x.sector
    simp only [SensorSetItems.bytes, List.length_append, length_ref, length_bytes2]
    omega

theorem sectorSet (r : Request SectorSetItems) : Statement (.sectorSet r) := by
  obtain ⟨t, _ | x⟩ := r
  · exact of_none rfl
  · refine of_some rfl (by decide) ?_
    intro _
    have h1 := length_optBytes byte1 1 (fun _ => Nat.le_refl 1) x.stand
    have h2 := length_optBytes (fun m : SectorMode => byte1 m.code) 1 (fun _ => Nat.le_refl 1) x.mode
    have h3 := length_optBytes signed2 2 (fun _ => Nat.le_refl 2) x.fixedTemp
    have h4 := length_optBytes byte1 1 (fun _ => Nat.le_refl 1) x.hysteresis
    have h5 := length_optBytes bytes2 2 (fun _ => Nat.le_refl 2) x.settle
    have h6 := length_optBytes bytes2 2 (fun _ => Nat.le_refl 2) x.glide
    simp only [SectorSetItems.bytes, List.length_append, length_ref, length_bytes2]
    omega

theorem policySet (r : Request (List PolicyChange)) : Statement (.policySet r) := by
  obtain ⟨t, _ | x⟩ := r
  · exact of_none rfl
  · refine of_some rfl (by decide) ?_
    intro hw
    simp only [Instr.wellFormed, Request.wellFormed, fitsOpt, policyChangesWellFormed, decide_eq_true_eq] at hw
    simp
    omega

theorem crossStandSet (r : Request (Option PolicyOutcome)) : Statement (.crossStandSet r) := by
  obtain ⟨t, _ | x⟩ := r
  · exact of_none rfl
  · refine of_some rfl (by decide) ?_
    intro _
    have h := length_optBytes (fun o : PolicyOutcome => byte1 o.code) 1 (fun _ => Nat.le_refl 1) x
    omega

theorem readNotices (r : Request Unit) : Statement (.readNotices r) := by
  obtain ⟨t, _ | x⟩ := r
  · exact of_none rfl
  · exact of_some rfl (by decide) (fun _ => Nat.zero_le _)

theorem clearNotices (r : Request NoticeSet) : Statement (.clearNotices r) := by
  obtain ⟨t, _ | x⟩ := r
  · exact of_none rfl
  · refine of_some rfl (by decide) ?_
    intro _
    simp

theorem noticeMask (r : Request (Option NoticeSet)) : Statement (.noticeMask r) := by
  obtain ⟨t, _ | x⟩ := r
  · exact of_none rfl
  · refine of_some rfl (by decide) ?_
    intro _
    have h := length_optBytes (fun k : NoticeSet => bytes2 k.toNat) 2 (fun _ => Nat.le_refl 2) x
    omega

theorem blockBoundary : Statement .blockBoundary := of_none rfl

theorem transitionComplete (feed : FeedNo) : Statement (.transitionComplete feed) := of_none rfl

theorem sinceChangeTick (sector : SectorNo) : Statement (.sinceChangeTick sector) := of_none rfl

theorem conversionStart (channel : ChannelNo) : Statement (.conversionStart channel) := of_none rfl

theorem readingComplete (channel : ChannelNo) (measured : Int) : Statement (.readingComplete channel measured) := of_none rfl

theorem resolutionStart : Statement .resolutionStart := of_none rfl

theorem resolutionComplete : Statement .resolutionComplete := of_none rfl

theorem moveComplete : Statement .moveComplete := of_none rfl

theorem deferredEdit : Statement .deferredEdit := of_none rfl

theorem saveComplete (readBack : SaveReadBack) : Statement (.saveComplete readBack) := of_none rfl

theorem loadReadComplete (answer : FlashAnswer) : Statement (.loadReadComplete answer) := of_none rfl

theorem heldLoadReplacement : Statement .heldLoadReplacement := of_none rfl

theorem startupWaitExpiry : Statement .startupWaitExpiry := of_none rfl

theorem replyPlacement : Statement .replyPlacement := of_none rfl

end BodyFits

end Sys2Proof.Laws
end

