-- ==== Sys2Proof/Laws/Pool.lean ====
section
/-! SUPPORT. The free extent list: its canonical form is kept by every operation on it, and what each operation does to
the words it covers (R51 to R55). -/

namespace Sys2Proof.Machine

/-- Word `w` is on the list. -/
def covered (free : List Extent) (w : Nat) : Prop := ∃ e ∈ free, e.holds w

@[simp] theorem covered_nil (w : Nat) : ¬ covered [] w := by simp [covered]

theorem covered_cons (e : Extent) (es : List Extent) (w : Nat) :
    covered (e :: es) w ↔ e.holds w ∨ covered es w := by simp [covered]

theorem freeListSound_nil : freeListSound [] := by simp [freeListSound]

theorem freeListSound_cons (e : Extent) (es : List Extent) :
    freeListSound (e :: es) ↔
      1 ≤ e.len ∧ (∀ x ∈ es, e.offset + e.len < x.offset) ∧ freeListSound es := by
  simp only [freeListSound, List.mem_cons, forall_eq_or_imp, List.pairwise_cons]
  tauto

/-- The list begins after `b`, with a gap. -/
def startsAfter (b : Nat) (free : List Extent) : Prop := ∀ e ∈ free, b < e.offset

theorem startsAfter.mono {b c : Nat} {free : List Extent} (h : startsAfter c free) (hb : b ≤ c) :
    startsAfter b free := fun e he => Nat.lt_of_le_of_lt hb (h e he)

/-- `x` shares no word with the list. -/
def apartFrom (x : Extent) (free : List Extent) : Prop :=
  ∀ e ∈ free, x.offset + x.len ≤ e.offset ∨ e.offset + e.len ≤ x.offset

theorem apartFrom_cons (x e : Extent) (es : List Extent) :
    apartFrom x (e :: es) ↔
      (x.offset + x.len ≤ e.offset ∨ e.offset + e.len ≤ x.offset) ∧ apartFrom x es := by
  simp [apartFrom]

/-- One step of the return (R52). -/
theorem giveBack_cons (x e : Extent) (es : List Extent) : giveBack x (e :: es) =
    if x.offset + x.len = e.offset then ⟨x.offset, x.len + e.len⟩ :: es
    else if x.offset < e.offset then x :: e :: es
    else if e.offset + e.len = x.offset then
      match es with
      | [] => [⟨e.offset, e.len + x.len⟩]
      | n :: ns =>
        if x.offset + x.len = n.offset then ⟨e.offset, e.len + x.len + n.len⟩ :: ns
        else ⟨e.offset, e.len + x.len⟩ :: n :: ns
    else e :: giveBack x es := by
  cases es <;> rfl

/-- Extents that end below the returned one are passed over (R52). -/
theorem giveBack_skip (x : Extent) (low rest : List Extent) (hx : 1 ≤ x.len)
    (h : ∀ e ∈ low, 1 ≤ e.len ∧ e.offset + e.len < x.offset) : giveBack x (low ++ rest) = low ++ giveBack x rest := by
  induction low with
  | nil => rfl
  | cons e es ih =>
    rw [List.forall_mem_cons] at h
    rw [List.cons_append, giveBack_cons, if_neg (by omega), if_neg (by omega), if_neg (by omega), ih h.2]
    rfl

/-- Extents that are too short are passed over (R53). -/
theorem firstFit_skip (n : Nat) (low rest : List Extent) (h : ∀ e ∈ low, e.len < n) :
    firstFit n (low ++ rest) = (firstFit n rest).map fun x => (x.1, low ++ x.2) := by
  induction low with
  | nil => simp
  | cons e es ih =>
    rw [List.forall_mem_cons] at h
    rw [List.cons_append, firstFit, if_neg (by omega), ih h.2, Option.map_map]
    rfl

/-- Extents that begin elsewhere are passed over (R55). -/
theorem takeAt_skip (offset k : Nat) (low rest : List Extent) (h : ∀ e ∈ low, e.offset ≠ offset) :
    takeAt offset k (low ++ rest) = (takeAt offset k rest).map fun x => low ++ x := by
  induction low with
  | nil => simp
  | cons e es ih =>
    rw [List.forall_mem_cons] at h
    rw [List.cons_append, takeAt, if_neg h.1, ih h.2, Option.map_map]
    rfl

/-- R52: the returned extent is inserted in address order and merged, so that the list keeps its form, begins no lower
than before or than the extent, and covers the words of both. -/
theorem giveBack_spec (x : Extent) (free : List Extent) (hx : 1 ≤ x.len) (hf : freeListSound free)
    (ha : apartFrom x free) :
    freeListSound (giveBack x free) ∧
    (∀ b, startsAfter b free → b < x.offset → startsAfter b (giveBack x free)) ∧
    ∀ w, covered (giveBack x free) w ↔ x.holds w ∨ covered free w := by
  induction free with
  | nil =>
    refine ⟨?_, ?_, ?_⟩
    · simp [giveBack, freeListSound_cons, freeListSound_nil, hx]
    · intro b _ hb e he
      simp only [giveBack, List.mem_singleton] at he
      rw [he]; exact hb
    · intro w
      simp [giveBack, covered_cons]
  | cons e es ih =>
    rw [freeListSound_cons] at hf
    obtain ⟨he, hes, hs⟩ := hf
    rw [apartFrom_cons] at ha
    obtain ⟨hae, has⟩ := ha
    unfold giveBack
    split_ifs with h1 h2 h3
    · refine ⟨?_, ?_, ?_⟩
      · rw [freeListSound_cons]
        refine ⟨by dsimp only; omega, fun y hy => ?_, hs⟩
        have := hes y hy
        dsimp only; omega
      · intro b hb hbx y hy
        rw [List.mem_cons] at hy
        rcases hy with hy | hy
        · rw [hy]; exact hbx
        · exact hb y (List.mem_cons_of_mem _ hy)
      · intro w
        simp only [covered_cons, Extent.holds]
        constructor
        · rintro (h | h)
          · by_cases hw : w < x.offset + x.len
            · exact Or.inl ⟨h.1, hw⟩
            · exact Or.inr (Or.inl ⟨by omega, by omega⟩)
          · exact Or.inr (Or.inr h)
        · rintro (h | h | h)
          · exact Or.inl ⟨by omega, by omega⟩
          · exact Or.inl ⟨by omega, by omega⟩
          · exact Or.inr h
    · refine ⟨?_, ?_, ?_⟩
      · rw [freeListSound_cons]
        refine ⟨hx, fun y hy => ?_, ?_⟩
        · rw [List.mem_cons] at hy
          rcases hy with hy | hy
          · rw [hy]; omega
          · have := hes y hy
            omega
        · rw [freeListSound_cons]; exact ⟨he, hes, hs⟩
      · intro b hb hbx y hy
        rw [List.mem_cons] at hy
        rcases hy with hy | hy
        · rw [hy]; exact hbx
        · exact hb y hy
      · intro w
        simp only [covered_cons]
    · cases es with
      | nil =>
        refine ⟨?_, ?_, ?_⟩
        · simp only [freeListSound_cons, freeListSound_nil, and_true]
          exact ⟨by omega, by simp⟩
        · intro b hb hbx y hy
          rw [List.mem_singleton] at hy
          rw [hy]; exact hb e (List.mem_cons_self)
        · intro w
          simp only [covered_cons, Extent.holds, covered_nil, or_false]
          omega
      | cons n ns =>
        have hn := hes n List.mem_cons_self
        rw [apartFrom_cons] at has
        rw [freeListSound_cons] at hs
        obtain ⟨hn1, hns, hs⟩ := hs
        dsimp only
        split_ifs with h4
        · refine ⟨?_, ?_, ?_⟩
          · rw [freeListSound_cons]
            refine ⟨by dsimp only; omega, fun y hy => ?_, hs⟩
            have := hns y hy
            dsimp only; omega
          · intro b hb hbx y hy
            rw [List.mem_cons] at hy
            rcases hy with hy | hy
            · rw [hy]; exact hb e List.mem_cons_self
            · exact hb y (by simp [hy])
          · intro w
            simp only [covered_cons, Extent.holds]
            constructor
            · rintro (h | h)
              · by_cases hw : w < e.offset + e.len
                · exact Or.inr (Or.inl ⟨h.1, hw⟩)
                · by_cases hw' : w < n.offset
                  · exact Or.inl ⟨by omega, by omega⟩
                  · exact Or.inr (Or.inr (Or.inl ⟨by omega, by omega⟩))
              · exact Or.inr (Or.inr (Or.inr h))
            · rintro (h | h | h | h)
              · exact Or.inl ⟨by omega, by omega⟩
              · exact Or.inl ⟨by omega, by omega⟩
              · exact Or.inl ⟨by omega, by omega⟩
              · exact Or.inr h
        · have hxn : x.offset + x.len < n.offset := by
            rcases has.1 with h | h <;> omega
          refine ⟨?_, ?_, ?_⟩
          · rw [freeListSound_cons]
            refine ⟨by dsimp only; omega, fun y hy => ?_, ?_⟩
            · rw [List.mem_cons] at hy
              rcases hy with hy | hy
              · rw [hy]; dsimp only; omega
              · have := hns y hy
                dsimp only; omega
            · rw [freeListSound_cons]; exact ⟨hn1, hns, hs⟩
          · intro b hb hbx y hy
            rw [List.mem_cons] at hy
            rcases hy with hy | hy
            · rw [hy]; exact hb e List.mem_cons_self
            · exact hb y (List.mem_cons_of_mem _ hy)
          · intro w
            simp only [covered_cons, Extent.holds]
            constructor
            · rintro (h | h)
              · by_cases hw : w < e.offset + e.len
                · exact Or.inr (Or.inl ⟨h.1, hw⟩)
                · exact Or.inl ⟨by omega, by omega⟩
              · exact Or.inr (Or.inr h)
            · rintro (h | h | h)
              · exact Or.inl ⟨by omega, by omega⟩
              · exact Or.inl ⟨by omega, by omega⟩
              · exact Or.inr h
    · obtain ⟨ih1, ih2, ih3⟩ := ih hs has
      refine ⟨?_, ?_, ?_⟩
      · rw [freeListSound_cons]
        exact ⟨he, fun y hy => ih2 (e.offset + e.len) (fun z hz => hes z hz) (by rcases hae with h | h <;> omega) y hy,
          ih1⟩
      · intro b hb hbx y hy
        rw [List.mem_cons] at hy
        rcases hy with hy | hy
        · rw [hy]; exact hb e List.mem_cons_self
        · exact ih2 b (fun z hz => hb z (List.mem_cons_of_mem _ hz)) hbx y hy
      · intro w
        rw [covered_cons, covered_cons, ih3 w]
        tauto

/-- R53: a first fit gives `n` words of the list, and the list keeps its form without them. -/
theorem firstFit_spec {n : Nat} (hn : 1 ≤ n) {free rest : List Extent} {x : Extent}
    (h : firstFit n free = some (x, rest)) (hf : freeListSound free) :
    x.len = n ∧ freeListSound rest ∧ (∀ b, startsAfter b free → startsAfter b rest ∧ b < x.offset) ∧
    (∀ w, covered free w ↔ x.holds w ∨ covered rest w) ∧ ∀ w, x.holds w → ¬ covered rest w := by
  induction free generalizing rest with
  | nil => simp [firstFit] at h
  | cons e es ih =>
    rw [freeListSound_cons] at hf
    obtain ⟨he, hes, hs⟩ := hf
    have hlow : ∀ w, covered es w → e.offset + e.len < w := by
      rintro w ⟨y, hy, hw⟩
      have := hes y hy
      have := hw.1
      omega
    unfold firstFit at h
    split_ifs at h with h1 h2
    · simp only [Option.some.injEq, Prod.mk.injEq] at h
      obtain ⟨rfl, rfl⟩ := h
      refine ⟨rfl, hs, fun b hb => ⟨fun y hy => hb y (List.mem_cons_of_mem _ hy), hb e List.mem_cons_self⟩, ?_, ?_⟩
      · intro w
        rw [covered_cons]
        simp only [Extent.holds, h2]
      · intro w hw hc
        have := hlow w hc
        have := hw.2
        dsimp only at this
        omega
    · simp only [Option.some.injEq, Prod.mk.injEq] at h
      obtain ⟨rfl, rfl⟩ := h
      refine ⟨rfl, ?_, fun b hb => ⟨?_, hb e List.mem_cons_self⟩, ?_, ?_⟩
      · rw [freeListSound_cons]
        refine ⟨by dsimp only; omega, fun y hy => ?_, hs⟩
        have := hes y hy
        dsimp only; omega
      · intro y hy
        have hbe := hb e List.mem_cons_self
        rw [List.mem_cons] at hy
        rcases hy with hy | hy
        · rw [hy]; dsimp only; omega
        · exact hb y (List.mem_cons_of_mem _ hy)
      · intro w
        rw [covered_cons, covered_cons, ← or_assoc]
        simp only [Extent.holds]
        have : (e.offset ≤ w ∧ w < e.offset + e.len) ↔
            (e.offset ≤ w ∧ w < e.offset + n) ∨ (e.offset + n ≤ w ∧ w < e.offset + n + (e.len - n)) := by omega
        rw [this]
      · intro w hw hc
        rw [covered_cons] at hc
        have hw2 := hw.2
        dsimp only at hw2
        rcases hc with hc | hc
        · have := hc.1
          dsimp only at this
          omega
        · have := hlow w hc
          omega
    · rw [Option.map_eq_some_iff] at h
      obtain ⟨⟨y, rest'⟩, hy, heq⟩ := h
      simp only [Prod.mk.injEq] at heq
      obtain ⟨rfl, rfl⟩ := heq
      obtain ⟨i1, i2, i3, i4, i5⟩ := ih hy hs
      have hae := i3 (e.offset + e.len) (fun z hz => hes z hz)
      refine ⟨i1, ?_, fun b hb => ?_, ?_, ?_⟩
      · rw [freeListSound_cons]
        exact ⟨he, hae.1, i2⟩
      · have := i3 b (fun z hz => hb z (List.mem_cons_of_mem _ hz))
        refine ⟨fun z hz => ?_, this.2⟩
        rw [List.mem_cons] at hz
        rcases hz with hz | hz
        · rw [hz]; exact hb e List.mem_cons_self
        · exact this.1 z hz
      · intro w
        rw [covered_cons, covered_cons, i4 w]
        tauto
      · intro w hw hc
        rw [covered_cons] at hc
        rcases hc with hc | hc
        · have h1 := hc.2
          have h2 := hw.1
          have h3 := hae.2
          omega
        · exact i5 w hw hc

/-- R55, way 1: the words taken from the extent that begins at `offset`, and the list without them. -/
theorem takeAt_spec {offset k : Nat} (hk : 1 ≤ k) {free rest : List Extent}
    (h : takeAt offset k free = some rest) (hf : freeListSound free) :
    freeListSound rest ∧ (∀ b, startsAfter b free → startsAfter b rest ∧ b < offset) ∧
    (∀ w, covered free w ↔ Extent.holds ⟨offset, k⟩ w ∨ covered rest w) ∧
    ∀ w, Extent.holds ⟨offset, k⟩ w → ¬ covered rest w := by
  induction free generalizing rest with
  | nil => simp [takeAt] at h
  | cons e es ih =>
    unfold takeAt at h
    split_ifs at h with h1 h2 h3
    · have hff : firstFit k (e :: es) = some (⟨e.offset, k⟩, rest) := by
        simp only [Option.some.injEq] at h
        simp [firstFit, h3, ← h]
      obtain ⟨_, f2, f3, f4, f5⟩ := firstFit_spec hk hff hf
      rw [← h1]
      exact ⟨f2, f3, f4, f5⟩
    · have hff : firstFit k (e :: es) = some (⟨e.offset, k⟩, rest) := by
        simp only [Option.some.injEq] at h
        simp [firstFit, h2, h3, ← h]
      obtain ⟨_, f2, f3, f4, f5⟩ := firstFit_spec hk hff hf
      rw [← h1]
      exact ⟨f2, f3, f4, f5⟩
    · rw [Option.map_eq_some_iff] at h
      obtain ⟨rest', hr, rfl⟩ := h
      rw [freeListSound_cons] at hf
      obtain ⟨he, hes, hs⟩ := hf
      obtain ⟨i2, i3, i4, i5⟩ := ih hr hs
      have hae := i3 (e.offset + e.len) (fun z hz => hes z hz)
      refine ⟨?_, fun b hb => ?_, ?_, ?_⟩
      · rw [freeListSound_cons]
        exact ⟨he, hae.1, i2⟩
      · have := i3 b (fun z hz => hb z (List.mem_cons_of_mem _ hz))
        refine ⟨fun z hz => ?_, this.2⟩
        rw [List.mem_cons] at hz
        rcases hz with hz | hz
        · rw [hz]; exact hb e List.mem_cons_self
        · exact this.1 z hz
      · intro w
        rw [covered_cons, covered_cons, i4 w]
        tauto
      · intro w hw hc
        rw [covered_cons] at hc
        rcases hc with hc | hc
        · have h1 := hc.2
          have h2 := hw.1
          have h3 := hae.2
          dsimp only at h2
          omega
        · exact i5 w hw hc

/-- An extent that shares no word with a list of extents that are not empty lies apart from each. -/
theorem apartFrom_of_words {x : Extent} (hx : 1 ≤ x.len) {free : List Extent} (hf : ∀ e ∈ free, 1 ≤ e.len)
    (h : ∀ w, x.holds w → ¬ covered free w) : apartFrom x free := by
  intro e he
  by_contra hc
  have h1 : x.offset < e.offset + e.len := by omega
  have h2 : e.offset < x.offset + x.len := by omega
  have hl := hf e he
  exact h (max x.offset e.offset) ⟨by omega, by omega⟩ ⟨e, he, by omega, by omega⟩

/-- R54, R55: a resize gives the record `n` words and moves no word of another; the list keeps its form. -/
theorem resize_spec {x y : Extent} {n : Nat} {free rest : List Extent} (hx : 1 ≤ x.len) (hn : 1 ≤ n)
    (hf : freeListSound free) (ha : ∀ w, x.holds w → ¬ covered free w)
    (h : resize x n free = .ok (y, rest)) :
    y.len = n ∧ freeListSound rest ∧ (∀ w, (y.holds w ∨ covered rest w) ↔ (x.holds w ∨ covered free w)) ∧
    ∀ w, y.holds w → ¬ covered rest w := by
  have hap := apartFrom_of_words hx hf.1 ha
  unfold resize at h
  by_cases h1 : n ≤ x.len
  · rw [if_pos h1] at h
    simp only [Except.ok.injEq, Prod.mk.injEq] at h
    obtain ⟨rfl, hr⟩ := h
    by_cases h2 : n = x.len
    · rw [if_pos h2] at hr
      rw [← hr, h2]
      exact ⟨rfl, hf, fun w => Iff.rfl, ha⟩
    rw [if_neg h2] at hr
    rw [← hr]
    have htail : apartFrom ⟨x.offset + n, x.len - n⟩ free := by
      intro e he
      have := hap e he
      dsimp only
      omega
    obtain ⟨g1, _, g3⟩ := giveBack_spec ⟨x.offset + n, x.len - n⟩ free (by dsimp only; omega) hf htail
    refine ⟨rfl, g1, fun w => ?_, fun w hw hc => ?_⟩
    · rw [g3 w, ← or_assoc]
      simp only [Extent.holds]
      have : ((x.offset ≤ w ∧ w < x.offset + n) ∨ (x.offset + n ≤ w ∧ w < x.offset + n + (x.len - n))) ↔
          (x.offset ≤ w ∧ w < x.offset + x.len) := by omega
      rw [this]
    · rw [g3 w] at hc
      have hw2 := hw.2
      dsimp only at hw2
      rcases hc with hc | hc
      · have := hc.1
        dsimp only at this
        omega
      · exact ha w ⟨hw.1, by omega⟩ hc
  · rw [if_neg h1] at h
    split at h
    · next rest' ht =>
      simp only [Except.ok.injEq, Prod.mk.injEq] at h
      obtain ⟨rfl, rfl⟩ := h
      obtain ⟨t1, _, t3, t4⟩ := takeAt_spec (by omega) ht hf
      refine ⟨rfl, t1, fun w => ?_, fun w hw hc => ?_⟩
      · rw [t3 w, ← or_assoc]
        simp only [Extent.holds]
        have : (x.offset ≤ w ∧ w < x.offset + n) ↔ ((x.offset ≤ w ∧ w < x.offset + x.len) ∨
            (x.offset + x.len ≤ w ∧ w < x.offset + x.len + (n - x.len))) := by omega
        rw [this]
      · have hw2 := hw.2
        dsimp only at hw2
        by_cases hin : w < x.offset + x.len
        · exact ha w ⟨hw.1, hin⟩ ((t3 w).2 (Or.inr hc))
        · exact t4 w ⟨by dsimp only; omega, by dsimp only; omega⟩ hc
    · split at h
      · next y' rest' hff =>
        simp only [Except.ok.injEq, Prod.mk.injEq] at h
        obtain ⟨rfl, rfl⟩ := h
        obtain ⟨f1, f2, _, f4, f5⟩ := firstFit_spec hn hff hf
        have hax : apartFrom x rest' :=
          apartFrom_of_words hx f2.1 fun w hw hc => ha w hw ((f4 w).2 (Or.inr hc))
        obtain ⟨g1, _, g3⟩ := giveBack_spec x rest' hx f2 hax
        refine ⟨f1, g1, fun w => ?_, fun w hw hc => ?_⟩
        · rw [g3 w, f4 w]
          tauto
        · rw [g3 w] at hc
          rcases hc with hc | hc
          · exact ha w hc ((f4 w).2 (Or.inl hw))
          · exact f5 w hw hc
      · simp at h

end Sys2Proof.Machine
end

