-- ==== Sys2Proof/Laws/Port.lean ====
section
/-! SUPPORT. What the release of a request can do: one lemma for each of its four outcomes (R149, R150, R154). -/

namespace Sys2Proof.Machine

variable {α : Type} (r : Request α) (formed : α → Bool) (run : α → State → State × Work) (s : State)

theorem endTransaction_of_judging (h : s.judging = true) : s.endTransaction = (s.released, true) := by
  unfold State.judging at h
  unfold State.endTransaction State.released
  cases ht : s.port.transaction with
  | none => simp [ht] at h
  | some t =>
    simp only [ht] at h
    simp [ht, h]

theorem serve_resetLow (h : s.pins.resetLow = true) : serve r formed run s = s := by
  simp [serve, h]

theorem serve_ready (hr : s.ready) {a : α} (hi : r.items = some a) (hf : formed a = true) :
    serve r formed run s = (run a s.released).1.setInProgress r.tag (run a s.released).2 := by
  simp [serve, hr.1, endTransaction_of_judging s hr.2, hi, hf]

theorem serve_unformed (hr : s.ready) {a : α} (hi : r.items = some a) (hf : formed a = false) :
    serve r formed run s = s.released.answered r.tag .badValue [] := by
  simp [serve, hr.1, endTransaction_of_judging s hr.2, hi, hf, State.answered, refusal]

theorem serve_noItems (hr : s.ready) (hi : r.items = none) :
    serve r formed run s = s.released.answered r.tag .badValue [] := by
  simp [serve, hr.1, endTransaction_of_judging s hr.2, hi, State.answered, refusal]

/-- A request released by a transaction that carried NOT-READY is discarded (R150). -/
theorem serve_discarded (hl : s.pins.resetLow = false) (ht : s.port.transaction.isSome = true)
    (hj : s.judging = false) : serve r formed run s = s.released := by
  unfold State.judging at hj
  cases htx : s.port.transaction with
  | none => simp [htx] at ht
  | some t =>
    simp only [htx] at hj
    simp [serve, hl, State.endTransaction, htx, hj, State.released]

theorem serveNow_ready (run : α → State → State × Answer) (hr : s.ready) {a : α} (hi : r.items = some a)
    (hf : formed a = true) :
    serveNow r formed run s =
      (run a s.released).1.answered r.tag (run a s.released).2.status (run a s.released).2.body := by
  simp [serveNow, serve_ready r formed _ s hr hi hf, State.answered]

/-- What a release can leave: the state as it was, the state released, or a run of the request with its work. -/
theorem serve_cases : serve r formed run s = s ∨ serve r formed run s = s.endTransaction.1 ∨
    (∃ a, r.items = some a ∧ formed a = true ∧ s.endTransaction.2 = true ∧
      serve r formed run s =
        (run a s.endTransaction.1).1.setInProgress r.tag (run a s.endTransaction.1).2) ∨
    serve r formed run s = s.endTransaction.1.answered r.tag .badValue [] := by
  unfold serve
  split
  · exact Or.inl rfl
  · dsimp only
    split
    · next hj =>
      split
      · next a ha =>
        split
        · next hf => exact Or.inr (Or.inr (Or.inl ⟨a, ha, hf, hj, rfl⟩))
        · exact Or.inr (Or.inr (Or.inr rfl))
      · exact Or.inr (Or.inr (Or.inr rfl))
    · exact Or.inr (Or.inl rfl)

end Sys2Proof.Machine
end

