-- ==== Sys2Proof/Laws/Queue.lean ====
section
/-! SUPPORT. Queuing: the Resolve Queue keeps one place for each feed, and what queuing does to a feed (R83, R84). -/

namespace Sys2Proof.Machine

theorem mem_appendOnce (q : List FeedNo) (f g : FeedNo) : g ∈ appendOnce q f ↔ g ∈ q ∨ g = f := by
  unfold appendOnce
  split
  · next h => exact ⟨Or.inl, fun h' => h'.elim id fun e => e ▸ h⟩
  · simp

theorem appendOnce_nodup {q : List FeedNo} (h : q.Nodup) (f : FeedNo) : (appendOnce q f).Nodup := by
  unfold appendOnce
  split
  · exact h
  · next hf =>
    rw [List.nodup_append]
    exact ⟨h, List.nodup_singleton f, fun a ha b hb => by
      rw [List.mem_singleton.mp hb]
      exact fun e => hf (e ▸ ha)⟩

namespace State

variable (s : State)

theorem queueFeed_queue (f : FeedNo) : (s.queueFeed f).resolver.queue = appendOnce s.resolver.queue f := rfl

@[simp] theorem queueFeed_inFlight (f : FeedNo) : (s.queueFeed f).resolver.inFlight = s.resolver.inFlight := rfl

/-- Queuing F (R84). -/
theorem feed_queueFeed (f : FeedNo) :
    (s.queueFeed f).feed f =
      { s.feed f with revision := (s.feed f).revision + 1, resolution := .queued, faultReason := none } :=
  Table.get_upd_same _ _ _

theorem feed_queueFeed_other {f g : FeedNo} (h : g ≠ f) : (s.queueFeed f).feed g = s.feed g :=
  Table.get_upd_other _ _ h

theorem queueFeed_nodup {s : State} (h : s.resolver.queue.Nodup) (f : FeedNo) :
    (s.queueFeed f).resolver.queue.Nodup := appendOnce_nodup h f

theorem queueFeeds_nodup {s : State} (h : s.resolver.queue.Nodup) (fs : List FeedNo) :
    (s.queueFeeds fs).resolver.queue.Nodup := by
  induction fs generalizing s with
  | nil => exact h
  | cons f fs ih => exact ih (queueFeed_nodup h f)

theorem queueFeeds_cons (f : FeedNo) (fs : List FeedNo) : s.queueFeeds (f :: fs) = (s.queueFeed f).queueFeeds fs :=
  rfl

@[simp] theorem queueFeeds_nil : s.queueFeeds [] = s := rfl

@[simp] theorem queueFeeds_inFlight (fs : List FeedNo) :
    (s.queueFeeds fs).resolver.inFlight = s.resolver.inFlight :=
  foldl_keeps (fun t => State.resolver t |>.inFlight) State.queueFeed queueFeed_inFlight fs s

/-- A feed that is not among those queued keeps its entry. -/
theorem feed_queueFeeds_other {fs : List FeedNo} {g : FeedNo} (h : g ∉ fs) : (s.queueFeeds fs).feed g = s.feed g := by
  induction fs generalizing s with
  | nil => rfl
  | cons f fs ih =>
    rw [List.mem_cons, not_or] at h
    rw [queueFeeds_cons, ih _ h.2, feed_queueFeed_other s h.1]

/-- Queuing changes no field of a feed but its revision, its resolution state and its fault reason. -/
theorem queueFeeds_lead (fs : List FeedNo) (g : FeedNo) : ((s.queueFeeds fs).feed g).lead = (s.feed g).lead := by
  induction fs generalizing s with
  | nil => rfl
  | cons f fs ih =>
    rw [queueFeeds_cons, ih]
    by_cases h : g = f
    · rw [h, feed_queueFeed]
    · rw [feed_queueFeed_other s h]

end State

end Sys2Proof.Machine
end

