-- ==== Sys2Proof/Laws/Requests.lean ====
section
/-! SUPPORT. A change request from its release on: its tests read no field of the port, and it is refused, stopped by a
watch, or taken (R10, R35, R146, R154). -/

namespace Sys2Proof.Machine

namespace State

variable (s : State)

/-! ### Whose fields the release and the watch test change -/

theorem testWatch_withPort (p : Port) (a : Access) (r : RecordName) (st : Bool) (i : WatchNo) :
    testWatch a r st { s with port := p } i = { testWatch a r st s i with port := p } := by
  unfold testWatch
  dsimp only
  split <;> rfl

/-- The watch test reads and writes no field of the port. -/
theorem watchTest_withPort (p : Port) (a : Access) (r : RecordName) :
    ({ s with port := p } : State).watchTest a r = ({ (s.watchTest a r).1 with port := p }, (s.watchTest a r).2) := by
  have h : ∀ (l : List WatchNo) (u : State) (st : Bool),
      l.foldl (testWatch a r st) { u with port := p } = { l.foldl (testWatch a r st) u with port := p } := by
    intro l
    induction l with
    | nil => intro u st; rfl
    | cons i l ih => intro u st; rw [List.foldl_cons, testWatch_withPort, ih, List.foldl_cons]
  exact Prod.ext (h (List.finRange 2) s (s.stops a r)) rfl

theorem testWatch_frame (a : Access) (r : RecordName) (st : Bool) (i : WatchNo) :
    testWatch a r st s i =
      { s with watches := (testWatch a r st s i).watches, notices := (testWatch a r st s i).notices } := by
  unfold testWatch
  dsimp only
  split <;> rfl

/-- The watch test changes the watches and the notices and nothing else (R145). -/
theorem watchTest_frame (a : Access) (r : RecordName) :
    (s.watchTest a r).1 =
      { s with watches := (s.watchTest a r).1.watches, notices := (s.watchTest a r).1.notices } := by
  unfold watchTest
  generalize s.stops a r = st
  dsimp only
  have h : ∀ (l : List WatchNo) (u : State), l.foldl (testWatch a r st) u =
      { u with
        watches := (l.foldl (testWatch a r st) u).watches
        notices := (l.foldl (testWatch a r st) u).notices } := by
    intro l
    induction l with
    | nil => intro u; rfl
    | cons i l ih =>
      intro u
      rw [List.foldl_cons]
      conv_lhs => rw [ih]
      simp
  exact h _ s

/-- The test of watch `i` changes the last hit of no other watch (R145). -/
theorem testWatch_watches (a : Access) (r : RecordName) (st : Bool) (i j : WatchNo) :
    (testWatch a r st s i).watches.get j =
      if j = i ∧ (s.watches.get i).config.hits a r = true then (s.watches.get j).recordHit r a st
      else s.watches.get j := by
  unfold testWatch
  dsimp only
  by_cases h : (s.watches.get i).config.hits a r = true
  · simp only [h, if_true, raise_watches, Table.get_upd]
    by_cases hj : j = i
    · subst hj; simp
    · simp [hj]
  · simp [h]

theorem testWatch_notices (a : Access) (r : RecordName) (st : Bool) (i : WatchNo) :
    (testWatch a r st s i).notices =
      if (s.watches.get i).config.hits a r = true then s.notices.raise (.watch i) else s.notices := by
  unfold testWatch
  dsimp only
  split <;> rfl

/-- Each watch that hits records its own hit (R145). -/
theorem watchTest_watches (a : Access) (r : RecordName) (i : WatchNo) :
    (s.watchTest a r).1.watches.get i =
      if (s.watches.get i).config.hits a r = true then (s.watches.get i).recordHit r a (s.stops a r)
      else s.watches.get i := by
  have h : (s.watchTest a r).1 = testWatch a r (s.stops a r) (testWatch a r (s.stops a r) s 0) 1 := rfl
  rw [h]
  simp only [testWatch_watches]
  fin_cases i <;> simp

/-- Each watch that hits raises its own notice (R145). -/
theorem watchTest_notices (a : Access) (r : RecordName) :
    (s.watchTest a r).1.notices =
      { s.notices with
        watch0 := s.notices.watch0 || (s.watches.get 0).config.hits a r
        watch1 := s.notices.watch1 || (s.watches.get 1).config.hits a r } := by
  have h : (s.watchTest a r).1 = testWatch a r (s.stops a r) (testWatch a r (s.stops a r) s 0) 1 := rfl
  rw [h]
  simp only [testWatch_notices, testWatch_config]
  cases (s.watches.get 0).config.hits a r <;> cases (s.watches.get 1).config.hits a r <;>
    simp [Notices.raise]

theorem observed_released (r : RecordName) :
    s.released.observed r = { s.observed r with port := s.released.port } :=
  congrArg Prod.fst (s.watchTest_withPort s.released.port .portChange r)

theorem stops_withPort (p : Port) (a : Access) (r : RecordName) :
    ({ s with port := p } : State).stops a r = s.stops a r := rfl

/-! ### Images read no field of the port, the watches and the notices -/

theorem feedImage_frame (p : Port) (w : Table Watch 2) (n : Notices) (f : FeedNo) :
    ({ s with port := p, watches := w, notices := n } : State).feedImage f = s.feedImage f := by
  unfold feedImage feed renderOf
  with_reducible rfl

theorem profileImage_frame (p : Port) (w : Table Watch 2) (n : Notices) (h : HandleIx) :
    ({ s with port := p, watches := w, notices := n } : State).profileImage h = s.profileImage h := by
  unfold profileImage handle
  with_reducible rfl

theorem sectorImage_frame (p : Port) (w : Table Watch 2) (n : Notices) (k : SectorNo) :
    ({ s with port := p, watches := w, notices := n } : State).sectorImage k = s.sectorImage k := by
  unfold sectorImage sector
  with_reducible rfl

theorem sensorImage_frame (p : Port) (w : Table Watch 2) (n : Notices) (k : ChannelNo) :
    ({ s with port := p, watches := w, notices := n } : State).sensorImage k = s.sensorImage k := by
  unfold sensorImage channel
  with_reducible rfl

/-- The image of a record reads no field of the port, the watches and the notices (R158). -/
theorem recordImage_frame (p : Port) (w : Table Watch 2) (n : Notices) (r : RecordName) :
    ({ s with port := p, watches := w, notices := n } : State).recordImage r = s.recordImage r := by
  unfold recordImage
  cases r with
  | feed f => exact s.feedImage_frame p w n f
  | profile h => exact s.profileImage_frame p w n _
  | sector k => exact s.sectorImage_frame p w n k
  | sensor k => exact s.sensorImage_frame p w n k

/-! ### The tests of the requests read no field that a release changes -/

theorem testLead_released (i : LeadItems) : s.released.testLead i = s.testLead i := rfl
theorem testClearFeed_released (ref : RecordRef) : s.released.testClearFeed ref = s.testClearFeed ref := rfl
theorem testBind_released (i : BindItems) : s.released.testBind i = s.testBind i := rfl
theorem testBindOverride_released (i : BindItems) : s.released.testBindOverride i = s.testBindOverride i := rfl
theorem testUnbind_released (ref : RecordRef) : s.released.testUnbind ref = s.testUnbind ref := rfl
theorem testUnbindOverride_released (ref : RecordRef) :
    s.released.testUnbindOverride ref = s.testUnbindOverride ref := rfl
theorem testCreate_released (c : ProfileContent) : s.released.testCreate c = s.testCreate c := rfl
theorem testClone_released (ref : RecordRef) : s.released.testClone ref = s.testClone ref := rfl
theorem testEditSections_released (i : EditSectionsItems) :
    s.released.testEditSections i = s.testEditSections i := rfl
theorem testBase_released (i : BaseItems) : s.released.testBase i = s.testBase i := rfl
theorem testNamed_released (ref : RecordRef) : s.released.testNamed ref = s.testNamed ref := rfl
theorem setPlan_released (i : SetItems) : s.released.setPlan i = s.setPlan i := rfl
theorem lookPlan_released (i : LookItems) : s.released.lookPlan i = s.lookPlan i := rfl

end State

/-! ### References that yield a record are of a class the request accepts -/

theorem accepts_of_refFeed {s : State} {ref : RecordRef} {f : FeedNo} (h : s.refFeed ref = .ok f) :
    accepts .feed ref = true := by
  cases ref with
  | numbered c n g =>
    cases c
    case feed => rfl
    all_goals (simp [State.refFeed, State.resolve, requireClass, require] at h; cases h)
  | _ => rfl

theorem accepts_of_refProfile {s : State} {ref : RecordRef} {h' : HandleIx} (h : s.refProfile ref = .ok h') :
    accepts .profile ref = true := by
  cases ref with
  | numbered c n g =>
    cases c
    case profile => rfl
    all_goals (simp [State.refProfile, State.resolve, requireClass, require] at h; cases h)
  | _ => rfl

/-! ### The three ends of a change request -/

section

variable {α β : Type} (r : Request α) (formed : α → Bool) (s : State) (test : State → α → Except Status β)
  (record : β → RecordName) (effect : β → State → State) (answer : β → Answer)

/-- A change request as its meaning runs it: its tests, the watch test, the effect and the answer. -/
abbrev changeRun (a : α) (s : State) : State × Answer :=
  let (s', x) := s.takeChange (test s a) record effect
  (s', answerOf answer x)

theorem serveNow_change_error (hr : s.ready) {a : α} (hi : r.items = some a) (hf : formed a = true) {st : Status}
    (ht : test s.released a = .error st) :
    serveNow r formed (changeRun test record effect answer) s =
      s.released.answered r.tag (answerOf answer (.error st)).status (answerOf answer (.error st)).body := by
  rw [serveNow_ready r formed s _ hr hi hf]
  simp only [ht]
  rw [State.takeChange_error]

theorem serveNow_change_stopped (hr : s.ready) {a : α} (hi : r.items = some a) (hf : formed a = true) {b : β}
    (ht : test s.released a = .ok b) (hs : s.stops .portChange (record b) = true) :
    serveNow r formed (changeRun test record effect answer) s =
      (s.released.observed (record b)).answered r.tag (answerOf answer (.error .watched)).status
        (answerOf answer (.error .watched)).body := by
  rw [serveNow_ready r formed s _ hr hi hf]
  simp only [ht]
  rw [State.takeChange_stopped]
  · rfl
  · exact hs

theorem serveNow_change_taken (hr : s.ready) {a : α} (hi : r.items = some a) (hf : formed a = true) {b : β}
    (ht : test s.released a = .ok b) (hs : s.stops .portChange (record b) = false) :
    serveNow r formed (changeRun test record effect answer) s =
      (effect b { s.observed (record b) with port := s.released.port }).afterAbandon.endWait.answered r.tag
        (answer b).status (answer b).body := by
  rw [serveNow_ready r formed s _ hr hi hf]
  simp only [ht]
  rw [State.takeChange_taken]
  · rw [← s.observed_released]
    rfl
  · exact hs

end

end Sys2Proof.Machine
end

