-- ==== Sys2Proof/Laws/Step.lean ====
section
/-! SUPPORT. Every command, and so every step, answers a next state: the block never stops by itself. -/

namespace Sys2Proof.Machine

theorem exec_next (c : Instr) (s : State) : ∃ t, exec c s = .next t := by
  cases c <;> exact ⟨_, rfl⟩

theorem step_next (s : State) : ∃ t, step s = .next t := by
  unfold step
  split
  · exact ⟨s, rfl⟩
  · exact exec_next _ _

end Sys2Proof.Machine
end

