-- ==== Sys2Proof/Tests/Slice0.lean ====
section
/-! SUPPORT. Small tests: ill-formed commands refused, words of the manual's encodings, values of its examples, and for
each statement a state and operands that meet its hypotheses. -/

open Sys2Proof Sys2Proof.Machine

namespace Sys2Proof.Tests

/-! One theorem at a time: the kernel evaluates each on whole states. -/

set_option Elab.async false

/-! ### Helpers -/

def F (n : Nat) : RecordRef := .numbered .feed n 0
def P (n g : Nat) : RecordRef := .numbered .profile n g

def ask {α : Type} (a : α) : Request α := ⟨7, some a⟩

/-- What a step answers, where it answers a next state. -/
def after (i : Instr) (s : State) : State :=
  match exec i s with
  | .next t => t
  | .fault f => nomatch f
  | .refused _ => s

def sec (n : Nat) : EqSection := ⟨.peak, true, n, 0, 100⟩

/-! ### Ill-formed commands -/

theorem test_illFormed_reference : Instr.wellFormed (.clone (ask (P 256 0))) = false ∧
    Instr.wellFormed (.clone (ask (P 1 256))) = false ∧ Instr.wellFormed (.retire (ask (P 256 0))) = false ∧
    Instr.wellFormed (.revive (ask (P 256 0))) = false ∧ Instr.wellFormed (.unbind (ask (F 256))) = false ∧
    Instr.wellFormed (.unbindOverride (ask (F 256))) = false ∧ Instr.wellFormed (.clearFeed (ask (F 256))) = false ∧
    Instr.wellFormed (.bind (ask ⟨F 0, P 256 0⟩)) = false ∧ Instr.wellFormed (.bind (ask ⟨F 256, P 1 0⟩)) = false ∧
    Instr.wellFormed (.bindOverride (ask ⟨F 256, P 1 0⟩)) = false ∧
    Instr.wellFormed (.lead (ask ⟨F 0, F 256⟩)) = false ∧ Instr.wellFormed (.lead (ask ⟨F 256, F 0⟩)) = false ∧
    Instr.wellFormed (.base (ask ⟨P 1 0, P 256 0⟩)) = false ∧ Instr.wellFormed (.base (ask ⟨P 256 0, P 1 0⟩)) = false := by
  decide

theorem test_illFormed_look : Instr.wellFormed (.look (ask ⟨F 256, 1, 1⟩)) = false ∧
    Instr.wellFormed (.look (ask ⟨F 0, 256, 1⟩)) = false ∧ Instr.wellFormed (.look (ask ⟨F 0, 1, 256⟩)) = false ∧
    Instr.wellFormed (.find (ask ⟨.feed, 0, 0, .matching, F 256⟩)) = false := by decide

theorem test_illFormed_set : Instr.wellFormed (.set (ask ⟨F 256, 0, 0, 1, 1⟩)) = false ∧
    Instr.wellFormed (.set (ask ⟨F 0, 256, 0, 1, 1⟩)) = false ∧
    Instr.wellFormed (.set (ask ⟨F 0, 0, 2147483648, 1, 1⟩)) = false ∧
    Instr.wellFormed (.set (ask ⟨F 0, 0, 0, 256, 1⟩)) = false ∧
    Instr.wellFormed (.set (ask ⟨F 0, 0, 0, 1, 256⟩)) = false := by decide

def content (base : Option RawHandle) (trim : Option Int) (gain : Int) (es : List EqSection) : Instr :=
  .createProfile (ask ⟨0, .safety, base, trim, gain, .normal, es⟩)

theorem test_illFormed_profile : (content (some ⟨0, 0⟩) none 0 []).wellFormed = false ∧
    (content (some ⟨256, 0⟩) none 0 []).wellFormed = false ∧ (content (some ⟨1, 256⟩) none 0 []).wellFormed = false ∧
    (content none (some 65535) 0 []).wellFormed = false ∧ (content none (some (-1)) 0 []).wellFormed = false ∧
    (content none none 32768 []).wellFormed = false ∧
    (content none none 0 (List.replicate 127 (sec 20))).wellFormed = false := by decide +kernel

theorem test_illFormed_sections : Instr.wellFormed (.editSections (ask ⟨P 256 0, []⟩)) = false ∧
    Instr.wellFormed (.editSections (ask ⟨P 1 0, List.replicate 128 (sec 20)⟩)) = false ∧
    Instr.wellFormed (.editSections (ask ⟨P 1 0, [sec 65536]⟩)) = false ∧
    Instr.wellFormed (.editSections (ask ⟨P 1 0, [⟨.peak, true, 0, -32769, 0⟩]⟩)) = false ∧
    Instr.wellFormed (.editSections (ask ⟨P 1 0, [⟨.peak, true, 0, 0, 65536⟩]⟩)) = false := by decide +kernel

def noFields : SensorSetItems := ⟨F 0, none, none, none, none, none, none, none, none⟩

theorem test_illFormed_sensor : Instr.wellFormed (.sensorSet (ask { noFields with sensor := F 256 })) = false ∧
    Instr.wellFormed (.sensorSet (ask { noFields with gain := some 256 })) = false ∧
    Instr.wellFormed (.sensorSet (ask { noFields with offsetTrim := some 32768 })) = false ∧
    Instr.wellFormed (.sensorSet (ask { noFields with interval := some 256 })) = false ∧
    Instr.wellFormed (.sensorSet (ask { noFields with sector := some (some 255) })) = false := by decide

theorem test_illFormed_sector : Instr.wellFormed (.sectorSet (ask ⟨F 256, none, none, none, none, none, none⟩)) = false ∧
    Instr.wellFormed (.sectorSet (ask ⟨F 0, some 256, none, none, none, none, none⟩)) = false ∧
    Instr.wellFormed (.sectorSet (ask ⟨F 0, none, none, some 32768, none, none, none⟩)) = false ∧
    Instr.wellFormed (.sectorSet (ask ⟨F 0, none, none, none, some 256, none, none⟩)) = false ∧
    Instr.wellFormed (.sectorSet (ask ⟨F 0, none, none, none, none, some 65536, none⟩)) = false ∧
    Instr.wellFormed (.sectorSet (ask ⟨F 0, none, none, none, none, none, some 65536⟩)) = false := by decide

def watched (base span : Nat) : WatchConfig := ⟨true, .feed, base, span, ⟨true, true, true, true⟩, .any, .stop⟩

theorem test_illFormed_watch : Instr.wellFormed (.watchSet (ask ⟨256, watched 0 1⟩)) = false ∧
    Instr.wellFormed (.watchSet (ask ⟨0, watched 256 1⟩)) = false ∧
    Instr.wellFormed (.watchSet (ask ⟨0, watched 0 256⟩)) = false ∧
    Instr.wellFormed (.watchClear (ask 256)) = false ∧ Instr.wellFormed (.readWatch (ask 256)) = false := by decide

theorem test_illFormed_policy :
    Instr.wellFormed (.policySet (ask (List.replicate 17 ⟨.safety, .test, .allow⟩))) = false := by decide

/-! ### Frames written out from R151, R153 and R154 -/

theorem test_crc16_check :
    crc16 [0x31, 0x32, 0x33, 0x34, 0x35, 0x36, 0x37, 0x38, 0x39] = 0x29B1#16 := by decide +kernel

theorem test_crc32_check :
    crc32 [0x31, 0x32, 0x33, 0x34, 0x35, 0x36, 0x37, 0x38, 0x39] = 0xCBF43926#32 := by decide +kernel

theorem test_frame_nop : decodeFrame [0x00, 7, 0, 0, 0x50, 0x01] = .nop (ask ()) := by decide +kernel

/-- SET of the excess path of F12 to -60,000 mm. -/
theorem test_frame_set :
    decodeFrame [0x03, 7, 11, 0, 0, 0, 12, 0, 4, 0xA0, 0x15, 0xFF, 0xFF, 1, 1, 0x3C, 0x0C] =
      .set (ask ⟨F 12, 4, -60000, 1, 1⟩) := by decide +kernel

theorem test_frame_look :
    decodeFrame [0x02, 1, 6, 0, 2, 0, 0, 0, 16, 2, 0x2A, 0xFC] = .look ⟨1, some ⟨.next, 16, 2⟩⟩ := by decide +kernel

theorem test_frame_bind :
    decodeFrame [0x20, 2, 8, 0, 0, 0, 95, 0, 0, 1, 17, 3, 39, 130] = .bind ⟨2, some ⟨F 95, P 17 3⟩⟩ := by
  decide +kernel

theorem test_frame_editSections :
    decodeFrame [0x12, 9, 13, 0, 0, 1, 1, 0, 1, 5, 1, 0x20, 0x4E, 0x10, 0xFF, 0x40, 0x06, 69, 193] =
      .editSections ⟨9, some ⟨P 1 0, [⟨.notch, false, 20000, -240, 1600⟩]⟩⟩ := by decide +kernel

theorem test_frame_sensorSet :
    decodeFrame [0x50, 5, 11, 0, 0, 3, 2, 0, 0x99, 0, 0, 4, 0xF1, 0xFF, 0xFF, 1, 171] =
      .sensorSet ⟨5, some ⟨.numbered .sensor 2 0, some true, none, none, some 4, some (-15), none, none,
        some none⟩⟩ := by decide +kernel

theorem test_frame_watchSet :
    decodeFrame [0x48, 9, 9, 0, 1, 0, 0, 20, 16, 0x0A, 0, 1, 1, 123, 163] =
      .watchSet ⟨9, some ⟨1, ⟨true, .feed, 20, 16, ⟨false, true, false, true⟩, .portOnly, .stop⟩⟩⟩ := by
  decide +kernel

theorem test_frame_noticeMask :
    decodeFrame [0x5A, 8, 2, 0, 0xFF, 0x07, 219, 100] = .noticeMask ⟨8, some (some (BitVec.allOnes 11))⟩ := by
  decide +kernel

theorem test_frame_malformed : decodeFrame [] = .badFrame 0 .short ∧ decodeFrame [0, 7] = .badFrame 7 .short ∧
    decodeFrame [0x00, 7, 0, 0, 0x50, 0x01, 0xFE] = .badFrame 7 .long ∧
    decodeFrame [0x00, 7, 0, 0, 0x50, 0x02] = .badFrame 7 .check := by decide +kernel

theorem test_frame_unknownCode : decodeRequest 0x05 7 [] = .badCommand 7 := rfl

/-- FEED of class 4, and a body too long, form no items. -/
theorem test_frame_unformed : decodeRequest 0x21 7 [0, 4, 0, 0] = .unbind ⟨7, none⟩ ∧
    decodeRequest 0x21 7 [0, 0, 0, 0, 0] = .unbind ⟨7, none⟩ := by decide +kernel

/-! ### Values of the manual's examples -/

theorem test_contribution : contribution 60000 34342 = 134180 ∧ contribution 18000 34342 = 40254 ∧
    contribution (-200000) 34342 = -447266 := by decide

theorem test_speedAt : speedAt (-300) = 31312 ∧ speedAt 200 = 34342 ∧ speedAt 203 = 34360 ∧ speedAt 204 = 34366 ∧
    speedAt 600 = 36766 := by decide

def bridge (gain : Nat) (probe : ProbeKind) (trim : Int) : ChannelConfig :=
  { (Channel.reset 0).config with gain := gain, probe := probe, offsetTrim := trim }

theorem test_readingTemp : readingTemp (bridge 2 .bridge 0) 1020 = 202 ∧ readingTemp (bridge 1 .linear 5) 535 = 215 ∧
    readingTemp (bridge 2 .linear 5) 1070 = 215 ∧ readingTemp (bridge 1 .bridge 0) (-720) = -300 ∧
    readingTemp (bridge 1 .bridge 0) 1575 = 600 := by decide +kernel

theorem test_hyp_Curve : (0 : Int) < 2 ∧ (505 : Int) * 2 ≤ 1020 - 64 * 0 * 2 ∧ (1020 : Int) - 64 * 0 * 2 ≤ 765 * 2 ∧
    (bridge 2 .linear 5).probe = .linear := by decide

/-- The two refusals of section 3.2. -/
theorem test_allocate : (let free := [⟨30, 10⟩, ⟨200, 8⟩, ⟨4090, 6⟩]
    allocate 28 free = .error .noSpace ∧ allocate 12 free = .error .fragmented ∧
    allocate 10 free = .ok (⟨30, 10⟩, [⟨200, 8⟩, ⟨4090, 6⟩])) := by decide

/-- The span of event 3 in section 3.6. -/
theorem test_giveBack : giveBack ⟨24, 28⟩ [⟨52, 16⟩, ⟨96, 4000⟩] = [⟨24, 44⟩, ⟨96, 4000⟩] := by decide

/-- The four cases of R52, an allocation inside the list (R53) and a growth in place (R55). -/
theorem test_pool_cases : (let low : List Extent := [⟨0, 2⟩, ⟨10, 4⟩]
    let high : List Extent := [⟨20, 6⟩, ⟨40, 8⟩]
    freeListSound (low ++ high) ∧
    giveBack ⟨15, 4⟩ (low ++ high) = low ++ ⟨15, 4⟩ :: high ∧
    giveBack ⟨14, 4⟩ (low ++ high) = [⟨0, 2⟩, ⟨10, 8⟩, ⟨20, 6⟩, ⟨40, 8⟩] ∧
    giveBack ⟨16, 4⟩ (low ++ high) = [⟨0, 2⟩, ⟨10, 4⟩, ⟨16, 10⟩, ⟨40, 8⟩] ∧
    giveBack ⟨14, 6⟩ (low ++ high) = [⟨0, 2⟩, ⟨10, 16⟩, ⟨40, 8⟩] ∧
    firstFit 4 (low ++ high) = some (⟨10, 4⟩, ⟨0, 2⟩ :: high) ∧
    firstFit 5 (low ++ high) = some (⟨20, 5⟩, low ++ [⟨25, 1⟩, ⟨40, 8⟩]) ∧ firstFit 9 (low ++ high) = none ∧
    takeAt 20 6 (low ++ high) = some (low ++ [⟨40, 8⟩]) ∧ takeAt 20 4 (low ++ high) = some (low ++ [⟨24, 2⟩, ⟨40, 8⟩]) ∧
    takeAt 20 7 (low ++ high) = none ∧ takeAt 14 1 (low ++ high) = none) := by
  refine ⟨⟨?_, ?_⟩, ?_⟩ <;> decide

theorem test_bridgeSegments : bridgeSegment (-800) 1 bridgeCurve = some ((-720, -300), (-485, -200)) ∧
    bridgeSegment 2000 1 bridgeCurve = some ((1300, 500), (1575, 600)) := by decide

/-! ### States in which the hypotheses of the statements hold -/

/-- RESET is high, and a transaction that carried a reply is in progress. -/
def listening : State :=
  { State.reset with
    pins := ⟨false, false, .auto⟩
    port := { Port.reset with transaction := some ⟨startReply, true⟩ } }

theorem test_listening_ready : listening.ready := ⟨rfl, rfl⟩

theorem test_listening_unwatched (a : Access) (r : RecordName) : listening.unwatched a r := by
  intro i
  fin_cases i <;> rfl

def recordA : ProfileRecord := ⟨0x1234, .programme, none, some 160, 0, .normal, [sec 1000]⟩
def recordB : ProfileRecord := ⟨2, .programme, some ⟨0, 0⟩, none, 10, .inverted, []⟩
def recordC : ProfileRecord := ⟨3, .safety, none, none, 0, .normal, []⟩

/-- 1/0 is the base of the RETIRING 2/0, which F3 binds, and the override profile of F5; 3/0 is LIVE with count 0. F4
follows F7, which lies in sector 2. -/
def stocked : State :=
  { listening with
    handles := ((listening.handles.upd 0 ⟨.live, 0, some ⟨0, 6⟩, 2, false, some recordA⟩).upd 1
      ⟨.retiring, 0, some ⟨6, 4⟩, 1, false, some recordB⟩).upd 2 ⟨.live, 0, some ⟨14, 4⟩, 0, false, some recordC⟩
    pool := ⟨[⟨10, 4⟩, ⟨18, 4078⟩], .idle, none⟩
    feeds := (((listening.feeds.upd 3 { FeedEntry.reset with binding := some ⟨1, 0⟩ }).upd 5
      { FeedEntry.reset with overrideBinding := some ⟨0, 0⟩, overrideAction := .switch }).upd 7
      { FeedEntry.reset with sector := 2, geomDelay := some 100 }).upd 4 { FeedEntry.reset with lead := some 7 }
    deps := { Dependencies.reset with entries := Dependencies.reset.entries.upd 4 (some 2) } }

theorem test_stocked_ready : stocked.ready := ⟨rfl, rfl⟩

theorem test_stocked_unwatched (a : Access) (r : RecordName) : stocked.unwatched a r := by
  intro i
  fin_cases i <;> rfl

theorem test_stocked_mayChange (r : RecordName) : stocked.mayChange r :=
  ⟨test_stocked_ready, rfl, State.stops_of_unwatched (test_stocked_unwatched _ r), by unfold State.poolSettled; decide +kernel⟩

/-- 3/0 in move downward, to offset 10. -/
def moving (c : CompactionState) : State :=
  { stocked with
    handles := stocked.handles.upd 2 ⟨.live, 0, some ⟨10, 8⟩, 0, true, some recordC⟩
    pool := ⟨[⟨18, 4078⟩], c, some ⟨2, 10, 4, 8⟩⟩ }

theorem test_moving_mayChange (r : RecordName) (c : CompactionState) (hc : c ≠ .idle) : (moving c).mayChange r :=
  ⟨⟨rfl, rfl⟩, rfl, State.stops_of_unwatched fun i => by fin_cases i <;> rfl, by simp [State.poolSettled, moving, hc]⟩

/-- A watch that stops every port access to F0 to F15. -/
def guarded : State :=
  { stocked with watches := stocked.watches.upd 0 ⟨watched 0 16, none⟩ }

/-- A watch that stops every port access to F16 to F31. -/
def guardedAbove : State := { stocked with watches := stocked.watches.upd 0 ⟨watched 16 16, none⟩ }

/-- A watch that stops every port access to profiles 2 and 3. -/
def guardedProfile : State :=
  { stocked with
    watches := stocked.watches.upd 1 ⟨⟨true, .profile, 3, 2, ⟨true, true, false, false⟩, .any, .stop⟩, none⟩ }

/-- A watch that stops every port access to profiles 4 to 7. -/
def guardedNew : State :=
  { stocked with
    watches := stocked.watches.upd 1 ⟨⟨true, .profile, 4, 4, ⟨true, true, false, false⟩, .any, .stop⟩, none⟩ }

/-- Watches that observe every port access to F0 to F15 and to profiles 1 to 15, and stop none. -/
def noticed : State :=
  { stocked with
    watches := (stocked.watches.upd 0 ⟨{ watched 0 16 with action := .notify }, none⟩).upd 1
      ⟨⟨true, .profile, 1, 16, ⟨true, true, false, false⟩, .any, .notify⟩, none⟩ }

def engagedState : State := { stocked with override := ⟨.engaged, true, false, .engaged⟩ }

/-- A resolution of F3 in flight. -/
def resolving : State := { stocked with resolver := ⟨[], some ⟨3, 0⟩⟩ }

def played (d : Int) : Setting := ⟨d, [], 0, .normal, .programme 0⟩

/-- What the Render Engine holds for F0 (idle), F1 (a PENDING waits), F2 (a glide), F3 (a silence order). -/
def sounding (state applied : OverrideState) : State :=
  { stocked with
    override := { Override.reset with state := state, applied := applied }
    render := ((stocked.render.upd 1 { FeedRender.reset with active := some (played 1), pending := some (played 2) }).upd 2
      { FeedRender.reset with
        active := some (played 1), transition := some ⟨.glide, .setting (played 1), some (played 9), 7, 8⟩ }).upd 3
      { FeedRender.reset with active := some (played 1), silenceOrder := true } }

/-- F1 and F5 muted and F2 on standby while the override leaves. -/
def leaving : State :=
  { stocked with
    override := { Override.reset with applied := .engaged }
    render := ((stocked.render.upd 1
      { FeedRender.reset with source := .mute, active := some (played 1), pending := some (played 2) }).upd 2
      { FeedRender.reset with
        source := .standby, standby := some (played 5), standbyInPlay := some (played 5), active := some (played 1) }).upd 5
      { FeedRender.reset with source := .mute } }

/-- Channel 0 enabled on sector 1, which is SENSED, with a conversion under way. -/
def measuring (void : Bool) : State :=
  { stocked with
    channels := stocked.channels.upd 0
      { Channel.reset 0 with
        config := { (Channel.reset 0).config with enabled := true, probe := .linear, sector := some 1 }
        state := .warming
        reading := some ⟨0, void⟩ }
    sectors := stocked.sectors.upd 1
      { Sector.reset with config := { Sector.reset.config with mode := .sensed }, status := .degraded } }

/-! ### The hypotheses of the statements are met -/

theorem test_hyp_EmptyQueue : State.reset.pending = [] := rfl

theorem test_hyp_ColdStartEnds : State.reset.pins.resetLow = true ∧
    State.reset.override = ⟨.clear, false, false, .clear⟩ ∧ State.reset.notices.override = none := ⟨rfl, rfl, rfl⟩

theorem test_hyp_ResetLowHolds : (∀ p, Instr.blockBoundary ≠ .coldStartEnd p) ∧ Instr.blockBoundary ≠ .coldStart ∧
    Instr.blockBoundary ≠ .alarmAssertion ∧ Instr.blockBoundary ≠ .alarmDeassertion :=
  ⟨nofun, nofun, nofun, nofun⟩

theorem test_hyp_AlarmLine : State.reset.pins.resetLow = true ∧ listening.pins.resetLow = false := ⟨rfl, rfl⟩

theorem test_hyp_Engage : (ask ()).items = some () ∧ listening.ready := ⟨rfl, test_listening_ready⟩

theorem test_hyp_Transactions : ({ listening with port := Port.reset } : State).pins.resetLow = false ∧
    ({ listening with port := Port.reset } : State).port.transaction = none ∧
    (listening.setInProgress 7 (.answered (okBody []))).port.inProgress = some ⟨7, .answered ⟨.ok, []⟩⟩ :=
  ⟨rfl, rfl, rfl⟩

theorem test_misoBytes : State.reset.misoByte 0 = some 0xFF ∧ listening.misoByte 0 = some 0 ∧
    listening.misoByte 5 = some (BitVec.ofNat 8 ((crc16 [0, 0, 0, 0]).toNat / 256)) ∧ listening.misoByte 6 = some 0xFF ∧
    stocked.pins.resetLow = false := by decide +kernel

/-- A transaction that began while a request was in progress. -/
def deaf : State :=
  { listening with port := ⟨none, some ⟨7, .answered (okBody [])⟩, some ⟨⟨.notReady, 7, []⟩, false⟩, .feed 0⟩ }

theorem test_hyp_DiscardedReleases : isRelease (.nop (ask ())) = true ∧ isRelease .discardedRequest = true ∧
    deaf.pins.resetLow = false ∧ deaf.port.transaction.isSome = true ∧ deaf.judging = false :=
  ⟨rfl, rfl, rfl, rfl, rfl⟩

theorem test_hyp_BadRequests : unformedTag (.hold ⟨7, none⟩) = some 7 ∧ listening.ready := ⟨rfl, test_listening_ready⟩

/-- A numbered reference of a class the command does not accept. -/
theorem test_hyp_Unaccepted : (let refused := fun c => (after c stocked).port.inProgress = some ⟨7, .answered ⟨.badValue, []⟩⟩
    stocked.pins.resetLow = false ∧ stocked.judging = true ∧ refused (.unbind (ask (P 1 0))) ∧
    refused (.lead (ask ⟨F 3, P 1 0⟩)) ∧ refused (.bind (ask ⟨F 3, F 3⟩)) ∧ refused (.base (ask ⟨P 3 0, F 255⟩)) ∧
    refused (.set (ask ⟨.numbered .sector 3 0, 0, 0, 1, 1⟩)) ∧
    refused (.sensorSet (ask { noFields with gain := some 1 })) ∧
    refused (.sectorSet (ask ⟨P 1 0, some 1, none, none, none, none, none⟩))) := by decide +kernel

theorem test_hyp_Look : stocked.ready ∧ stocked.resolve (P 1 0) = .ok ⟨.profile, 1, 0⟩ ∧
    (recordNumbers 1 16 16).all (inClass .profile) = true ∧ (recordNumbers 94 2 2).all (inClass .feed) = false ∧
    (stocked.handle 0).gen.val = 0 ∧ (stocked.handle 0).state ≠ .free ∧ stocked.unwatched .portLook (.feed 0) ∧
    ([1, 17].filterMap (stocked.recordNamed .feed)).getLast? = some (.feed 17) ∧
    guarded.stops .portLook (.feed 15) = true := by
  refine ⟨test_stocked_ready, rfl, by decide, by decide, by decide +kernel, by decide +kernel,
    fun i => ?_, by decide +kernel, by decide +kernel⟩
  fin_cases i <;> rfl

/-- F14 and F15 are returned and F16 is stopped; a NOTIFY watch records the LOOK of the last. -/
theorem test_hyp_LookNames : inClass .profile 0 = false ∧ inClass .profile 255 = true ∧ inClass .feed 96 = false ∧
    stocked.recordNamed .feed 95 = some (.feed 95) ∧ stocked.recordNamed .profile 1 = some (.profile ⟨0, 0⟩) ∧
    stocked.recordNamed .profile 255 = some (.profile ⟨254, 0⟩) ∧ stocked.recordNamed .sector 15 = some (.sector 15) ∧
    stocked.recordNamed .sensor 8 = none := by decide +kernel

/-- A FREE handle, a profile with a base and no trim, a profile with a section, and a channel (R157, R158). -/
theorem test_images : stocked.profileImage 3 = [4, 0, 0] ∧
    stocked.profileImage 1 = [2, 0, 2, 1, 0, 6, 0, 4, 0, 1, 2, 0, 1, 1, 0, 0xFF, 0xFF, 10, 0, 1, 0] ∧
    (stocked.profileImage 0).drop 15 = [0xA0, 0, 0, 0, 0, 1, 0, 0, 0xE8, 3, 0, 0, 100, 0] ∧
    (measuring false).sensorImage 0 = [0, 0, 10, 1, 0, 0, 1, 2, 1, 1, 0, 0, 0x80, 0, 0x80] ∧
    (stocked.sectorImage 2).take 15 = [0, 1, 200, 0, 0x26, 0x86, 0, 0, 20, 30, 0, 0x80, 1, 2, 0] ∧
    (stocked.feedImage 4).take 6 = [4, 0, 0, 1, 0, 0] := by decide +kernel

/-- The rows of R118. -/
theorem test_hyp_OutputState : FeedRender.reset.outputState = .silent ∧
    ((sounding .clear .clear).renderOf 1).outputState = .steady ∧
    ((sounding .clear .clear).renderOf 2).outputState = .gliding ∧
    (let fading := fun kind source =>
       ({ FeedRender.reset with source := source, transition := some ⟨kind, .silence, none, 0, 4⟩ } : FeedRender).outputState
     fading .fadeIn .normal = .fading ∧ fading .fadeOut .mute = .fading ∧ fading .crossfade .standby = .fading ∧
     fading .glide .standby = .gliding) ∧
    ({ FeedRender.reset with source := .mute } : FeedRender).outputState = .overrideSilent ∧
    ({ FeedRender.reset with source := .standby } : FeedRender).outputState = .onStandby := by decide +kernel

theorem test_hyp_LookWatched : ([14, 15, 16].filterMap (stocked.recordNamed .feed) = [.feed 14, .feed 15, .feed 16]) ∧
    (∀ x ∈ [RecordName.feed 14, .feed 15], guardedAbove.stops .portLook x = false) ∧
    guardedAbove.stops .portLook (.feed 16) = true ∧ noticed.stops .portLook (.feed 15) = false ∧
    ((after (.look (ask ⟨F 14, 3, 1⟩)) guardedAbove).port.cursor = .feed 15) ∧
    (let t := after (.look (ask ⟨F 14, 2, 1⟩)) noticed
     (t.watches.get 0).lastHit = some ⟨.feed 15, .portLook, false, true⟩ ∧ t.notices.watch0 = true ∧
     t.port.cursor = .feed 15) := by decide +kernel

theorem test_hyp_LookFails : (stocked.setCursor (.sensor 7)).resolve .next = .error .outOfRange ∧
    (stocked.setCursor (.sensor 7)).resolve .referred = .error .noReference ∧
    (stocked.setCursor (.sector 0)).resolve .previous = .error .outOfRange ∧
    (stocked.setCursor (.profile ⟨254, 0⟩)).resolve .next = .error .outOfRange ∧
    (stocked.setCursor (.profile ⟨254, 0⟩)).resolve .referred = .error .free ∧
    (stocked.setCursor (.profile ⟨0, 1⟩)).resolve .referred = .error .stale ∧
    (stocked.setCursor (.profile ⟨0, 0⟩)).resolve .referred = .error .noReference ∧ stocked.baseOf 0 = none ∧
    (stocked.setCursor (.profile ⟨0, 1⟩)).pins.resetLow = false ∧ (stocked.setCursor (.profile ⟨0, 1⟩)).judging = true := by
  decide +kernel

theorem test_hyp_Find : stocked.ready ∧ stocked.resolve (F 95) = .ok ⟨.feed, 95, 0⟩ ∧ inClass .feed 95 = true ∧
    stocked.resolve (P 0 0) = .ok ⟨.profile, 0, 0⟩ ∧ inClass .profile 0 = false ∧
    stocked.resolve .previous = .error .outOfRange := ⟨test_stocked_ready, rfl, rfl, rfl, rfl, rfl⟩

theorem test_hyp_Notices : hasKind (BitVec.allOnes 11) .imageInvalid = true ∧ hasKind 1 .policy = false := by decide

/-- The first occurrence keeps its place while the flag is set (R163); the line follows flags, mask and RESET (R164). -/
theorem test_notices_kept : (let n := Notices.reset.raise (.resolveFault 3 .range)
    n.raise (.resolveFault 4 .leadUnresolved) = n ∧ n.detail .resolveFault = [3, 1] ∧ n.flags = 1 ∧
    ((n.raise (.watch 1)).raise .imageInvalid).flags = 0x421 ∧
    (n.raise (.override .engaged .port)).detail .override = [1, 1] ∧
    ({ stocked with notices := n } : State).noticeLine = true ∧
    ({ stocked with notices := n, noticeMask := 2 } : State).noticeLine = false ∧
    ({ State.reset with notices := n } : State).noticeLine = false) := by decide +kernel

theorem test_hyp_NoticeMask : listening.ready ∧ fullMask = listening.noticeMask ∧ (0 : NoticeSet) ≠ listening.noticeMask ∧
    listening.longOperation = none ∧ ({ listening with image := .saving } : State).longOperation = some .saving :=
  ⟨test_listening_ready, rfl, by decide, rfl, rfl⟩

theorem test_hyp_Watches : listening.ready ∧ (ask (⟨1, watched 80 16⟩ : WatchSetItems)).items = some ⟨(1 : WatchNo).val, watched 80 16⟩ ∧
    watchConfigAllowed (watched 80 16) = true ∧ watchConfigAllowed (watched 95 1) = true ∧
    watchConfigAllowed (watched 96 1) = false ∧ watchConfigAllowed (watched 0 3) = false :=
  ⟨test_listening_ready, rfl, by decide, by decide, by decide, by decide⟩

/-- The blocks of R144's table, at their ends, and PORT-ONLY. -/
theorem test_watch_blocks : (let on := fun (c : WatchConfig) (r : RecordName) => c.hits .portLook r
    let profiles := fun base span : Nat => ({ watched base span with cls := .profile } : WatchConfig)
    1 ≤ (watched 42 8).span ∧ on (watched 42 8) (.feed 40) = true ∧ on (watched 42 8) (.feed 47) = true ∧
    on (watched 42 8) (.feed 39) = false ∧ on (watched 42 8) (.feed 48) = false ∧
    on (watched 95 16) (.feed 80) = true ∧ on (watched 95 16) (.feed 95) = true ∧ on (watched 95 16) (.feed 79) = false ∧
    on (watched 12 1) (.feed 12) = true ∧ on (profiles 3 4) (.profile ⟨2, 7⟩) = true ∧
    on (profiles 3 4) (.profile ⟨3, 0⟩) = false ∧ on (profiles 250 16) (.profile ⟨239, 0⟩) = true ∧
    on (profiles 250 16) (.profile ⟨254, 0⟩) = true ∧ on (profiles 250 16) (.profile ⟨238, 0⟩) = false ∧
    on (profiles 3 4) (.feed 2) = false ∧ on (watched 0 16) (.sector 0) = false ∧
    (let portOnly : WatchConfig := { watched 12 1 with filter := .portOnly }
     portOnly.hits .portChange (.feed 12) = true ∧ portOnly.hits .take (.feed 12) = false ∧
     portOnly.hits .autoChange (.feed 12) = false ∧ (watched 12 1).hits .take (.feed 12) = true)) := by decide

/-- Watch 0 stops, watch 1 notifies: each records whether the access was stopped, and repeat where its hit was unread. -/
theorem test_watch_hits : (let first : Hit := ⟨.feed 3, .take, false, false⟩
    let s : State := { stocked with
      watches := (stocked.watches.upd 0 ⟨watched 0 16, some first⟩).upd 1 ⟨{ watched 3 1 with action := .notify }, none⟩ }
    let t := (s.watchTest .portChange (.feed 3)).1
    s.stops .portChange (.feed 3) = true ∧ (t.watches.get 0).lastHit = some ⟨.feed 3, .portChange, true, true⟩ ∧
    (t.watches.get 1).lastHit = some ⟨.feed 3, .portChange, true, false⟩ ∧ t.notices.flags = 0x30) := by decide +kernel

theorem test_hyp_SetFeedField : stocked.refFeed (F 3) = .ok 3 ∧ stocked.mayChange (.feed 3) ∧
    stocked.testSetFeed 3 4 250000 = .ok (.path 250000) ∧ stocked.testSetFeed 3 4 250001 = .error .badValue ∧
    stocked.testSetFeed 3 1 0 = .error .inUse ∧ stocked.testSetFeed 0 0 65535 = .ok (.label 0xFFFF) := by
  refine ⟨rfl, test_stocked_mayChange _, ?_, ?_, ?_, ?_⟩ <;> decide +kernel

theorem test_hyp_SetFeedMany : stocked.ready ∧ stocked.refFeed (F 80) = .ok 80 ∧ (80 : FeedNo).val + (16 - 1) * 1 ≤ 95 ∧
    stocked.longOperation = none ∧ stocked.poolSettled ∧ ∀ g : FeedNo, stocked.unwatched .portChange (.feed g) :=
  ⟨test_stocked_ready, rfl, by decide, rfl, (test_stocked_mayChange (.feed 0)).settled,
    fun g => test_stocked_unwatched _ (.feed g)⟩

/-- F1 and F2 take the tier, F3 is in use; F14 and F15 take the label, F16 is watched. -/
theorem test_hyp_SetFeedEnds : (after (.set (ask ⟨F 1, 1, 0, 2, 1⟩)) stocked).port.inProgress =
      some ⟨7, .answered ⟨.ok, byte1 2⟩⟩ ∧
    (after (.set (ask ⟨F 1, 1, 0, 2, 1⟩)) stocked).testSetFeed 3 1 0 = .error .inUse ∧
    (after (.set (ask ⟨F 14, 0, 5, 2, 1⟩)) guardedAbove).port.inProgress = some ⟨7, .answered ⟨.ok, byte1 2⟩⟩ ∧
    (after (.set (ask ⟨F 14, 0, 5, 2, 1⟩)) guardedAbove).testSetFeed 16 0 5 = .ok (.label 5) ∧
    (after (.set (ask ⟨F 14, 0, 5, 2, 1⟩)) guardedAbove).stops .portChange (.feed 16) = true ∧
    stocked.refFeed (F 1) = .ok 1 ∧ guardedAbove.refFeed (F 14) = .ok 14 := by decide +kernel

/-- The first record stopped by a watch, and ranges that end at and beyond F95. -/
theorem test_hyp_SetFeedRefused : guarded.refFeed (F 3) = .ok 3 ∧ guarded.testSetFeed 3 4 0 = .ok (.path 0) ∧
    guarded.stops .portChange (.feed 3) = true ∧
    (let answer := fun n count step =>
      (after (.set (ask ⟨F n, 0, 5, count, step⟩)) stocked).port.inProgress.map InProgress.work
     answer 95 0 1 = some (.answered ⟨.badValue, []⟩) ∧ answer 95 1 17 = some (.answered ⟨.badValue, []⟩) ∧
     answer 95 1 16 = some (.answered ⟨.ok, byte1 1⟩) ∧ answer 95 2 1 = some (.answered ⟨.outOfRange, []⟩)) := by
  decide +kernel

/-- A NOTIFY watch lets the change through and records it. -/
theorem test_hyp_Noticed : noticed.mayChange (.feed 3) ∧ noticed.mayChange (.profile ⟨2, 0⟩) ∧
    (noticed.observed (.feed 3)).notices.watch0 = true ∧
    (noticed.observed (.profile ⟨2, 0⟩)).watches.get 1 =
      ⟨(noticed.watches.get 1).config, some ⟨.profile ⟨2, 0⟩, .portChange, false, false⟩⟩ ∧
    (let t := after (.lead (ask ⟨F 3, F 7⟩)) noticed
     t.notices.watch0 = true ∧ (t.feed 3).lead = some 7 ∧
     (t.watches.get 0).lastHit = some ⟨.feed 3, .portChange, false, false⟩) :=
  ⟨⟨⟨rfl, rfl⟩, rfl, by decide +kernel, by unfold State.poolSettled; decide +kernel⟩,
    ⟨⟨rfl, rfl⟩, rfl, by decide +kernel, by unfold State.poolSettled; decide +kernel⟩, by decide +kernel, by decide +kernel,
    by decide +kernel⟩

def newContent : ProfileContent := ⟨9, .programme, some ⟨1, 0⟩, none, 0, .normal, List.replicate 12 (sec 20)⟩

def newPlan : CreatePlan :=
  ⟨3, ⟨18, 28⟩, [⟨10, 4⟩, ⟨46, 4050⟩], ⟨9, .programme, some ⟨0, 0⟩, none, 0, .normal, List.replicate 12 (sec 20)⟩⟩

/-- Requests that pass every test but that of a STOP watch. -/
theorem test_hyp_Stopped : guarded.testLead ⟨F 3, F 7⟩ = .ok ⟨3, some 7⟩ ∧ guarded.testClearFeed (F 3) = .ok 3 ∧
    guarded.testBind ⟨F 3, P 3 0⟩ = .ok ⟨3, 2⟩ ∧ guarded.testBindOverride ⟨F 3, P 3 0⟩ = .ok ⟨3, 2⟩ ∧
    guarded.longOperation = none ∧ guarded.locked = false ∧
    guardedNew.testCreate newContent = .ok newPlan ∧
    guardedNew.stops .portChange (.profile (guardedNew.newHandle newPlan)) = true ∧
    guardedProfile.testEditSections ⟨P 3 0, []⟩ = .ok ⟨2, ⟨14, 4⟩, guardedProfile.pool.free⟩ ∧
    guardedProfile.testBase ⟨P 3 0, P 1 0⟩ = .ok ⟨2, some ⟨0, 0⟩⟩ ∧ guardedProfile.testNamed (P 3 0) = .ok 2 ∧
    guardedProfile.testSetProfile 3 0 3 5 = .ok (2, .gainTrim 5) ∧
    guardedProfile.stops .portChange (.profile (guardedProfile.currentHandle 2)) = true ∧
    (let t := after (.retire (ask (P 3 0))) guardedProfile
     t.port.inProgress = some ⟨7, .answered ⟨.watched, []⟩⟩ ∧ t.handle 2 = guardedProfile.handle 2 ∧
     t.notices.watch1 = true) := by decide +kernel

theorem test_hyp_SetFeedTests : feedChange 5 2 = some (.action .switch) ∧ feedChange 3 8 = none ∧
    feedChange 2 15 = some (.sector 15) ∧ engagedState.locked = true ∧
    (engagedState.feed 5).overrideAction = .switch ∧ engagedState.longOperation = none := by decide +kernel

theorem test_setFeed_ranges : stocked.testSetFeed 0 4 (-250000) = .ok (.path (-250000)) ∧
    stocked.testSetFeed 0 4 250001 = .error .badValue ∧ stocked.testSetFeed 0 4 (-250001) = .error .badValue ∧
    stocked.testSetFeed 0 2 16 = .error .badValue ∧ stocked.testSetFeed 0 3 8 = .error .badValue ∧
    stocked.testSetFeed 0 5 2 = .error .badValue ∧ engagedState.testSetFeed 0 5 1 = .error .locked ∧
    stocked.testSetFeed 5 5 1 = .error .inUse ∧ stocked.testSetFeed 0 5 1 = .ok (.action .silence) ∧
    engagedState.testSetFeed 5 4 0 = .error .locked ∧ stocked.testSetFeed 7 1 0 = .error .inUse ∧
    stocked.testSetFeed 0 1 3 = .ok (.tier .test) := by decide +kernel

theorem test_hyp_LeadStored : stocked.ready ∧ accepts .feed (F 3) = true ∧ accepts .feed (F 255) = true ∧
    stocked.testLead ⟨F 3, F 7⟩ = .ok ⟨3, some 7⟩ ∧ stocked.testLead ⟨F 4, F 255⟩ = .ok ⟨4, none⟩ ∧
    stocked.testLead ⟨F 7, F 4⟩ = .error .cycle ∧ stocked.mayChange (.feed 3) := by
  refine ⟨test_stocked_ready, rfl, rfl, ?_, ?_, ?_, test_stocked_mayChange _⟩ <;> decide +kernel

/-- F10 leads over F9, F8 and F4 to F7, a chain of four links. -/
def chained : State :=
  { stocked with
    feeds := ((stocked.feeds.upd 8 { FeedEntry.reset with lead := some 4 }).upd 9 { FeedEntry.reset with lead := some 8 }).upd 10
      { FeedEntry.reset with lead := some 9 } }

theorem test_hyp_LeadChecks : stocked.refFeed (F 3) = .ok 3 ∧ isNoLead (F 255) = true ∧ isNoLead (F 96) = false ∧
    stocked.refFeed (F 96) = .error .outOfRange ∧ stocked.testLead ⟨F 96, F 7⟩ = .error .outOfRange ∧
    stocked.testLead ⟨F 3, F 96⟩ = .error .outOfRange ∧ stocked.testLead ⟨F 3, F 3⟩ = .error .cycle ∧
    ({ stocked with image := .saving } : State).testLead ⟨F 3, F 7⟩ = .error .saving ∧
    ({ stocked with image := .saving } : State).testLead ⟨F 3, F 96⟩ = .error .outOfRange ∧
    engagedState.testLead ⟨F 5, F 7⟩ = .error .locked ∧ engagedState.testLead ⟨F 5, F 255⟩ = .error .locked ∧
    engagedState.testLead ⟨F 3, F 255⟩ = .ok ⟨3, none⟩ ∧ chained.depth 10 = 4 ∧ chained.height 7 = 4 ∧
    chained.height 4 = 3 ∧ chained.testLead ⟨F 3, F 9⟩ = .ok ⟨3, some 9⟩ ∧
    chained.testLead ⟨F 3, F 10⟩ = .error .tooDeep ∧ chained.testLead ⟨F 7, F 3⟩ = .error .tooDeep ∧
    chained.testLead ⟨F 7, F 10⟩ = .error .cycle := by decide +kernel

theorem test_chained_sound : ChainsSound chained := ⟨by decide +kernel, nofun⟩

theorem test_hyp_ClearFeed : stocked.testClearFeed (F 3) = .ok 3 ∧ stocked.mayChange (.feed 3) ∧
    stocked.testClearFeed (F 0) = .ok 0 ∧ (stocked.feed 0).binding = none ∧
    (stocked.feed 0).overrideBinding = none := by
  refine ⟨?_, test_stocked_mayChange _, ?_, ?_, ?_⟩ <;> decide +kernel

theorem test_hyp_ClearFeedTests : stocked.refFeed .previous = .error .outOfRange ∧ accepts .feed .previous = true ∧
    stocked.refFeed (F 5) = .ok 5 ∧ engagedState.testClearFeed (F 5) = .error .locked ∧
    stocked.testClearFeed (F 5) = .ok 5 ∧ stocked.testClearFeed (F 7) = .error .hasFollowers ∧
    ({ stocked with image := .saving } : State).testClearFeed (F 7) = .error .saving := by decide +kernel

/-- The last reference to the RETIRING 2/0 goes with the binding of F3: it is freed, and its base 1/0 loses a reference. -/
theorem test_clearFeed_frees : (let t := after (.clearFeed (ask (F 3))) stocked
    t.handle 1 = ⟨.free, 1, none, 0, false, none⟩ ∧ (t.handle 0).refCount = 1 ∧ (t.handle 0).state = .live ∧
    t.pool.free = [⟨6, 8⟩, ⟨18, 4078⟩]) := by decide +kernel

theorem test_hyp_Bindings : stocked.testBind ⟨F 0, P 3 0⟩ = .ok ⟨0, 2⟩ ∧
    stocked.testBindOverride ⟨F 0, P 3 0⟩ = .ok ⟨0, 2⟩ ∧ stocked.mayChange (.feed 0) ∧
    stocked.testBind ⟨F 0, P 2 0⟩ = .error .retiring ∧ stocked.refProfile (P 3 0) = .ok 2 ∧
    stocked.longOperation = none ∧ (stocked.feed 0).binding = none := by
  refine ⟨?_, ?_, test_stocked_mayChange _, ?_, ?_, rfl, ?_⟩ <;> decide +kernel

theorem test_hyp_BindNames : stocked.refProfile (P 0 0) = .error .outOfRange ∧ stocked.refProfile (P 256 0) = .error .outOfRange ∧
    stocked.refProfile .current = .error .noReference ∧ stocked.refProfile (P 4 0) = .error .free ∧
    stocked.refProfile (P 255 0) = .error .free ∧ stocked.refProfile (P 1 1) = .error .stale ∧
    stocked.refFeed (F 96) = .error .outOfRange ∧ stocked.refFeed (F 95) = .ok 95 ∧
    stocked.refFeed (P 1 0) = .error .noReference ∧ stocked.testBind ⟨F 0, P 4 0⟩ = .error .free ∧
    stocked.testBind ⟨.previous, P 3 0⟩ = .error .outOfRange ∧ engagedState.testBindOverride ⟨F 0, P 4 0⟩ = .error .locked ∧
    ({ stocked with image := .saving } : State).testBind ⟨F 0, P 4 0⟩ = .error .saving ∧
    ({ stocked with image := .saving } : State).longOperation = some .saving := by decide +kernel

theorem test_hyp_BindingsRemoved : stocked.refFeed (F 5) = .ok 5 ∧ stocked.mayChange (.feed 5) ∧ stocked.locked = false ∧
    engagedState.locked = true ∧ (stocked.feed 5).overrideBinding = some ⟨0, 0⟩ ∧ (stocked.handle 0).state = .live := by
  refine ⟨rfl, test_stocked_mayChange _, ?_, ?_, ?_, ?_⟩ <;> decide +kernel

/-- 1/0 is RETIRING too, and its one reference is that of 2/0. -/
def cascading : State :=
  { stocked with
    handles := stocked.handles.upd 0 ⟨.retiring, 0, some ⟨0, 6⟩, 1, false, some recordA⟩
    feeds := stocked.feeds.upd 5 FeedEntry.reset }

theorem test_unbind_cascades : (let t := after (.unbind (ask (F 3))) cascading
    t.handle 1 = ⟨.free, 1, none, 0, false, none⟩ ∧ t.handle 0 = ⟨.free, 1, none, 0, false, none⟩ ∧
    t.pool.free = [⟨0, 14⟩, ⟨18, 4078⟩]) := by decide +kernel

theorem test_bind_replaces : (let t := after (.bind (ask ⟨F 3, P 3 0⟩)) stocked
    t.handle 1 = ⟨.free, 1, none, 0, false, none⟩ ∧ (t.handle 2).refCount = 1) := by decide +kernel

theorem test_hyp_ProfileCreated : stocked.ready ∧ stocked.testCreate newContent = .ok newPlan ∧
    stocked.testClone (P 2 0) = .ok ⟨3, ⟨10, 4⟩, [⟨18, 4078⟩], recordB⟩ ∧
    stocked.testCreate { newContent with gainTrim := 121 } = .error .badValue ∧
    stocked.mayChange (.profile (stocked.newHandle newPlan)) ∧
    ∀ b, newPlan.record.base = some b → (stocked.handle b.ix).state ≠ .free := by
  refine ⟨test_stocked_ready, by decide +kernel, by decide +kernel, by decide +kernel, test_stocked_mayChange _, ?_⟩
  intro b hb
  cases hb
  decide +kernel

/-- The only handle left FREE is 255. -/
def nearlyFull : State :=
  { stocked with handles := (Table.fill 255 ⟨.live, 0, none, 0, false, some recordC⟩).upd 254 HandleEntry.reset }

def derivedContent : ProfileContent := { newContent with base := some ⟨2, 0⟩ }

/-- 2/0 LIVE, so that only its own base stands against it as a base. -/
def based : State := { stocked with handles := stocked.handles.upd 1 ⟨.live, 0, some ⟨6, 4⟩, 1, false, some recordB⟩ }

def withFree (free : List Extent) : State := { stocked with pool := ⟨free, .idle, none⟩ }

theorem test_create_names : stocked.testCreate { newContent with base := some ⟨0, 0⟩ } = .error .outOfRange ∧
    stocked.testCreate { newContent with base := some ⟨4, 0⟩ } = .error .free ∧
    stocked.testCreate { newContent with base := some ⟨1, 1⟩ } = .error .stale ∧
    stocked.testCreate derivedContent = .error .retiring ∧ based.testCreate derivedContent = .error .tooDeep ∧
    handleIx 1 = some 0 ∧ (some (⟨0, 0⟩ : Handle)).map Handle.raw = some ⟨1, 0⟩ := by decide +kernel

theorem test_create_room : (nearlyFull.lowestFree = some 254) ∧
    (nearlyFull.setHandle 254 ⟨.live, 0, none, 0, false, some recordC⟩).testNewRecord recordC = .error .noHandle ∧
    (withFree [⟨0, 2⟩]).testNewRecord recordC = .error .noSpace ∧
    (withFree [⟨0, 2⟩, ⟨4, 2⟩]).testNewRecord recordC = .error .fragmented ∧
    (withFree [⟨0, 2⟩, ⟨4, 4⟩]).testNewRecord recordC = .ok ⟨3, ⟨4, 4⟩, [⟨0, 2⟩], recordC⟩ := by decide +kernel

theorem test_create_base : (stocked.setHandle 0 { stocked.handle 0 with
      record := some { recordA with sections := List.replicate 5 (sec 20) } }).testCreate newContent =
      .error .tooManySections ∧
    ({ stocked with policy := Table.fill 16 .refuse } : State).testCreate newContent = .error .policyRefused ∧
    stocked.refProfile (P 2 0) = .ok 1 ∧ (stocked.handle 1).record = some recordB ∧
    stocked.testClone (P 4 0) = .error .free := by decide +kernel

theorem test_hyp_SectionsReplaced : stocked.editWaits (P 1 0) = false ∧
    stocked.testEditSections ⟨P 1 0, [sec 20, sec 30]⟩ = .ok ⟨0, ⟨18, 8⟩, [⟨0, 6⟩, ⟨10, 4⟩, ⟨26, 4070⟩]⟩ ∧
    stocked.testEditSections ⟨P 3 0, [sec 20, sec 30]⟩ = .ok ⟨2, ⟨14, 8⟩, [⟨10, 4⟩, ⟨22, 4074⟩]⟩ ∧
    stocked.testEditSections ⟨P 1 0, []⟩ = .ok ⟨0, ⟨0, 4⟩, [⟨4, 2⟩, ⟨10, 4⟩, ⟨18, 4078⟩]⟩ ∧
    stocked.testEditSections ⟨P 2 0, []⟩ = .error .retiring ∧ stocked.mayChange (.profile (stocked.currentHandle 0)) := by
  refine ⟨?_, ?_, ?_, ?_, ?_, test_stocked_mayChange _⟩ <;> decide +kernel

theorem test_editSections_tests : engagedState.testEditSections ⟨P 1 0, []⟩ = .error .locked ∧
    engagedState.isOverrideProfile 0 = true ∧ stocked.isOverrideProfile 2 = false ∧
    stocked.testEditSections ⟨P 1 0, List.replicate 13 (sec 20)⟩ = .error .badValue ∧
    stocked.testEditSections ⟨P 4 0, []⟩ = .error .free ∧
    (stocked.setHandle 1 { stocked.handle 1 with
      record := some { recordB with sections := List.replicate 5 (sec 20) } }).testEditSections
      ⟨P 1 0, List.replicate 12 (sec 20)⟩ = .error .tooManySections ∧
    (withFree [⟨10, 1⟩]).testEditSections ⟨P 3 0, [sec 20]⟩ = .error .noSpace ∧
    (withFree [⟨10, 1⟩, ⟨12, 1⟩]).testEditSections ⟨P 3 0, [sec 20]⟩ = .error .fragmented := by decide +kernel

theorem test_hyp_BaseStored : stocked.testBase ⟨P 3 0, P 1 0⟩ = .ok ⟨2, some ⟨0, 0⟩⟩ ∧
    stocked.testBase ⟨P 1 0, P 3 0⟩ = .error .tooDeep := by decide +kernel

theorem test_hyp_BaseNone : stocked.testBase ⟨P 3 0, P 0 0⟩ = .ok ⟨2, none⟩ ∧ stocked.editWaits (P 3 0) = false ∧
    accepts .profile (P 0 0) = true ∧ stocked.baseOf 2 = none := by decide +kernel

theorem test_base_tests : isNoBase (P 0 0) = true ∧ isNoBase (P 1 0) = false ∧ stocked.refProfile (P 4 0) = .error .free ∧
    stocked.testBase ⟨P 4 0, P 1 0⟩ = .error .free ∧ stocked.testBase ⟨P 3 0, P 4 0⟩ = .error .free ∧
    engagedState.testBase ⟨P 1 0, P 0 0⟩ = .error .locked ∧ stocked.testBase ⟨P 2 0, P 0 0⟩ = .error .retiring ∧
    stocked.testBase ⟨P 3 0, P 2 0⟩ = .error .retiring ∧ stocked.testBase ⟨P 3 0, P 3 0⟩ = .error .tooDeep ∧
    based.testBase ⟨P 3 0, P 2 0⟩ = .error .tooDeep ∧
    ({ stocked with policy := Table.fill 16 .refuse } : State).testBase ⟨P 3 0, P 1 0⟩ = .error .policyRefused ∧
    (stocked.setHandle 2 { stocked.handle 2 with
      record := some { recordC with sections := List.replicate 12 (sec 20) } } |>.setHandle 0 { stocked.handle 0 with
      record := some { recordA with sections := List.replicate 5 (sec 20) } }).testBase ⟨P 3 0, P 1 0⟩ =
      .error .tooManySections := by decide +kernel

/-- The former base of 2/0 loses its last reference. -/
def rebasing : State :=
  { based with
    handles := based.handles.upd 0 ⟨.retiring, 0, some ⟨0, 6⟩, 1, false, some recordA⟩
    feeds := stocked.feeds.upd 5 FeedEntry.reset }

theorem test_base_frees : (let t := after (.base (ask ⟨P 2 0, P 3 0⟩)) rebasing
    t.handle 0 = ⟨.free, 1, none, 0, false, none⟩ ∧ (t.handle 2).refCount = 1 ∧
    (t.baseOf 1) = some ⟨2, 0⟩) ∧ rebasing.baseOf 1 = some ⟨0, 0⟩ := by decide +kernel

theorem test_hyp_ProfileFieldSet : stocked.ready ∧ stocked.refProfile (P 3 0) = .ok 2 ∧ profileChange 3 121 = none ∧
    stocked.testSetProfile 3 0 3 120 = .ok (2, .gainTrim 120) ∧ stocked.testSetProfile 3 0 2 (-1) = .ok (2, .latencyTrim none) ∧
    stocked.testSetProfile 2 0 1 0 = .error .retiring ∧ stocked.testSetProfile 2 0 0 65535 = .ok (1, .label 0xFFFF) ∧
    (stocked.handle 2).inMove = false ∧ stocked.mayChange (.profile (stocked.currentHandle 2)) := by
  refine ⟨test_stocked_ready, ?_, ?_, ?_, ?_, ?_, ?_, ?_, test_stocked_mayChange _⟩ <;> decide +kernel

theorem test_setProfile_fields : stocked.testSetProfile 3 0 1 3 = .ok (2, .tier .test) ∧
    stocked.testSetProfile 1 0 1 3 = .error .inUse ∧ based.testSetProfile 2 0 1 3 = .error .inUse ∧
    stocked.testSetProfile 3 0 2 7680 = .ok (2, .latencyTrim (some 7680)) ∧ profileChange 2 7681 = none ∧
    profileChange 2 (-2) = none ∧ profileChange 4 2 = none ∧ profileChange 1 4 = none ∧ profileChange 5 0 = none ∧
    stocked.testSetProfile 3 0 4 1 = .ok (2, .polarity .inverted) ∧ engagedState.testSetProfile 1 0 4 0 = .error .locked ∧
    stocked.testSetProfile 2 0 4 0 = .error .retiring ∧
    ({ stocked with image := .saving } : State).testSetProfile 3 0 4 0 = .error .saving := by decide +kernel

/-- Ranges of records beyond handle 255; a bad value that cannot wait is refused before the range, in move or not. -/
theorem test_setProfile_range : (let answer := fun (s : State) v count step =>
      (after (.set (ask ⟨P 250 0, 3, v, count, step⟩)) s).port.inProgress.map InProgress.work
    let s := stocked.setHandle 249 ⟨.live, 0, some ⟨18, 4⟩, 0, true, some recordC⟩
    answer s 5 17 1 = some (.answered ⟨.badValue, []⟩) ∧ answer s 5 1 0 = some (.answered ⟨.badValue, []⟩) ∧
    answer s 5 2 6 = some (.answered ⟨.outOfRange, []⟩) ∧ answer s 121 2 6 = some (.answered ⟨.badValue, []⟩) ∧
    answer s 121 2 5 = some (.waiting (.set ⟨[250, 255], some 0, 3, 121, 0⟩))) := by decide +kernel

theorem test_hyp_SetProfileMany : stocked.refProfile (P 1 0) = .ok 0 ∧ (2 : HandleIx).val = (0 : HandleIx).val + (3 - 1) * 1 ∧
    (∀ g, stocked.unwatched .portChange (.profile g)) ∧
    ∀ g : HandleIx, (∃ j, j < 3 ∧ g.val = (0 : HandleIx).val + j * 1) → (stocked.handle g).state ≠ .free := by
  refine ⟨by decide +kernel, rfl, fun g => test_stocked_unwatched _ (.profile g), ?_⟩
  rintro g ⟨j, hj, hg⟩
  have : g = 0 ∨ g = 1 ∨ g = 2 := by
    rw [Fin.ext_iff, Fin.ext_iff, Fin.ext_iff]
    simp only [Fin.isValue, Fin.val_zero, Nat.zero_add, Nat.mul_one] at hg ⊢
    omega
  rcases this with h | h | h <;> subst h <;> decide +kernel

/-- A gain trim of 1/0 is taken and that of the RETIRING 2/0 refused; a watch stops 2/0's label; with 3/0 in move the SET
from 1/0 by 2 waits there. -/
theorem test_hyp_SetProfileEnds :
    (after (.set (ask ⟨P 1 0, 3, 5, 1, 1⟩)) stocked).port.inProgress = some ⟨7, .answered ⟨.ok, byte1 1⟩⟩ ∧
    (after (.set (ask ⟨P 1 0, 3, 5, 1, 1⟩)) stocked).testSetProfile (handleNumber 1) 0 3 5 = .error .retiring ∧
    ((after (.set (ask ⟨P 1 0, 3, 5, 1, 1⟩)) stocked).handle 1).inMove = false ∧
    (after (.set (ask ⟨P 1 0, 0, 5, 1, 1⟩)) guardedProfile).port.inProgress = some ⟨7, .answered ⟨.ok, byte1 1⟩⟩ ∧
    (after (.set (ask ⟨P 1 0, 0, 5, 1, 1⟩)) guardedProfile).stops .portChange (.profile ⟨1, 0⟩) = true ∧
    (after (.set (ask ⟨P 1 0, 3, 5, 1, 2⟩)) (moving .running)).port.inProgress = some ⟨7, .answered ⟨.ok, byte1 1⟩⟩ ∧
    ((after (.set (ask ⟨P 1 0, 3, 5, 1, 2⟩)) (moving .running)).handle 2).inMove = true ∧
    (after (.set (ask ⟨P 1 0, 3, 5, 2, 2⟩)) (moving .running)).port.inProgress =
      some ⟨7, .waiting (.set ⟨[3], none, 3, 5, 1⟩)⟩ := by decide +kernel

theorem test_hyp_ContentEditWaits : (moving .running).ready ∧ (moving .running).refProfile (P 3 0) = .ok 2 ∧
    ((moving .running).handle 2).inMove = true ∧ profileChange 4 1 = some (.polarity .inverted) ∧
    handleNumber 2 + (16 - 1) * 16 ≤ 255 := by
  refine ⟨(test_moving_mayChange (.feed 0) _ (by decide)).ready, ?_, ?_, ?_, ?_⟩ <;> decide +kernel

/-- A value out of its range waits too, and is refused at the completion of the move. -/
theorem test_badContent_waits : profileChange 3 121 = none ∧
    (let t := after (.set (ask ⟨P 3 0, 3, 121, 1, 1⟩)) (moving .running)
     t.port.inProgress = some ⟨7, .waiting (.set ⟨[3], some 0, 3, 121, 0⟩)⟩ ∧
     (after .deferredEdit t).port.slot = some ⟨.badValue, 7, [0, 0, 1, 3, 0]⟩) := by decide +kernel

theorem test_hyp_Retire : stocked.testNamed (P 1 0) = .ok 0 ∧ 0 < (stocked.handle 0).refCount ∧
    stocked.testNamed (P 2 0) = .ok 1 ∧ (stocked.handle 1).state = .retiring ∧ stocked.testNamed (P 3 0) = .ok 2 ∧
    (stocked.handle 2).refCount = 0 ∧ stocked.baseOf 2 = none ∧ stocked.testNamed (P 4 0) = .error .free ∧
    (moving .running).testNamed (P 3 0) = .ok 2 ∧ (moving .stopping).testNamed (P 3 0) = .ok 2 := by decide +kernel

theorem test_retire_names : stocked.resolve (P 0 0) = .ok ⟨.profile, 0, 0⟩ ∧ stocked.testNamed (P 0 0) = .error .outOfRange ∧
    stocked.testNamed (P 255 0) = .error .free ∧ stocked.testNamed (P 1 1) = .error .stale ∧
    stocked.resolve .previous = .error .outOfRange ∧ stocked.testNamed .current = .error .noReference ∧
    ({ stocked with image := .saving } : State).testNamed (P 1 0) = .error .saving ∧
    ({ stocked with image := .saving } : State).testNamed (P 1 1) = .error .stale := by decide +kernel

theorem test_hyp_Retire_mayChange (r : RecordName) : stocked.mayChange r ∧ (moving .running).mayChange r ∧
    (moving .stopping).mayChange r :=
  ⟨test_stocked_mayChange r, test_moving_mayChange r _ (by decide), test_moving_mayChange r _ (by decide)⟩

theorem test_hyp_DropReference : (∀ b, stocked.baseOf 1 = some b → b.ix ≠ 1) ∧ (stocked.handle 1).state = .retiring ∧
    (stocked.handle 1).refCount ≤ 1 ∧ (stocked.handle 0).state ≠ .retiring ∧
    cascading.freedWith 1 = [1, 0] ∧ stocked.freedWith 1 = [1] := by
  refine ⟨?_, ?_, ?_, ?_, ?_, ?_⟩
  · intro b hb
    have h : stocked.baseOf 1 = some ⟨0, 0⟩ := by decide +kernel
    cases h.symm.trans hb
    decide
  all_goals decide +kernel

/-- The move of a retired record is abandoned; compaction completes, goes on or ends. -/
theorem test_hyp_Abandon : ({ stocked with pool := ⟨[], .stopping, none⟩ } : State).chooseMove = none ∧
    ({ stocked with pool := ⟨stocked.pool.free, .running, none⟩ } : State).chooseMove = some (⟨10, 4⟩, 2) ∧
    (after (.retire (ask (P 3 0))) (moving .running)).pool = ⟨[⟨10, 4086⟩], .idle, none⟩ ∧
    (after (.retire (ask (P 3 0))) (moving .stopping)).pool = ⟨[⟨10, 4086⟩], .idle, none⟩ := by decide +kernel

theorem test_hyp_Revive : stocked.resolve (P 2 0) = .ok ⟨.profile, 2, 0⟩ ∧ handleIx 2 = some 1 ∧
    (stocked.handle 1).state = .retiring ∧ stocked.stops .portChange (.profile ⟨1, 0⟩) = false ∧ stocked.poolSettled ∧
    guardedProfile.stops .portChange (.profile ⟨1, 0⟩) = true ∧ handleIx 255 = some 254 ∧
    (stocked.handle 254).state = .free := by
  refine ⟨rfl, rfl, ?_, ?_, (test_stocked_mayChange (.feed 0)).settled, ?_, rfl, ?_⟩ <;> decide +kernel

theorem test_hyp_CompactStart : freeListSound stocked.pool.free ∧ (⟨10, 4⟩ : Extent) ∈ stocked.pool.free ∧
    (stocked.handle 2).extent = some ⟨10 + 4, 4⟩ ∧
    (∀ g x, (stocked.handle g).extent = some x → x.offset = 10 + 4 → g = 2) ∧
    ∀ e ∈ stocked.pool.free, ¬ e.offset < 10 := by
  refine ⟨by unfold freeListSound; decide, by decide, by decide +kernel, ?_, by decide⟩
  have h : ∀ g, ((stocked.handle g).extent.map Extent.offset) = some 14 → g = 2 := by decide +kernel
  intro g x hx ho
  exact h g (by rw [hx]; exact congrArg some ho)

theorem test_hyp_CompactAtOnce : ∀ e ∈ listening.pool.free, ∀ g x, (listening.handle g).extent = some x →
    x.offset ≠ e.offset + e.len := by
  intro e _ g x hx
  have h : (listening.handle g).extent = none := by simp [State.handle, listening, State.reset, HandleEntry.reset]
  simp [h] at hx

theorem test_hyp_MoveCompletes : (moving .running).pool.move = some ⟨2, 10, 4, 8⟩ ∧ (moving .running).waitingEdit = none ∧
    ({ (moving .running) with handles := ((moving .running).handles.upd 2 ⟨.live, 0, some ⟨10, 4⟩, 0, false, some recordC⟩)
                              pool := ⟨[⟨14, 4082⟩], .running, none⟩ } : State).chooseMove = none := by decide +kernel

/-- A second hole, below a fourth record. -/
def movingOn (c : CompactionState) : State :=
  { moving c with
    handles := (moving c).handles.upd 3 ⟨.live, 0, some ⟨20, 4⟩, 0, false, some recordC⟩
    pool := ⟨[⟨18, 2⟩, ⟨24, 4072⟩], c, some ⟨2, 10, 4, 8⟩⟩ }

theorem test_moveCompletes_next : (after .moveComplete (movingOn .running)).pool.move = some ⟨3, 14, 4, 10⟩ ∧
    (after .moveComplete (movingOn .stopping)).pool = ⟨[⟨14, 6⟩, ⟨24, 4072⟩], .idle, none⟩ ∧
    (after .moveComplete (moving .stopping)).notices.compactionDone = true := by decide +kernel

theorem test_hyp_DeferredEdit : ((moving .running).settleMove ⟨2, 10, 4, 8⟩).testEditSections ⟨P 3 0, [sec 20]⟩ =
      .ok ⟨2, ⟨10, 6⟩, [⟨16, 4080⟩]⟩ ∧
    ((moving .running).setInProgress 7 (.waiting (.sections ⟨P 3 0, [sec 20]⟩))).waitingEdit =
      some (7, .sections ⟨P 3 0, [sec 20]⟩) ∧
    ((moving .running).settleMove ⟨2, 10, 4, 8⟩).testEditSections ⟨P 3 1, []⟩ = .error .stale := by decide +kernel

theorem test_hyp_DeferredBase : ((moving .running).settleMove ⟨2, 10, 4, 8⟩).testBase ⟨P 3 0, P 1 0⟩ = .ok ⟨2, some ⟨0, 0⟩⟩ ∧
    ((moving .running).settleMove ⟨2, 10, 4, 8⟩).testBase ⟨P 3 0, P 2 0⟩ = .error .retiring ∧
    ((moving .running).setInProgress 7 (.waiting (.base ⟨P 3 0, P 1 0⟩))).waitingEdit = some (7, .base ⟨P 3 0, P 1 0⟩) ∧
    (after .deferredEdit ((moving .running).setInProgress 7 (.waiting (.base ⟨P 3 0, P 1 0⟩)))).port.slot =
      some ⟨.ok, 7, []⟩ := by decide +kernel

theorem test_hyp_DeferredSet : ((moving .running).settleMove ⟨2, 10, 4, 8⟩).setWaits 3 3 0 = false ∧
    ((moving .running).settleMove ⟨2, 10, 4, 8⟩).testSetProfile 3 0 3 5 = .ok (2, .gainTrim 5) ∧
    ((moving .running).settleMove ⟨2, 10, 4, 8⟩).testSetProfile 3 0 3 121 = .error .badValue ∧
    (after .deferredEdit ((moving .running).setInProgress 7 (.waiting (.set ⟨[3], none, 3, 5, 1⟩)))).port.slot =
      some ⟨.ok, 7, [2]⟩ ∧
    (after .deferredEdit ((moving .running).setInProgress 7 (.waiting (.set ⟨[3, 4], none, 3, 5, 1⟩)))).port.slot =
      some ⟨.free, 7, [2, 0, 1, 4, 0]⟩ := by decide +kernel

/-- A NOTIFY watch on profiles 1 to 15 while a content edit waits. -/
def movingNoticed (e : WaitingEdit) : State :=
  { (moving .running).setInProgress 7 (.waiting e) with watches := noticed.watches }

theorem test_hyp_DeferredNoticed : ((movingNoticed (.base ⟨P 3 0, P 1 0⟩)).settleMove ⟨2, 10, 4, 8⟩).stops .portChange
      (.profile ⟨2, 0⟩) = false ∧
    (let hit := fun s => (s.watches.get 1).lastHit = some ⟨.profile ⟨2, 0⟩, .portChange, false, false⟩
     let t := after .deferredEdit (movingNoticed (.base ⟨P 3 0, P 1 0⟩))
     let u := after .deferredEdit (movingNoticed (.sections ⟨P 3 0, [sec 20]⟩))
     let v := after .deferredEdit (movingNoticed (.set ⟨[3], none, 3, 5, 1⟩))
     hit t ∧ t.notices.watch1 = true ∧ t.baseOf 2 = some ⟨0, 0⟩ ∧ hit u ∧ u.ownCount 2 = 1 ∧ hit v ∧
     v.port.slot = some ⟨.ok, 7, [2]⟩) := by decide +kernel

theorem test_hyp_Policy : ([⟨.safety, .test, .allow⟩, ⟨.test, .safety, .refuse⟩] : List PolicyChange).length ≤ 16 ∧
    (([⟨.safety, .test, .allow⟩, ⟨.test, .safety, .refuse⟩] : List PolicyChange).map
      fun c => (c.referrer, c.referred)).Nodup ∧
    ¬ (([⟨.safety, .test, .allow⟩, ⟨.safety, .test, .refuse⟩] : List PolicyChange).map
      fun c => (c.referrer, c.referred)).Nodup := by decide

theorem test_hyp_Rebuild : (∀ phase, stocked.image ≠ .loading phase) ∧ stocked.crossSectorFollowers = [(4, 2)] ∧
    ({ stocked with image := .loading .reading } : State).image = .loading .reading :=
  ⟨nofun, by decide +kernel, rfl⟩

theorem test_hyp_Queueing : resolving.resolver.inFlight = some ⟨3, 0⟩ ∧ stocked.resolver.queue.Nodup ∧
    ({ stocked with resolver := ⟨[3], none⟩ } : State).resolver = ⟨3 :: [], none⟩ := ⟨rfl, List.nodup_nil, rfl⟩

theorem test_hyp_ResolutionComputes : (stocked.feed 4).lead = some 7 ∧ (stocked.feed 7).geomDelay = some 100 ∧
    stocked.resolution 4 = .ok ⟨100, none, none⟩ ∧
    stocked.resolution 3 = .ok ⟨0, some ⟨160, [sec 1000], 10, .inverted, .programme 0⟩, none⟩ ∧
    stocked.resolution 5 = .ok ⟨0, none, some ⟨160, [sec 1000], 0, .normal, .evacuation⟩⟩ ∧
    (stocked.setFeed 4 { FeedEntry.reset with lead := some 3 }).resolution 4 = .error .leadUnresolved ∧
    (stocked.setFeed 4 { FeedEntry.reset with excessPath := -1000 }).resolution 4 = .error .range := by decide +kernel

theorem test_hyp_ResolutionFails : resolving.resolver.inFlight = some ⟨3, (resolving.feed 3).revision⟩ ∧
    (3 : FeedNo) ∉ resolving.resolver.queue ∧ (resolving.resolution 3).isOk = true ∧
    ({ guarded with resolver := resolving.resolver } : State).stops .autoChange (.feed 3) = true := by decide +kernel

theorem test_hyp_ResolutionSucceeds : (resolving.feed 3).lead ≠ some 3 ∧
    resolving.stops .autoChange (.feed 3) = false ∧
    resolving.resolution 3 = .ok ⟨0, some ⟨160, [sec 1000], 10, .inverted, .programme 0⟩, none⟩ := by decide +kernel

/-- The settled setting of R96 in its cases. -/
theorem test_hyp_Settled : (let x := fun kind source => ({ FeedRender.reset with
      source := source, active := some (played 1), transition := some ⟨kind, .silence, some (played 9), 1, 4⟩ } :
        FeedRender).settled
    x .glide .normal = some (played 9) ∧ x .fadeIn .normal = some (played 9) ∧ x .fadeOut .normal = none ∧
    x .crossfade .normal = some (played 1) ∧ x .glide .standby = some (played 1) ∧ x .fadeOut .mute = some (played 1) ∧
    FeedRender.reset.settled = none) := by decide

/-- The three sources of R80 in order: F9 in the sector of its lead F8, F2 by its entry (and the sweep), F1 by the sweep. -/
theorem test_followers : (let s : State := { stocked with
      feeds := ((stocked.feeds.upd 9 { FeedEntry.reset with lead := some 8 }).upd 2
        { FeedEntry.reset with lead := some 8, sector := 3 }).upd 1 { FeedEntry.reset with lead := some 7, sector := 3 }
      deps := ⟨stocked.deps.entries.upd 2 (some 0), stocked.deps.overflow.upd 0 true⟩ }
    s.followersToQueue 8 = [9, 2, 1]) := by decide +kernel

theorem test_hyp_Readings : ((measuring false).channel 0).reading = some ⟨0, false⟩ ∧
    ((measuring true).channel 0).reading = some ⟨0, true⟩ ∧ ((measuring false).channel 0).config.enabled = true ∧
    readingTemp ((measuring false).channel 0).config 600 = 600 ∧
    readingTemp ((measuring false).channel 0).config 601 = 601 ∧ (stocked.channel 1).config.enabled = false := by
  decide +kernel

theorem test_hyp_Clocks : ((stocked.setSector 0 { Sector.reset with sinceChange := some 65535, blocks := 1500 }).sector
      0).sinceChange = some 65535 ∧
    ((stocked.setChannel 1 { Channel.reset 1 with config := { (Channel.reset 1).config with enabled := true } }).channel
      1).reading = none := by decide +kernel

/-- Sector 1 with a VALID channel of the given average. -/
def warmed (average : Int) : State :=
  (measuring false).setChannel 0
    { (measuring false).channel 0 with state := .valid, window := [average], average := some average }

theorem test_hyp_SectorEvaluated : ((measuring false).sector 1).config.mode = .sensed ∧
    (measuring false).validAverages 1 = [] ∧ (warmed 204).validAverages 1 = [204] ∧
    ((stocked.sector 0).config.mode = .fixed) ∧
    Sector.testPasses ((warmed 204).sector 1) (speedAt 204) = true ∧
    Sector.testPasses ((warmed 203).sector 1) (speedAt 203) = false := by decide +kernel

/-- Under the override, with a VALID channel: a test that passes is deferred, and one that does not changes no speed. -/
theorem test_hyp_SectorDeferred : (let s := fun average : Int =>
      ({ warmed average with override := ⟨.engaged, true, false, .engaged⟩ } : State)
    (s 204).override.state = .engaged ∧ ((s 204).sector 1).config.mode = .sensed ∧ (s 204).validAverages 1 = [204] ∧
    Sector.testPasses ((s 204).sector 1) (speedAt 204) = true ∧
    (((s 204).fullEvaluation 1).sector 1).deferred = true ∧ (((s 204).fullEvaluation 1).sector 1).speed = 34342 ∧
    Sector.testPasses ((s 203).sector 1) (speedAt 203) = false ∧
    (((s 203).fullEvaluation 1).sector 1).deferred = false) := by decide +kernel

def sensorItems : SensorSetItems := ⟨.numbered .sensor 0 0, some true, none, none, none, none, none, some 60, some (some 15)⟩

theorem test_hyp_SensorSet : SensorSetFormed sensorItems = true ∧ stocked.refSensor sensorItems.sensor = .ok 0 ∧
    sensorValuesAllowed sensorItems (stocked.channel 0).config = true ∧
    sensorValuesAllowed { sensorItems with interval := some 61 } (stocked.channel 0).config = false ∧
    sensorValuesAllowed { sensorItems with positive := some .ground } (stocked.channel 0).config = false := by
  decide +kernel

/-- Channel 0 measuring on sector 1: a change of gain and interval, and a disabling. -/
theorem test_sensorSet_restarts : (let s := measuring false
    let ref := RecordRef.numbered .sensor 0 0
    let t := after (.sensorSet (ask { noFields with sensor := ref, gain := some 8, interval := some 60 })) s
    (t.channel 0).reading = some ⟨0, true⟩ ∧ (t.channel 0).toNext = 90000 ∧ (t.channel 0).state = .warming ∧
    (let u := after (.sensorSet (ask { noFields with sensor := ref, enabled := some false })) s
     (u.channel 0).reading = none ∧ (u.channel 0).toNext = 0) ∧
    (after (.sensorSet (ask { noFields with sensor := ref })) s).port.inProgress =
      some ⟨7, .answered ⟨.badValue, []⟩⟩) := by decide +kernel

/-- Channel 0 VALID on the SENSED sector 1 leaves it: the sector is DEGRADED. -/
theorem test_sensorSet_degrades : (let t := after (.sensorSet (ask { noFields with
      sensor := .numbered .sensor 0 0, sector := some none })) ((warmed 204).setSector 1
        { (warmed 204).sector 1 with status := .tracking })
    (t.sector 1).status = .degraded ∧ t.notices.sensorFault = some (.sector 1)) := by decide +kernel

def sectorItems (mode : SectorMode) (temp : Int) : SectorSetItems :=
  ⟨.numbered .sector 0 0, none, some mode, some temp, none, none, some 1536⟩

theorem test_hyp_SectorSet : SectorSetFormed (sectorItems .fixed 600) = true ∧
    stocked.refSector (sectorItems .fixed 600).sector = .ok 0 ∧ stocked.testSectorSet (sectorItems .fixed 600) = .ok 0 ∧
    stocked.testSectorSet (sectorItems .sensed 200) = .ok 0 ∧
    stocked.testSectorSet (sectorItems .fixed 601) = .error .badValue ∧
    engagedState.testSectorSet (sectorItems .fixed 200) = .error .locked ∧
    stocked.testSectorSet ⟨.numbered .sector 0 0, some 3, none, none, none, none, none⟩ = .error .inUse := by
  decide +kernel

theorem test_sector_sensor_names : stocked.refSector (.numbered .sector 15 0) = .ok 15 ∧
    stocked.refSector (.numbered .sector 16 0) = .error .outOfRange ∧ stocked.refSector .current = .error .noReference ∧
    stocked.refSector .previous = .error .outOfRange ∧ stocked.refSensor (.numbered .sensor 7 0) = .ok 7 ∧
    stocked.refSensor (.numbered .sensor 8 0) = .error .outOfRange ∧ stocked.refSensor .current = .error .noReference ∧
    sectorValuesAllowed ⟨P 0 0, some 3, none, some (-300), some 5, some 600, some 1536⟩ = true ∧
    sectorValuesAllowed ⟨P 0 0, some 4, none, none, none, none, none⟩ = false ∧
    sectorValuesAllowed ⟨P 0 0, none, none, some 601, none, none, none⟩ = false ∧ stocked.sectorLinked 2 = true := by
  decide +kernel

theorem test_sectorSet_degrades : (let t := after (.sectorSet (ask (sectorItems .sensed 200))) stocked
    (t.sector 0).status = .degraded ∧ (t.sector 0).awaitingFix = true ∧ t.notices.sensorFault = some (.sector 0)) ∧
    stocked.validAverages 0 = [] := by decide +kernel

theorem test_hyp_Boundary (state applied : OverrideState) : (sounding state applied).pins.resetLow = false ∧
    (sounding state applied).override.state = state ∧ (sounding state applied).override.applied = applied ∧
    ∀ f, (sounding state applied).unwatched .take (.feed f) :=
  ⟨rfl, rfl, rfl, fun f i => by fin_cases i <;> rfl⟩

theorem test_boundary : (let t := after .blockBoundary (sounding .clear .clear)
    (t.renderOf 1).transition = some ⟨.glide, .setting (played 1), some (played 2), 0, 384⟩ ∧
    (t.renderOf 2).active = some (played 9) ∧ (t.renderOf 3).outputState = .fading) := by decide +kernel

/-- Under the applied override: F1 on STANDBY with a new STANDBY, F2 on STANDBY with one at the delay in play, F5 muted, whose
STANDBY has come; F6 muted with a silence order; F7 takes its PENDING, which a watch stops. -/
def evacuating : State :=
  { stocked with
    override := { Override.reset with state := .engaged, portActive := true, applied := .engaged }
    watches := stocked.watches.upd 0 ⟨watched 7 1, none⟩
    render := ((((stocked.render.upd 1
      { FeedRender.reset with source := .standby, standby := some (played 600), standbyInPlay := some (played 5) }).upd 2
      { FeedRender.reset with
        source := .standby, standby := some { played 5 with gain := -10 }, standbyInPlay := some (played 5) }).upd 5
      { FeedRender.reset with source := .mute, standby := some (played 5) }).upd 6
      { FeedRender.reset with source := .mute, active := some (played 1), silenceOrder := true }).upd 7
      { FeedRender.reset with active := some (played 1), pending := some (played 2) } }

theorem test_hyp_Evacuating : evacuating.pins.resetLow = false ∧ evacuating.override.applied = evacuating.override.state ∧
    evacuating.takeDue 7 = true ∧ evacuating.stops .take (.feed 7) = true ∧ evacuating.takeDue 1 = false := by
  decide +kernel

theorem test_evacuating : (let t := after .blockBoundary evacuating
    (t.renderOf 1).transition = some ⟨.glide, .setting (played 5), some (played 600), 0, 384⟩ ∧
    (t.renderOf 1).transition.bind Transition.method = some .tapCrossfade ∧
    (t.renderOf 2).standbyInPlay = some { played 5 with gain := -10 } ∧
    (t.renderOf 5).transition = some ⟨.crossfade, .silence, some (played 5), 0, 4⟩ ∧
    (t.renderOf 6).active = none ∧ (t.renderOf 6).silenceOrder = false ∧
    (t.renderOf 7).takeStopped = true ∧ (t.renderOf 7).pending = some (played 2) ∧ t.notices.watch0 = true) := by
  decide +kernel

theorem test_glideMethod : glideMethod 0 512 = .tapSlip ∧ glideMethod 513 1 = .tapSlip ∧ glideMethod 0 513 = .tapCrossfade ∧
    glideMethod 513 0 = .tapCrossfade := by decide

/-- The output of a glide, of a fade-in over a faded output, and of a cut at the level reached. -/
theorem test_voices : (OutputLeft.partWay .glide (.setting (played 0)) (some (played 600)) 3 8).voices =
      [{ (played 600).voice .full with delay := .moving .tapCrossfade 0 600 3 8 }] ∧
    (OutputLeft.partWay .fadeOut (.setting (played 5)) none 2 4).voices = [(played 5).voice (.partWay .full .silent 2 4)] ∧
    (OutputLeft.partWay .fadeIn (.partWay .fadeOut (.setting (played 5)) none 2 4) (some (played 9)) 1 4).voices =
      [(played 9).voice (.partWay (.partWay .full .silent 2 4) .full 1 4)] ∧
    (OutputLeft.partWay .crossfade (.setting (played 5)) (some (played 9)) 4 4).voices =
      [(played 5).voice .silent, (played 9).voice .full] ∧
    (OutputLeft.atLevelOf (some (played 9)) (.partWay .fadeIn .silence (some (played 9)) 2 4)).voices =
      [(played 9).voice (.partWay .silent .full 2 4)] ∧
    (OutputLeft.partWay .fadeOut .silence none 2 4).voices = [] := by decide

/-- F5 has its STANDBY, and the engagement cuts a glide short. -/
def engaging : State :=
  (sounding .engaged .clear).setRender 5
    { FeedRender.reset with
      standby := some (played 5), active := some (played 1)
      transition := some ⟨.glide, .setting (played 1), some (played 9), 3, 8⟩ }

theorem test_hyp_Engaging : engaging.pins.resetLow = false ∧ engaging.override.state = .engaged ∧
    engaging.override.applied = .clear ∧ (engaging.feed 5).overrideAction = .switch ∧
    (engaging.renderOf 5).standby = some (played 5) ∧ (engaging.feed 1).overrideAction = .keep ∧
    engaging.takeDue 1 = true ∧
    (after .blockBoundary engaging).renderOf 5 =
      { FeedRender.reset with
        standby := some (played 5), active := some (played 9), source := .standby, standbyInPlay := some (played 5)
        transition := some ⟨.crossfade,
          .atLevelOf (some (played 9)) (.partWay .glide (.setting (played 1)) (some (played 9)) 4 8), some (played 5), 0, 4⟩ } := by
  decide +kernel

theorem test_hyp_Leaving : leaving.pins.resetLow = false ∧ leaving.override.state = .clear ∧
    leaving.override.applied = .engaged ∧ (∀ f, leaving.unwatched .take (.feed f)) ∧
    (leaving.renderOf 1).source ≠ .normal ∧ (leaving.renderOf 2).source = .standby ∧
    (leaving.renderOf 5).source = .mute :=
  ⟨rfl, rfl, rfl, fun f i => by fin_cases i <;> rfl, by decide +kernel, by decide +kernel, by decide +kernel⟩

/-- The take that the disengagement brings to F1 is stopped: the feed returns to ACTIVE and keeps its PENDING. -/
theorem test_leaving_stopped : (let s : State := { leaving with watches := leaving.watches.upd 0 ⟨watched 1 1, none⟩ }
    s.returnTakeDue 1 = true ∧ s.stops .take (.feed 1) = true ∧ (s.renderOf 0).source = .normal ∧
    (after .blockBoundary s).renderOf 1 =
      { FeedRender.reset with
        active := some (played 1), pending := some (played 2), takeStopped := true
        transition := some ⟨.fadeIn, .silence, some (played 1), 0, 4⟩ }) := by decide +kernel

theorem test_leaving_taken : leaving.returnTakeDue 1 = true ∧ leaving.stops .take (.feed 1) = false ∧
    leaving.returnTakeDue 2 = false ∧ leaving.returnTakeDue 5 = false := by decide +kernel

theorem test_hyp_TransitionCompletes : ((sounding .clear .clear).renderOf 2).transition =
    some ⟨.glide, .setting (played 1), some (played 9), 7, 8⟩ := by decide +kernel

/-- A fade-in whose blocks done have reached its length. -/
theorem test_hyp_TransitionDone :
    (let s := stocked.setRender 0 { FeedRender.reset with transition := some ⟨.fadeIn, .silence, some (played 9), 4, 4⟩ }
     (s.renderOf 0).transition = some ⟨.fadeIn, .silence, some (played 9), 4, 4⟩ ∧
     (after (.transitionComplete 0) s).renderOf 0 = { FeedRender.reset with active := some (played 9) }) := by
  decide +kernel

theorem test_hyp_Save : stocked.pool.compaction = .idle ∧ stocked.image = .idle ∧ (moving .running).pool.compaction ≠ .idle ∧
    (after (.save (ask ())) stocked).image = .saving ∧ crc32 [] = 0 ∧ crc32 [0] ≠ crc32 [] := by decide +kernel

/-- A state whose flash holds what a save of `stocked` writes. -/
def restorable (image : ImageStatus) : State :=
  { stocked with image := image, flash := .image 1 stocked.savedRecords .computed }

theorem test_hyp_Load : stocked.locked = false ∧ engagedState.locked = true ∧ validate .noImage = none ∧
    (restorable (.loading .reading)).image = .loading .reading ∧ stocked.longOperation = none := by decide +kernel

/-- What a save of `stocked` writes for F3, F5, 2/0 and the policy (R165). -/
theorem test_savedRecords : (let r := stocked.savedRecords
    (r.feeds.map RawFeed.binding)[3]? = some (some ⟨2, 0⟩) ∧ (r.feeds.map RawFeed.overrideAction)[5]? = some 2 ∧
    r.profiles.map RawProfile.handle = [⟨1, 0⟩, ⟨2, 0⟩, ⟨3, 0⟩] ∧ r.profiles.map RawProfile.state = [1, 2, 1] ∧
    r.sectors.length = 16 ∧ (r.channels.map RawChannel.positive) = [0, 1, 2, 3, 4, 5, 6, 7] ∧
    r.policy = [0, 1, 2, 2, 0, 0, 0, 1, 0, 0, 0, 1, 0, 0, 0, 0] ∧ r.noticeMask = 2047) := by decide +kernel

theorem test_hyp_StartupWait : (restorable (.waiting 45000)).image = .waiting 45000 ∧
    (after .startupWaitExpiry (restorable (.waiting 45000))).image = .loading .reading ∧
    (after .startupWaitExpiry (restorable (.waiting 0))).image = .loading .reading ∧
    (restorable (.waiting 1)).image.bytes = [1, 29] := by decide +kernel

theorem test_hyp_TablesReplaced : ∃ g, validate (restorable (.loading .reading)).flash = some g ∧ g.consistent = true ∧
    (restorable (.loading .reading)).locked = false ∧ (restorable (.loading (.held g))).image = .loading (.held g) := by
  have h : (validate (restorable (.loading .reading)).flash).any Image.consistent = true := by decide +kernel
  cases hv : validate (restorable (.loading .reading)).flash with
  | none => simp [hv] at h
  | some g => exact ⟨g, rfl, by simpa [hv] using h, by decide +kernel, rfl⟩

/-- The image of `stocked` with one field changed is refused. -/
theorem test_validation : (let r := stocked.savedRecords
    let valid := fun x : RawImage => (validate (.image 1 x .computed)).isSome
    valid r = true ∧ valid { r with noticeMask := 2048 } = false ∧
    valid { r with feeds := r.feeds.map fun f => { f with overrideAction := 2 } } = false ∧
    valid { r with feeds := r.feeds.map fun f => { f with lead := some 0 } } = false ∧
    valid { r with profiles := r.profiles ++ r.profiles } = false) := by decide +kernel

/-- With every profile RETIRING, 3/0, which nothing names, is freed. -/
theorem test_load_frees : (let r := stocked.savedRecords
    let t := after (.loadReadComplete .held) { stocked with
      image := .loading .reading
      flash := .image 1 { r with profiles := r.profiles.map fun p => { p with state := 2 } } .computed }
    (t.handle 0).state = .retiring ∧ (t.handle 0).refCount = 2 ∧ t.handle 2 = ⟨.free, 1, none, 0, false, none⟩ ∧
    (t.handle 1).extent = some ⟨6, 4⟩ ∧ t.pool.free = [⟨10, 4086⟩] ∧ t.notices.loadDone = some .loaded) := by
  decide +kernel

theorem test_hyp_FrameRoundTrip : Instr.wellFormed (.nop (ask ())) = true ∧
    encodeFrame (.nop (ask ())) = some [0x00, 7, 0, 0, 0x50, 0x01] := by decide +kernel

/-! ### The properties that a step keeps hold in a state with records -/

theorem stocked_handle : ∀ h, stocked.handle h =
    if h = 0 then ⟨.live, 0, some ⟨0, 6⟩, 2, false, some recordA⟩
    else if h = 1 then ⟨.retiring, 0, some ⟨6, 4⟩, 1, false, some recordB⟩
    else if h = 2 then ⟨.live, 0, some ⟨14, 4⟩, 0, false, some recordC⟩ else HandleEntry.reset := by decide +kernel

theorem stocked_owns (h : HandleIx) (w : Nat) : stocked.ownsWord h w ↔
    (h = 0 ∧ w < 6) ∨ (h = 1 ∧ 6 ≤ w ∧ w < 10) ∨ (h = 2 ∧ 14 ≤ w ∧ w < 18) := by
  unfold State.ownsWord Extent.holds
  rw [stocked_handle]
  by_cases h0 : h = 0
  · subst h0; simp
  · by_cases h1 : h = 1
    · subst h1; simp
    · by_cases h2 : h = 2
      · subst h2; simp
      · simp [h0, h1, h2, HandleEntry.reset]

theorem stocked_free (w : Nat) : stocked.freeWord w ↔ (10 ≤ w ∧ w < 14) ∨ (18 ≤ w ∧ w < 4096) := by
  simp [State.freeWord, Extent.holds, stocked]

theorem test_hyp_PoolSound : PoolSound stocked where
  listSound := by unfold freeListSound; decide
  inside := by
    intro w
    simp only [stocked_free, stocked_owns, Config.poolWords]
    constructor
    · rintro (h | ⟨h, hw⟩) <;> omega
    · intro hw
      by_cases h : (10 ≤ w ∧ w < 14) ∨ (18 ≤ w ∧ w < 4096)
      · exact Or.inl h
      · by_cases h6 : w < 6
        · exact Or.inr ⟨0, Or.inl ⟨rfl, h6⟩⟩
        · by_cases h10 : w < 10
          · exact Or.inr ⟨1, Or.inr (Or.inl ⟨rfl, by omega, h10⟩)⟩
          · exact Or.inr ⟨2, Or.inr (Or.inr ⟨rfl, by omega, by omega⟩)⟩
  freeApart := by
    intro h w hw
    rw [stocked_owns] at hw
    rw [stocked_free]
    omega
  handlesApart := by
    intro h g w hw gw
    rw [stocked_owns] at hw gw
    rcases hw with ⟨rfl, hw⟩ | ⟨rfl, hw⟩ | ⟨rfl, hw⟩ <;> rcases gw with ⟨rfl, gw⟩ | ⟨rfl, gw⟩ | ⟨rfl, gw⟩ <;>
      first | rfl | omega
  placed := by
    intro h
    rw [stocked_handle]
    split_ifs <;> simp [HandleEntry.reset]
  recorded := by
    intro h
    rw [stocked_handle]
    split_ifs <;> simp [HandleEntry.reset]
  wholeLength := by
    intro h x r _ hx hr
    rw [stocked_handle] at hx hr
    split_ifs at hx hr <;> simp_all [HandleEntry.reset] <;> subst hx <;> subst hr <;> rfl
  inMove := by
    intro h
    have : (stocked.handle h).inMove = false := by rw [stocked_handle]; split_ifs <;> rfl
    rw [this]
    exact ⟨nofun, fun ⟨m, hm, _⟩ => nomatch hm⟩
  moveSpan := nofun
  running := by decide +kernel
  heldImage := nofun

theorem stocked_binding : ∀ f, (stocked.feed f).binding = if f = 3 then some ⟨1, 0⟩ else none := by decide +kernel

theorem stocked_override : ∀ f, (stocked.feed f).overrideBinding = if f = 5 then some ⟨0, 0⟩ else none := by
  decide +kernel

theorem stocked_base (d : HandleIx) : stocked.baseOf d = if d = 1 then some ⟨0, 0⟩ else none := by
  unfold State.baseOf
  rw [stocked_handle]
  split_ifs <;> simp_all [recordA, recordB, recordC, HandleEntry.reset]

theorem stocked_references (h : HandleIx) : stocked.references h = if h = 0 then 2 else if h = 1 then 1 else 0 := by
  have h3 : (allFeeds.filter fun f => f = 3).length = 1 := by decide +kernel
  have h5 : (allFeeds.filter fun f => f = 5).length = 1 := by decide +kernel
  have h1 : (allHandles.filter fun d => d = 1).length = 1 := by decide +kernel
  have b : (fun f => namesHandle h (stocked.feed f).binding) = fun f => decide (h = 1) && decide (f = 3) := by
    funext f
    rw [stocked_binding, namesHandle]
    by_cases e : f = 3 <;> by_cases e' : h = 1 <;> simp [e, e', eq_comm]
  have o : (fun f => namesHandle h (stocked.feed f).overrideBinding) = fun f => decide (h = 0) && decide (f = 5) := by
    funext f
    rw [stocked_override, namesHandle]
    by_cases e : f = 5 <;> by_cases e' : h = 0 <;> simp [e, e', eq_comm]
  have d : (fun d => namesHandle h (stocked.baseOf d)) = fun d => decide (h = 0) && decide (d = 1) := by
    funext d
    rw [stocked_base, namesHandle]
    by_cases e : d = 1 <;> by_cases e' : h = 0 <;> simp [e, e', eq_comm]
  unfold State.references
  rw [b, o, d]
  by_cases e0 : h = 0
  · subst e0; simp [h5, h1]
  · by_cases e1 : h = 1
    · subst e1; simp [h3]
    · simp [e0, e1]

theorem test_hyp_ReferencesSound : ReferencesSound stocked where
  bindings := by
    intro f b hb
    rw [stocked_binding] at hb
    split_ifs at hb
    cases hb
    unfold State.namesProfile
    rw [stocked_handle]
    decide
  overrides := by
    intro f b hb
    rw [stocked_override] at hb
    split_ifs at hb
    cases hb
    unfold State.namesProfile
    rw [stocked_handle]
    decide
  bases := by
    intro d b hb
    rw [stocked_base] at hb
    split_ifs at hb
    cases hb
    unfold State.namesProfile
    rw [stocked_handle, stocked_base]
    decide
  counts := by
    intro h
    rw [stocked_references, stocked_handle]
    split_ifs <;> rfl
  recorded := by
    intro h
    rw [stocked_handle]
    split_ifs <;> simp [HandleEntry.reset]
  retiring := by
    intro h
    rw [stocked_handle]
    split_ifs <;> simp [HandleEntry.reset]
  switch := by
    have h : ∀ f, (stocked.feed f).overrideAction = if f = 5 then .switch else .keep := by decide +kernel
    intro f
    rw [h, stocked_override]
    split_ifs <;> simp
  heldImage := nofun

theorem test_hyp_OthersSound : PortSound stocked ∧ RenderSound stocked ∧ QueueSound stocked ∧ DependenciesSound stocked ∧
    OverrideSound stocked ∧ FaultsSound stocked ∧ DependenciesMatch stocked ∧ ChainsSound stocked := by
  refine ⟨?_, ?_, ?_, ?_, ?_, ?_, ?_, ?_, nofun⟩
  · unfold PortSound; decide +kernel
  · unfold RenderSound; decide +kernel
  · unfold QueueSound; decide +kernel
  · unfold DependenciesSound; decide +kernel
  · unfold OverrideSound; decide +kernel
  · unfold FaultsSound; decide +kernel
  · unfold DependenciesMatch; decide +kernel
  · decide +kernel

theorem test_hyp_ClimateSound : ClimateSound stocked := by
  refine ⟨?_, ?_, nofun⟩
  · unfold Channel.sound; decide +kernel
  · unfold Sector.sound; decide +kernel

/-- A request that changes the records is a step of such a state. -/
theorem test_hyp_Step : (∃ t, step { stocked with pending := [.retire (ask (P 3 0))] } = .next t) ∧
    ((after (.retire (ask (P 3 0))) stocked).handle 2).state = .free := ⟨step_next _, by decide +kernel⟩

end Sys2Proof.Tests
end

section
/-! ### References and their counts -/

namespace Sys2Proof.Machine

/-- One entry of a nodup list counted differently shifts the number of the counted by that entry alone. -/
theorem length_filter_of_differ {α : Type} {l : List α} (nodup : l.Nodup) {a : α} (mem : a ∈ l) {p q : α → Bool}
    (same : ∀ b, b ≠ a → p b = q b) :
    (l.filter p).length + (q a).toNat = (l.filter q).length + (p a).toNat := by
  induction l with
  | nil => simp at mem
  | cons b l ih =>
    rw [List.nodup_cons] at nodup
    by_cases hb : b = a
    · subst hb
      have rest : l.filter p = l.filter q :=
        List.filter_congr fun c hc => same c fun e => nodup.1 (e ▸ hc)
      simp only [List.filter_cons, rest]
      cases p b <;> cases q b <;> simp
    · have := ih nodup.2 ((List.mem_cons.mp mem).resolve_left (Ne.symm hb))
      simp only [List.filter_cons, same b hb]
      cases q b <;> simp <;> omega

/-- 1 for a reference to handle `g`, else 0. -/
def refersTo (g : HandleIx) (o : Option Handle) : Nat := (namesHandle g o).toNat

@[simp] theorem refersTo_none (g : HandleIx) : refersTo g none = 0 := by simp [refersTo, namesHandle]

theorem refersTo_some (g : HandleIx) (b : Handle) : refersTo g (some b) = if g = b.ix then 1 else 0 := by
  by_cases h : g = b.ix
  · simp [refersTo, namesHandle, h]
  · simp [refersTo, namesHandle, h, Ne.symm h]

theorem namesHandle_iff {h : HandleIx} {o : Option Handle} :
    namesHandle h o = true ↔ ∃ b, o = some b ∧ b.ix = h := by
  simp [namesHandle]

namespace State

variable {s t : State}

theorem feed_setFeed_eq (s : State) (f g : FeedNo) (e : FeedEntry) :
    (s.setFeed f e).feed g = if g = f then e else s.feed g := Table.get_upd s.feeds f g e

theorem handle_setHandle_eq (s : State) (h g : HandleIx) (e : HandleEntry) :
    (s.setHandle h e).handle g = if g = h then e else s.handle g := Table.get_upd s.handles h g e

theorem references_eq_zero_iff {h : HandleIx} : s.references h = 0 ↔
    (∀ f, namesHandle h (s.feed f).binding = false) ∧ (∀ f, namesHandle h (s.feed f).overrideBinding = false) ∧
    ∀ d, namesHandle h (s.baseOf d) = false := by
  simp [references, allFeeds, allHandles, and_assoc]

/-- What the references are counted from. -/
theorem references_congr (feeds : ∀ f, (t.feed f).binding = (s.feed f).binding ∧
      (t.feed f).overrideBinding = (s.feed f).overrideBinding) (bases : ∀ d, t.baseOf d = s.baseOf d) (h : HandleIx) :
    t.references h = s.references h := by
  simp only [references, feeds, bases]

/-- A change of one feed's bindings shifts the references by that feed's own. -/
theorem references_of_feed {f : FeedNo} (feeds : ∀ g, g ≠ f → t.feed g = s.feed g)
    (bases : ∀ d, t.baseOf d = s.baseOf d) (h : HandleIx) :
    t.references h + (refersTo h (s.feed f).binding + refersTo h (s.feed f).overrideBinding) =
      s.references h + (refersTo h (t.feed f).binding + refersTo h (t.feed f).overrideBinding) := by
  have mem : f ∈ allFeeds := List.mem_finRange f
  have nodup : allFeeds.Nodup := List.nodup_finRange 96
  have normal := length_filter_of_differ nodup mem (p := fun g => namesHandle h (t.feed g).binding)
    (q := fun g => namesHandle h (s.feed g).binding) fun g hg => by rw [feeds g hg]
  have standby := length_filter_of_differ nodup mem (p := fun g => namesHandle h (t.feed g).overrideBinding)
    (q := fun g => namesHandle h (s.feed g).overrideBinding) fun g hg => by rw [feeds g hg]
  simp only [references, refersTo, bases] at normal standby ⊢
  omega

/-- A change of one profile's base shifts the references by that profile's own. -/
theorem references_of_base {d : HandleIx} (feeds : t.feeds = s.feeds)
    (bases : ∀ g, g ≠ d → t.baseOf g = s.baseOf g) (h : HandleIx) :
    t.references h + refersTo h (s.baseOf d) = s.references h + refersTo h (t.baseOf d) := by
  have mem : d ∈ allHandles := List.mem_finRange d
  have nodup : allHandles.Nodup := List.nodup_finRange 255
  have shift := length_filter_of_differ nodup mem
    (p := fun g => namesHandle h (t.baseOf g)) (q := fun g => namesHandle h (s.baseOf g))
    fun g hg => by rw [bases g hg]
  have feed : ∀ f, t.feed f = s.feed f := fun f => by simp only [State.feed, feeds]
  simp only [references, refersTo, feed] at shift ⊢
  omega

/-! ### The count that falls just before a freeing is not read by it -/

theorem freeOne_lowerCount (s : State) (h : HandleIx) : (s.lowerCount h).freeOne h = s.freeOne h := by
  have entry : (s.lowerCount h).handle h = { s.handle h with refCount := (s.handle h).refCount - 1 } :=
    s.handle_lowerCount h
  have table : ∀ e, (s.lowerCount h).handles.upd h e = s.handles.upd h e := by
    intro e
    apply Table.ext_get
    intro g
    simp only [lowerCount, setHandle, Table.get_upd]
    split <;> rfl
  simp only [freeOne, entry, table]
  rfl

theorem freeHandle_lowerCount (s : State) (h : HandleIx) : (s.lowerCount h).freeHandle h = s.freeHandle h := by
  have base : (s.lowerCount h).baseOf h = s.baseOf h := by
    unfold baseOf
    rw [handle_lowerCount]
  unfold freeHandle
  rw [base, freeOne_lowerCount]

end State

/-! ### The invariant between the steps of a change

A change of a reference is made in several steps: the field is written, then the counts follow. Between them the
invariant holds with references still to be counted, and counted references that no field holds any more. -/

/-- `ReferencesSound`, but for `due` references of each handle that its count still leaves out, and `owed` references that it
counts and no field holds. -/
structure ReferencesBalanced (s : State) (due owed : HandleIx → Nat) : Prop where
  bindings : ∀ f b, (s.feed f).binding = some b → s.namesProfile b
  overrides : ∀ f b, (s.feed f).overrideBinding = some b → s.namesProfile b
  bases : ∀ h b, s.baseOf h = some b → s.namesProfile b ∧ s.baseOf b.ix = none
  counts : ∀ h, (s.handle h).refCount + due h = s.references h + owed h
  inUse : ∀ h, 0 < owed h → (s.handle h).state ≠ .free
  recorded : ∀ h, (s.handle h).state = .free ↔ (s.handle h).record = none
  retiring : ∀ h, (s.handle h).state = .retiring → 0 < (s.handle h).refCount
  switch : ∀ f, (s.feed f).overrideAction = .switch ↔ (s.feed f).overrideBinding.isSome = true
  heldImage : s.heldImageValid

theorem referencesBalanced_iff {s : State} :
    ReferencesBalanced s (fun _ => 0) (fun _ => 0) ↔ ReferencesSound s := by
  constructor
  · intro b
    exact ⟨b.bindings, b.overrides, b.bases, b.counts, b.recorded, b.retiring, b.switch, b.heldImage⟩
  · intro r
    exact ⟨r.bindings, r.overrides, r.bases, r.counts, fun _ h => absurd h (Nat.lt_irrefl 0), r.recorded, r.retiring,
      r.switch, r.heldImage⟩

/-- `t` holds the references, counts and handle states of `s`. -/
structure SameReferences (s t : State) : Prop where
  binding : ∀ f, (t.feed f).binding = (s.feed f).binding
  override : ∀ f, (t.feed f).overrideBinding = (s.feed f).overrideBinding
  action : ∀ f, (t.feed f).overrideAction = (s.feed f).overrideAction
  state : ∀ h, (t.handle h).state = (s.handle h).state
  gen : ∀ h, (t.handle h).gen = (s.handle h).gen
  refCount : ∀ h, (t.handle h).refCount = (s.handle h).refCount
  record : ∀ h, (t.handle h).record = none ↔ (s.handle h).record = none
  base : ∀ h, t.baseOf h = s.baseOf h
  image : t.heldImageValid ∨ t.image = s.image

namespace SameReferences

variable {s t u : State}

theorem refl (s : State) : SameReferences s s :=
  ⟨fun _ => rfl, fun _ => rfl, fun _ => rfl, fun _ => rfl, fun _ => rfl, fun _ => rfl, fun _ => Iff.rfl, fun _ => rfl,
    .inr rfl⟩

theorem trans (a : SameReferences s t) (b : SameReferences t u) : SameReferences s u where
  binding f := (b.binding f).trans (a.binding f)
  override f := (b.override f).trans (a.override f)
  action f := (b.action f).trans (a.action f)
  state h := (b.state h).trans (a.state h)
  gen h := (b.gen h).trans (a.gen h)
  refCount h := (b.refCount h).trans (a.refCount h)
  record h := (b.record h).trans (a.record h)
  base h := (b.base h).trans (a.base h)
  image := by
    rcases b.image with valid | eq
    · exact .inl valid
    · exact a.image.imp (fun valid => by unfold State.heldImageValid; rw [eq]; exact valid) eq.trans

/-- A change of neither the feeds nor the handles, with the image status as it was. -/
theorem of_eq (feeds : t.feeds = s.feeds) (handles : t.handles = s.handles) (image : t.image = s.image) :
    SameReferences s t := by
  constructor <;> simp [State.feed, State.handle, State.baseOf, feeds, handles, image]

/-- A change of neither the feeds nor the handles, with an image that waits valid. -/
theorem of_eq_valid (feeds : t.feeds = s.feeds) (handles : t.handles = s.handles) (valid : t.heldImageValid) :
    SameReferences s t := by
  refine ⟨?_, ?_, ?_, ?_, ?_, ?_, ?_, ?_, .inl valid⟩ <;>
    simp [State.feed, State.handle, State.baseOf, feeds, handles]

/-- A change of neither the feeds nor the handles, after which no image waits for the override. -/
theorem of_eq_unheld (feeds : t.feeds = s.feeds) (handles : t.handles = s.handles)
    (image : ∀ g, t.image ≠ .loading (.held g)) : SameReferences s t :=
  of_eq_valid feeds handles fun g hg => absurd hg (image g)

end SameReferences

namespace ReferencesBalanced

variable {s t : State} {due owed : HandleIx → Nat}

theorem of_same (b : ReferencesBalanced s due owed) (same : SameReferences s t) : ReferencesBalanced t due owed where
  bindings f x hx := by
    rw [State.namesProfile, same.state, same.gen]
    exact b.bindings f x ((same.binding f).symm.trans hx)
  overrides f x hx := by
    rw [State.namesProfile, same.state, same.gen]
    exact b.overrides f x ((same.override f).symm.trans hx)
  bases h x hx := by
    rw [State.namesProfile, same.state, same.gen, same.base]
    exact b.bases h x ((same.base h).symm.trans hx)
  counts h := by
    rw [same.refCount, State.references_congr (fun f => ⟨same.binding f, same.override f⟩) same.base]
    exact b.counts h
  inUse h hh := by rw [same.state]; exact b.inUse h hh
  recorded h := by rw [same.state, same.record]; exact b.recorded h
  retiring h := by rw [same.state, same.refCount]; exact b.retiring h
  switch f := by rw [same.action, same.override]; exact b.switch f
  heldImage := by
    rcases same.image with valid | eq
    · exact valid
    · unfold State.heldImageValid
      rw [eq]
      exact b.heldImage

/-- What is due and what is owed may be set off against each other. -/
theorem of_balance {due' owed' : HandleIx → Nat} (b : ReferencesBalanced s due owed)
    (balance : ∀ h, due' h + owed h = due h + owed' h) (less : ∀ h, owed' h ≤ owed h) :
    ReferencesBalanced s due' owed' :=
  { b with
    counts := fun h => by have := b.counts h; have := balance h; omega
    inUse := fun h hh => b.inUse h (by have := less h; omega) }

/-- Nothing refers to a FREE handle. -/
theorem free_unreferenced (b : ReferencesBalanced s due owed) {h : HandleIx} (free : (s.handle h).state = .free) :
    s.references h = 0 := by
  have unnamed : ∀ o : Option Handle, (∀ x, o = some x → s.namesProfile x) → namesHandle h o = false := by
    intro o names
    rw [Bool.eq_false_iff, Ne, namesHandle_iff]
    rintro ⟨x, hx, rfl⟩
    exact (names x hx).1 free
  rw [State.references_eq_zero_iff]
  exact ⟨fun f => unnamed _ (b.bindings f), fun f => unnamed _ (b.overrides f),
    fun d => unnamed _ fun x hx => (b.bases d x hx).1⟩

/-- Writing a feed: its new references are due, its old ones owed. -/
theorem setFeed (b : ReferencesBalanced s due owed) (f : FeedNo) (e : FeedEntry)
    (binding : ∀ x, e.binding = some x → s.namesProfile x)
    (override : ∀ x, e.overrideBinding = some x → s.namesProfile x)
    (switch : e.overrideAction = .switch ↔ e.overrideBinding.isSome = true) :
    ReferencesBalanced (s.setFeed f e)
      (fun h => due h + (refersTo h e.binding + refersTo h e.overrideBinding))
      (fun h => owed h + (refersTo h (s.feed f).binding + refersTo h (s.feed f).overrideBinding)) where
  bindings g x hx := by
    rw [State.feed_setFeed_eq] at hx
    split at hx
    · exact binding x hx
    · exact b.bindings g x hx
  overrides g x hx := by
    rw [State.feed_setFeed_eq] at hx
    split at hx
    · exact override x hx
    · exact b.overrides g x hx
  bases := b.bases
  counts h := by
    have shift := State.references_of_feed (s := s) (t := s.setFeed f e) (f := f)
      (fun g hg => State.feed_setFeed_other s e hg) (fun _ => rfl) h
    have := b.counts h
    have same : (s.setFeed f e).handle h = s.handle h := rfl
    rw [State.feed_setFeed] at shift
    rw [same]
    omega
  inUse h hh := by
    show (s.handle h).state ≠ .free
    by_cases old : 0 < owed h
    · exact b.inUse h old
    · intro free
      have unref := b.free_unreferenced free
      rw [State.references_eq_zero_iff] at unref
      have h1 : refersTo h (s.feed f).binding = 0 := by simp [refersTo, unref.1 f]
      have h2 : refersTo h (s.feed f).overrideBinding = 0 := by simp [refersTo, unref.2.1 f]
      omega
  recorded := b.recorded
  retiring := b.retiring
  switch g := by
    rw [State.feed_setFeed_eq]
    split
    · exact switch
    · exact b.switch g
  heldImage := b.heldImage

/-- Writing a handle that stays in use or comes into use: its new base is due, its old one owed. -/
theorem setHandle (b : ReferencesBalanced s due owed) (h : HandleIx) (e : HandleEntry) (gen : e.gen = (s.handle h).gen)
    (refCount : e.refCount = (s.handle h).refCount) (recorded : e.record ≠ none) (inUse : e.state ≠ .free)
    (retiring : e.state = .retiring → 0 < (s.handle h).refCount)
    (base : ∀ x, e.record.bind ProfileRecord.base = some x →
      s.namesProfile x ∧ x.ix ≠ h ∧ s.baseOf x.ix = none ∧ ∀ d, namesHandle h (s.baseOf d) = false) :
    ReferencesBalanced (s.setHandle h e) (fun g => due g + refersTo g (e.record.bind ProfileRecord.base))
      (fun g => owed g + refersTo g (s.baseOf h)) := by
  have entry := fun g => s.handle_setHandle_eq h g e
  have baseOf : ∀ g, (s.setHandle h e).baseOf g = if g = h then e.record.bind ProfileRecord.base else s.baseOf g := by
    intro g
    unfold State.baseOf
    rw [entry]
    split <;> rfl
  have names : ∀ x, s.namesProfile x → (s.setHandle h e).namesProfile x := by
    intro x hx
    rw [State.namesProfile, entry]
    split
    · next eq => exact ⟨inUse, by rw [gen, ← eq]; exact hx.2⟩
    · exact hx
  constructor
  case bindings => intro f x hx; exact names x (b.bindings f x hx)
  case overrides => intro f x hx; exact names x (b.overrides f x hx)
  case bases =>
    intro g x hx
    rw [baseOf] at hx ⊢
    split at hx
    · obtain ⟨named, other, plain, -⟩ := base x hx
      rw [if_neg other]
      exact ⟨names x named, plain⟩
    · have old := b.bases g x hx
      refine ⟨names x old.1, ?_⟩
      split
      · next eq =>
        rw [Option.eq_none_iff_forall_ne_some]
        intro y hy
        have unnamed := (base y hy).2.2.2 g
        rw [hx, ← eq] at unnamed
        simp [namesHandle] at unnamed
      · exact old.2
  case counts =>
    intro g
    have shift := State.references_of_base (s := s) (t := s.setHandle h e) (d := h) rfl
      (fun g hg => by rw [baseOf, if_neg hg]) g
    have := b.counts g
    rw [baseOf, if_pos rfl] at shift
    have same : ((s.setHandle h e).handle g).refCount = (s.handle g).refCount := by
      rw [entry]
      split
      · next eq => rw [refCount, eq]
      · rfl
    rw [same]
    omega
  case inUse =>
    intro g hg
    rw [entry]
    split
    · exact inUse
    · by_cases old : 0 < owed g
      · exact b.inUse g old
      · have named : namesHandle g (s.baseOf h) = true := by
          by_contra no
          have : refersTo g (s.baseOf h) = 0 := by simpa [refersTo] using no
          omega
        obtain ⟨x, hx, rfl⟩ := namesHandle_iff.mp named
        exact (b.bases h x hx).1.1
  case recorded =>
    intro g
    rw [entry]
    split
    · simp only [inUse, recorded]
    · exact b.recorded g
  case retiring =>
    intro g hg
    rw [entry] at hg ⊢
    split at hg
    · next eq => rw [if_pos eq, refCount]; exact retiring hg
    · next ne => rw [if_neg ne]; exact b.retiring g hg
  case switch => exact b.switch
  case heldImage => exact b.heldImage

/-- A profile that has a base is no base itself (R28). -/
theorem derived_unnamed (b : ReferencesBalanced s due owed) {h : HandleIx} {x : Handle} (has : s.baseOf h = some x)
    (d : HandleIx) : namesHandle h (s.baseOf d) = false := by
  rw [Bool.eq_false_iff, Ne, namesHandle_iff]
  rintro ⟨y, hy, rfl⟩
  rw [(b.bases d y hy).2] at has
  cases has

/-- The handles recounted, with what is due and owed after it. -/
theorem recount {due' owed' count : HandleIx → Nat} (b : ReferencesBalanced s due owed) (feeds : t.feeds = s.feeds)
    (image : t.image = s.image) (entry : ∀ h, t.handle h = { s.handle h with refCount := count h })
    (balance : ∀ h, count h + due' h + owed h = (s.handle h).refCount + due h + owed' h) (less : ∀ h, owed' h ≤ owed h)
    (retiring : ∀ h, (s.handle h).state = .retiring → 0 < count h) : ReferencesBalanced t due' owed' := by
  have feed : ∀ f, t.feed f = s.feed f := fun f => by simp only [State.feed, feeds]
  have base : ∀ h, t.baseOf h = s.baseOf h := fun h => by simp only [State.baseOf, entry]
  have names : ∀ x, s.namesProfile x → t.namesProfile x := fun x hx => by
    simpa only [State.namesProfile, entry] using hx
  constructor
  case bindings => intro f x hx; exact names x (b.bindings f x (feed f ▸ hx))
  case overrides => intro f x hx; exact names x (b.overrides f x (feed f ▸ hx))
  case bases =>
    intro h x hx
    rw [base] at hx ⊢
    exact ⟨names x (b.bases h x hx).1, (b.bases h x hx).2⟩
  case counts =>
    intro h
    have := b.counts h
    have := balance h
    rw [State.references_congr (s := s) (t := t) (fun f => by rw [feed]; exact ⟨rfl, rfl⟩) base, entry]
    dsimp only
    omega
  case inUse => intro h hh; rw [entry]; exact b.inUse h (Nat.lt_of_lt_of_le hh (less h))
  case recorded => intro h; rw [entry]; exact b.recorded h
  case retiring => intro h hh; rw [entry] at hh ⊢; exact retiring h hh
  case switch => intro f; rw [feed]; exact b.switch f
  case heldImage => unfold State.heldImageValid; rw [image]; exact b.heldImage

/-- A count rises: one reference less is due. -/
theorem raiseCount {h : HandleIx} (b : ReferencesBalanced s (fun g => due g + if g = h then 1 else 0) owed) :
    ReferencesBalanced (s.raiseCount h) due owed := by
  refine b.recount (count := fun g => (s.handle g).refCount + if g = h then 1 else 0) rfl rfl ?_ ?_ (fun _ => le_rfl) ?_
  · intro g
    rw [State.raiseCount, State.handle_setHandle_eq]
    split
    · next e => subst e; rfl
    · rfl
  · intro g
    omega
  · intro g hg
    exact Nat.lt_of_lt_of_le (b.retiring g hg) (Nat.le_add_right ..)

/-- A count falls, and does not reach 0 for a RETIRING handle: one reference less is owed. -/
theorem lowerCount {h : HandleIx} (b : ReferencesBalanced s (fun _ => 0) (fun g => owed g + if g = h then 1 else 0))
    (stays : (s.handle h).state ≠ .retiring ∨ 2 ≤ (s.handle h).refCount) :
    ReferencesBalanced (s.lowerCount h) (fun _ => 0) owed := by
  refine b.recount (count := fun g => (s.handle g).refCount - if g = h then 1 else 0) rfl rfl ?_ ?_
    (fun _ => Nat.le_add_right ..) ?_
  · intro g
    rw [State.lowerCount_handle]
    split
    · next e => subst e; rfl
    · rfl
  · intro g
    have := b.counts g
    by_cases e : g = h
    · simp only [e, if_true] at this ⊢
      omega
    · simp only [e, if_false]
      omega
  · intro g hg
    have := b.retiring g hg
    by_cases e : g = h
    · subst e
      have := stays.resolve_left (fun n => n hg)
      simp only [if_true]
      omega
    · simpa only [e, if_false, Nat.sub_zero] using this

/-- A handle that nothing refers to is freed: what it counted is settled, and the reference of its record to a base is
owed. -/
theorem freeOne {h : HandleIx} (b : ReferencesBalanced s (fun _ => 0) owed) (unref : s.references h = 0) :
    ReferencesBalanced (s.freeOne h) (fun _ => 0)
      (fun g => (if g = h then 0 else owed g) + refersTo g (s.baseOf h)) := by
  have entry := s.freeOne_handle h
  have unnamed := State.references_eq_zero_iff.mp unref
  have other : ∀ x : Handle, s.namesProfile x → namesHandle h (some x) = false → (s.freeOne h).namesProfile x := by
    intro x names un
    have ne : x.ix ≠ h := by simpa [namesHandle] using un
    rw [State.namesProfile, entry, if_neg ne]
    exact names
  have base : ∀ g, (s.freeOne h).baseOf g = if g = h then none else s.baseOf g := by
    intro g
    unfold State.baseOf
    rw [entry]
    split <;> rfl
  constructor
  case bindings => intro f x hx; exact other x (b.bindings f x hx) (hx ▸ unnamed.1 f)
  case overrides => intro f x hx; exact other x (b.overrides f x hx) (hx ▸ unnamed.2.1 f)
  case bases =>
    intro g x hx
    rw [base] at hx
    split at hx
    · cases hx
    · have := b.bases g x hx
      refine ⟨other x this.1 (hx ▸ unnamed.2.2 g), ?_⟩
      rw [base]
      split
      · rfl
      · exact this.2
  case counts =>
    intro g
    have shift := State.references_of_base (s := s) (t := s.freeOne h) (d := h) rfl
      (fun g hg => by rw [base, if_neg hg]) g
    have count := b.counts g
    rw [base, if_pos rfl, refersTo_none] at shift
    rw [entry]
    by_cases hg : g = h
    · subst hg
      have : refersTo g (s.baseOf g) = 0 := by simp [refersTo, unnamed.2.2 g]
      simp only [if_true]
      omega
    · simp only [hg, if_false]
      omega
  case inUse =>
    intro g hg
    rw [entry]
    by_cases e : g = h
    · subst e
      have : refersTo g (s.baseOf g) = 0 := by simp [refersTo, unnamed.2.2 g]
      simp [this] at hg
    · simp only [e, if_false] at hg ⊢
      by_cases old : 0 < owed g
      · exact b.inUse g old
      · have named : namesHandle g (s.baseOf h) = true := by
          by_contra no
          have : refersTo g (s.baseOf h) = 0 := by simpa [refersTo] using no
          omega
        obtain ⟨x, hx, rfl⟩ := namesHandle_iff.mp named
        exact (b.bases h x hx).1.1
  case recorded =>
    intro g
    rw [entry]
    split
    · simp
    · exact b.recorded g
  case retiring =>
    intro g hg
    rw [entry] at hg ⊢
    split at hg
    · cases hg
    · next e =>
      rw [if_neg e]
      exact b.retiring g hg
  case switch => exact b.switch
  case heldImage => exact b.heldImage

theorem stays_of_not_last {e : HandleEntry} (h : ¬ (e.state = .retiring ∧ e.refCount ≤ 1)) :
    e.state ≠ .retiring ∨ 2 ≤ e.refCount := by
  by_cases r : e.state = .retiring
  · exact .inr (by by_contra few; exact h ⟨r, by omega⟩)
  · exact .inl r

/-- A base loses a reference that its count holds and no field does (R34). -/
theorem dropBase {h : HandleIx} (b : ReferencesBalanced s (fun _ => 0) (fun g => owed g + if g = h then 1 else 0))
    (plain : s.baseOf h = none) : ReferencesBalanced (s.dropBase h) (fun _ => 0) owed := by
  by_cases last : (s.handle h).state = .retiring ∧ (s.handle h).refCount ≤ 1
  · have count := b.counts h
    simp only [if_true] at count
    rw [s.dropBase_of_last last.1 last.2, s.freeOne_lowerCount]
    refine (b.freeOne (h := h) (by omega)).of_balance ?_ ?_ <;> intro g <;> rw [plain, refersTo_none]
    · by_cases e : g = h
      · subst e; simp only [if_true]; omega
      · simp [e]
    · by_cases e : g = h
      · subst e; simp only [if_true]; omega
      · simp [e]
  · have stays := stays_of_not_last last
    rw [s.dropBase_of_stays stays]
    exact b.lowerCount stays

/-- A handle that nothing refers to is freed, with the cascade to its base (R34). -/
theorem freeHandle {h : HandleIx} (b : ReferencesBalanced s (fun _ => 0) owed) (unref : s.references h = 0) :
    ReferencesBalanced (s.freeHandle h) (fun _ => 0) (fun g => if g = h then 0 else owed g) := by
  have freed := b.freeOne unref
  unfold State.freeHandle
  cases e : s.baseOf h with
  | none => simpa only [e, refersTo_none, Nat.add_zero] using freed
  | some x =>
    simp only [e, refersTo_some] at freed
    refine freed.dropBase ?_
    have plain := (b.bases h x e).2
    unfold State.baseOf at plain ⊢
    rw [s.freeOne_handle]
    split
    · rfl
    · exact plain

/-- A handle loses a reference that its count holds and no field does (R33). -/
theorem dropReference {h : HandleIx}
    (b : ReferencesBalanced s (fun _ => 0) (fun g => owed g + if g = h then 1 else 0)) :
    ReferencesBalanced (s.dropReference h) (fun _ => 0) owed := by
  by_cases last : (s.handle h).state = .retiring ∧ (s.handle h).refCount ≤ 1
  · have count := b.counts h
    simp only [if_true] at count
    rw [s.dropReference_of_last last.1 last.2, s.freeHandle_lowerCount]
    refine (b.freeHandle (h := h) (by omega)).of_balance ?_ ?_ <;> intro g
    all_goals
      by_cases e : g = h
      · subst e; simp only [if_true]; omega
      · simp [e]
  · have stays := stays_of_not_last last
    rw [s.dropReference_of_stays stays]
    exact b.lowerCount stays

theorem dropOptional {o : Option Handle} (b : ReferencesBalanced s (fun _ => 0) (fun g => owed g + refersTo g o)) :
    ReferencesBalanced (s.dropOptional o) (fun _ => 0) owed := by
  cases o with
  | none =>
    simp only [refersTo_none, Nat.add_zero] at b
    exact b
  | some x =>
    simp only [refersTo_some] at b
    exact b.dropReference

end ReferencesBalanced

end Sys2Proof.Machine
end

section
/-! ### What the shared operations keep -/

namespace Sys2Proof.Machine

/-! #### Tests in order (R10, R35) -/

/-- A list of tests passes when its first passes and the rest does. -/
theorem except_bind_ok {ε α β : Type} {x : Except ε α} {f : α → Except ε β} {b : β} :
    (x >>= f) = .ok b ↔ ∃ a, x = .ok a ∧ f a = .ok b := by
  cases x with
  | error e => simp [bind, Except.bind]
  | ok a => simp [bind, Except.bind]

@[simp] theorem except_pure_ok {ε α : Type} {a b : α} : (pure a : Except ε α) = .ok b ↔ a = b := by
  simp [pure, Except.pure]

@[simp] theorem require_ok {holds : Bool} {st : Status} {u : Unit} : require holds st = .ok u ↔ holds = true := by
  unfold require
  split <;> simp_all

namespace State

variable {s t : State}

theorem nameHandle_ok {number gen : Nat} {h : HandleIx} (ok : s.nameHandle number gen = .ok h) :
    (s.handle h).state ≠ .free ∧ (s.handle h).gen.val = gen ∧ handleIx number = some h := by
  unfold nameHandle at ok
  split at ok
  · cases ok
  · next x hx =>
    split_ifs at ok with free present
    cases ok
    exact ⟨free, present, hx⟩

/-- A reference that yields a profile names one that exists (R32). -/
theorem refProfile_ok {ref : RecordRef} {h : HandleIx} (ok : s.refProfile ref = .ok h) : (s.handle h).state ≠ .free := by
  simp only [refProfile, except_bind_ok] at ok
  obtain ⟨t, -, -, -, named⟩ := ok
  exact (nameHandle_ok named).1

theorem namesProfile_currentHandle {h : HandleIx} (live : (s.handle h).state ≠ .free) :
    s.namesProfile (s.currentHandle h) := ⟨live, rfl⟩

/-- The release changes the port alone. -/
theorem endTransaction_frame (s : State) : ∃ p, s.endTransaction.1 = { s with port := p } := by
  unfold endTransaction beginTransaction
  dsimp only
  split
  · split <;> exact ⟨_, rfl⟩
  · exact ⟨_, rfl⟩

/-! #### Requests -/

section

variable {P : State → Prop} (port : ∀ s p, P s → P { s with port := p })

include port

/-- What no field of the port bears on, and every run of a request keeps, its release keeps. -/
theorem serve_keeps {α : Type} (r : Request α) (formed : α → Bool) {run : α → State → State × Work} (hs : P s)
    (keeps : ∀ a u, P u → P (run a u).1) : P (serve r formed run s) := by
  obtain ⟨p, ended⟩ := s.endTransaction_frame
  have hended : P s.endTransaction.1 := ended ▸ port s p hs
  rcases serve_cases r formed run s with e | e | ⟨a, -, -, -, e⟩ | e <;> rw [e]
  · exact hs
  · exact hended
  · exact port _ _ (keeps a _ hended)
  · exact port _ _ hended

theorem serveNow_keeps {α : Type} (r : Request α) (formed : α → Bool) {run : α → State → State × Answer} (hs : P s)
    (keeps : ∀ a u, P u → P (run a u).1) : P (serveNow r formed run s) :=
  serve_keeps port r formed hs fun a u hu => keeps a u hu

end

/-! #### The tests of the requests read no watch and no notice -/

section

variable (s : State) (w : Table Watch 2) (n : Notices)

theorem refFeed_watched (ref : RecordRef) : { s with watches := w, notices := n }.refFeed ref = s.refFeed ref := rfl

theorem refProfile_watched (ref : RecordRef) :
    { s with watches := w, notices := n }.refProfile ref = s.refProfile ref := rfl

theorem testSetFeed_watched (f : FeedNo) (field : Nat) (v : Int) :
    { s with watches := w, notices := n }.testSetFeed f field v = s.testSetFeed f field v := rfl

theorem testLead_watched (i : LeadItems) : { s with watches := w, notices := n }.testLead i = s.testLead i := rfl

theorem testClearFeed_watched (ref : RecordRef) :
    { s with watches := w, notices := n }.testClearFeed ref = s.testClearFeed ref := rfl

theorem testBindTo_watched (f : FeedNo) (ref : RecordRef) :
    { s with watches := w, notices := n }.testBindTo f ref = s.testBindTo f ref := by
  unfold testBindTo
  rw [refProfile_watched]
  rfl

theorem testBind_watched (i : BindItems) : { s with watches := w, notices := n }.testBind i = s.testBind i := by
  unfold testBind
  simp only [refFeed_watched, testBindTo_watched]
  rfl

theorem testBindOverride_watched (i : BindItems) :
    { s with watches := w, notices := n }.testBindOverride i = s.testBindOverride i := by
  unfold testBindOverride
  simp only [refFeed_watched, testBindTo_watched]
  rfl

theorem testUnbind_watched (ref : RecordRef) :
    { s with watches := w, notices := n }.testUnbind ref = s.testUnbind ref := rfl

theorem testUnbindOverride_watched (ref : RecordRef) :
    { s with watches := w, notices := n }.testUnbindOverride ref = s.testUnbindOverride ref := rfl

theorem testCreate_watched (c : ProfileContent) :
    { s with watches := w, notices := n }.testCreate c = s.testCreate c := rfl

theorem testClone_watched (ref : RecordRef) :
    { s with watches := w, notices := n }.testClone ref = s.testClone ref := rfl

theorem testEditSections_watched (i : EditSectionsItems) :
    { s with watches := w, notices := n }.testEditSections i = s.testEditSections i := rfl

theorem testBase_watched (i : BaseItems) : { s with watches := w, notices := n }.testBase i = s.testBase i := rfl

theorem testSetProfile_watched (number gen field : Nat) (v : Int) :
    { s with watches := w, notices := n }.testSetProfile number gen field v = s.testSetProfile number gen field v := rfl

theorem testNamed_watched (ref : RecordRef) :
    { s with watches := w, notices := n }.testNamed ref = s.testNamed ref := rfl

end

/-- A change request keeps what the watch test, the end of an abandoned move and the end of a wait keep, where its effect
keeps it of a state that passes its tests. The tests read no watch and no notice. -/
theorem takeChange_keeps {P : State → Prop} (watch : ∀ s a r, P s → P (s.watchTest a r).1)
    (abandon : ∀ s, P s → P s.afterAbandon) (wait : ∀ s, P s → P s.endWait) {α : Type} {test : State → Except Status α}
    (unread : ∀ s w n, test { s with watches := w, notices := n } = test s) (record : α → RecordName)
    {effect : α → State → State} (hs : P s) (keeps : ∀ a u, P u → test u = .ok a → P (effect a u)) :
    P (s.takeChange (test s) record effect).1 := by
  cases tested : test s with
  | error st => exact hs
  | ok a =>
    have hw := watch s .portChange (record a) hs
    cases stop : s.stops .portChange (record a) with
    | true => rw [takeChange_stopped s record effect a stop]; exact hw
    | false =>
      rw [takeChange_taken s record effect a stop]
      refine wait _ (abandon _ (keeps a _ hw ?_))
      rw [watchTest_frame, unread]
      exact tested

end State

/-! #### Operations that touch no reference -/

namespace SameReferences

variable {s t : State}

theorem of_feed {f : FeedNo} {e : FeedEntry} (feeds : t.feeds = s.feeds.upd f e) (handles : t.handles = s.handles)
    (image : t.image = s.image) (binding : e.binding = (s.feed f).binding)
    (override : e.overrideBinding = (s.feed f).overrideBinding) (action : e.overrideAction = (s.feed f).overrideAction) :
    SameReferences s t := by
  have feed : ∀ g, t.feed g = if g = f then e else s.feed g := fun g => by
    rw [State.feed, feeds, Table.get_upd]
    rfl
  have handle : ∀ h, t.handle h = s.handle h := fun h => by rw [State.handle, handles, State.handle]
  constructor
  case binding => intro g; rw [feed]; split <;> simp_all
  case override => intro g; rw [feed]; split <;> simp_all
  case action => intro g; rw [feed]; split <;> simp_all
  case image => exact .inr image
  all_goals simp [State.baseOf, handle]

theorem of_handle {h : HandleIx} {e : HandleEntry} (feeds : t.feeds = s.feeds) (handles : t.handles = s.handles.upd h e)
    (image : t.image = s.image) (state : e.state = (s.handle h).state) (gen : e.gen = (s.handle h).gen)
    (refCount : e.refCount = (s.handle h).refCount) (record : e.record = none ↔ (s.handle h).record = none)
    (base : e.record.bind ProfileRecord.base = s.baseOf h) : SameReferences s t := by
  have feed : ∀ f, t.feed f = s.feed f := fun f => by rw [State.feed, feeds, State.feed]
  have handle : ∀ g, t.handle g = if g = h then e else s.handle g := fun g => by
    rw [State.handle, handles, Table.get_upd]
    rfl
  constructor
  case state => intro g; rw [handle]; split <;> simp_all
  case gen => intro g; rw [handle]; split <;> simp_all
  case refCount => intro g; rw [handle]; split <;> simp_all
  case record => intro g; rw [handle]; split <;> simp_all
  case base =>
    intro g
    unfold State.baseOf at base ⊢
    rw [handle]
    split
    · next e => rw [base, e]
    · rfl
  case image => exact .inr image
  all_goals simp [feed]

theorem setFeed (s : State) (f : FeedNo) {e : FeedEntry} (binding : e.binding = (s.feed f).binding)
    (override : e.overrideBinding = (s.feed f).overrideBinding) (action : e.overrideAction = (s.feed f).overrideAction) :
    SameReferences s (s.setFeed f e) := .of_feed rfl rfl rfl binding override action

theorem queueFeed (s : State) (f : FeedNo) : SameReferences s (s.queueFeed f) := .of_feed rfl rfl rfl rfl rfl rfl

theorem queueFeeds (s : State) (fs : List FeedNo) : SameReferences s (s.queueFeeds fs) := by
  induction fs generalizing s with
  | nil => exact .refl s
  | cons f fs ih => exact (queueFeed s f).trans (ih _)

/-- A record rewritten under the same base. -/
theorem mapRecord (s : State) (h : HandleIx) {x : Option Extent} {m : Bool} (f : ProfileRecord → ProfileRecord)
    (base : ∀ r, (f r).base = r.base) :
    SameReferences s
      (s.setHandle h { s.handle h with extent := x, inMove := m, record := (s.handle h).record.map f }) := by
  refine .of_handle rfl rfl rfl rfl rfl rfl (by simp) ?_
  unfold State.baseOf
  cases (s.handle h).record <;> simp [base]

theorem watchTest (s : State) (a : Access) (r : RecordName) : SameReferences s (s.watchTest a r).1 :=
  .of_eq (by simp) (by simp) (by simp)

theorem endWait (s : State) : SameReferences s s.endWait := by
  unfold State.endWait
  split
  · exact .of_eq_unheld rfl rfl nofun
  all_goals exact .refl s

theorem beginMove (s : State) (x : Extent) (h : HandleIx) : SameReferences s (s.beginMove x h) :=
  .of_handle rfl rfl rfl rfl rfl rfl Iff.rfl rfl

theorem nextMove (s : State) : SameReferences s s.nextMove := by
  unfold State.nextMove
  split
  · refine .trans ?_ (beginMove _ _ _)
    exact .of_eq rfl rfl rfl
  · exact .of_eq rfl rfl rfl

theorem afterAbandon (s : State) : SameReferences s s.afterAbandon := by
  unfold State.afterAbandon
  split
  · exact .refl s
  · exact .refl s
  · exact nextMove s
  · exact .of_eq rfl rfl rfl

theorem settleMove (s : State) (m : MoveRecord) : SameReferences s (s.settleMove m) :=
  .of_handle rfl rfl rfl rfl rfl rfl Iff.rfl rfl

theorem endMove (s : State) : SameReferences s s.endMove := by
  unfold State.endMove
  dsimp only
  split
  · exact .of_eq rfl rfl rfl
  · refine .trans ?_ (nextMove _)
    exact .of_eq rfl rfl rfl

theorem notifyPolicy (s : State) (c : PolicyOutcome) (d : PolicyDetail) : SameReferences s (s.notifyPolicy c d) :=
  .of_eq (by simp) (by simp) (by simp)

end SameReferences

theorem ReferencesSound.of_same {s t : State} (r : ReferencesSound s) (same : SameReferences s t) : ReferencesSound t :=
  referencesBalanced_iff.mp ((referencesBalanced_iff.mpr r).of_same same)

/-- A change request keeps the references sound where its effect does. -/
theorem ReferencesSound.takeChange {s : State} (sound : ReferencesSound s) {α : Type} (test : State → Except Status α)
    (unread : ∀ s w n, test { s with watches := w, notices := n } = test s) (record : α → RecordName)
    {effect : α → State → State} (keeps : ∀ a u, ReferencesSound u → test u = .ok a → ReferencesSound (effect a u)) :
    ReferencesSound (s.takeChange (test s) record effect).1 :=
  State.takeChange_keeps (fun s a r h => h.of_same (.watchTest s a r)) (fun s h => h.of_same (.afterAbandon s))
    (fun s h => h.of_same (.endWait s)) unread record sound keeps

end Sys2Proof.Machine
end

section
/-! ### The change requests keep the references sound (R6, R28, R33) -/

namespace Sys2Proof.Machine

namespace ReferencesSound

variable {s : State}

theorem balanced (r : ReferencesSound s) : ReferencesBalanced s (fun _ => 0) (fun _ => 0) := referencesBalanced_iff.mpr r

/-- Writing a feed that keeps its bindings. -/
theorem setFeed (r : ReferencesSound s) {f : FeedNo} {e : FeedEntry} (binding : e.binding = (s.feed f).binding)
    (override : e.overrideBinding = (s.feed f).overrideBinding)
    (switch : e.overrideAction = .switch ↔ e.overrideBinding.isSome = true) : ReferencesSound (s.setFeed f e) := by
  refine referencesBalanced_iff.mp ((r.balanced.setFeed f e ?_ ?_ switch).of_balance ?_ ?_)
  · intro x hx
    exact r.bindings f x (binding ▸ hx)
  · intro x hx
    exact r.overrides f x (override ▸ hx)
  · intro h
    rw [binding, override]
    omega
  · intro h
    exact Nat.zero_le _

theorem queueFeed (r : ReferencesSound s) (f : FeedNo) : ReferencesSound (s.queueFeed f) := r.of_same (.queueFeed s f)

theorem queueFeeds (r : ReferencesSound s) (fs : List FeedNo) : ReferencesSound (s.queueFeeds fs) :=
  r.of_same (.queueFeeds s fs)

/-! #### Feeds -/

theorem applyFeedChange (r : ReferencesSound s) {f : FeedNo} {field : Nat} {v : Int} {c : FeedChange}
    (tested : s.testSetFeed f field v = .ok c) : ReferencesSound (s.applyFeedChange f c) := by
  have kept : ∀ e : FeedEntry, e.binding = (s.feed f).binding → e.overrideBinding = (s.feed f).overrideBinding →
      e.overrideAction = (s.feed f).overrideAction → ReferencesSound (s.setFeed f e) := fun e hb ho ha =>
    r.of_same (.setFeed s f hb ho ha)
  unfold State.applyFeedChange
  cases c with
  | label x => exact kept _ rfl rfl rfl
  | tier x => exact kept _ rfl rfl rfl
  | sector x => exact queueFeed (kept { s.feed f with sector := x } rfl rfl rfl) f
  | bus x => exact queueFeed (kept { s.feed f with bus := x } rfl rfl rfl) f
  | path x => exact queueFeed (kept { s.feed f with excessPath := x } rfl rfl rfl) f
  | action a =>
    refine r.setFeed rfl rfl ?_
    unfold State.testSetFeed at tested
    cases change : feedChange field v with
    | none => rw [change] at tested; cases tested
    | some c =>
      simp only [change, except_bind_ok, require_ok, except_pure_ok] at tested
      obtain ⟨-, settable, -, -, _, own, rfl⟩ := tested
      simp only [State.testFeedField, except_bind_ok, require_ok] at own
      obtain ⟨-, -, unbound⟩ := own
      have notSwitch : a ≠ .switch := by rintro rfl; cases settable
      rw [Option.isNone_iff_eq_none] at unbound
      simp [notSwitch, unbound]

theorem setFeedsLoop (r : ReferencesSound s) (field : Nat) (v : Int) (fs : List FeedNo) (done : Nat) :
    ReferencesSound (setFeedsLoop field v fs done s).1 := by
  induction fs generalizing s done with
  | nil => exact r
  | cons f fs ih =>
    have one : ReferencesSound (s.setOneFeed f field v).1 :=
      r.takeChange (fun s => s.testSetFeed f field v) (fun s w n => s.testSetFeed_watched w n f field v) _
        fun c u hu ok => hu.applyFeedChange ok
    unfold Machine.setFeedsLoop
    split
    · next s' c e =>
      rw [e] at one
      exact ih (one.of_same (t := s'.setCursor (.feed f)) (.of_eq rfl rfl rfl)) _
    · next s' st e =>
      rw [e] at one
      exact one

theorem applyLead (r : ReferencesSound s) (p : LeadPlan) : ReferencesSound (s.applyLead p) := by
  have stored : SameReferences s (s.storeLead p.follower p.lead) := by
    refine .trans (.setFeed s p.follower (e := { s.feed p.follower with lead := p.lead }) rfl rfl rfl) ?_
    unfold State.storeLead State.updateDependency
    dsimp only
    split
    · exact .of_eq rfl rfl rfl
    · split <;> exact .of_eq rfl rfl rfl
  have noted : ∀ u : State, SameReferences u (u.notifyOptLead p.follower p.lead) := by
    intro u
    unfold State.notifyOptLead
    split
    · exact (SameReferences.notifyPolicy _ _ _).trans (.notifyPolicy _ _ _)
    · exact .refl u
  exact r.of_same ((stored.trans (noted _)).trans (.queueFeed _ _))

theorem applyClearFeed (r : ReferencesSound s) (f : FeedNo) : ReferencesSound (s.applyClearFeed f) := by
  have cleared := r.balanced.setFeed f { s.feed f with
    bus := 0, binding := none, overrideBinding := none, overrideAction := .keep, lead := none
    excessPath := 0, geomDelay := none } nofun nofun (by simp)
  simp only [refersTo_none, Nat.add_zero, Nat.zero_add] at cleared
  have undone := (cleared.of_same (t := { s.setFeed f _ with deps := s.deps.remove f }) (.of_eq rfl rfl rfl)).of_balance
    (due' := fun _ => 0) (owed' := fun h => refersTo h (s.feed f).overrideBinding + refersTo h (s.feed f).binding)
    (fun h => by omega) (fun h => by omega)
  have dropped := undone.dropOptional.of_balance (due' := fun _ => 0)
    (owed' := fun h => 0 + refersTo h (s.feed f).overrideBinding) (fun h => by omega) (fun h => by omega)
  exact (referencesBalanced_iff.mp dropped.dropOptional).of_same (.queueFeed _ f)

/-- A new reference is counted before the old one is dropped (R33). -/
theorem replaceReference {t : State} {due owed : HandleIx → Nat} (b : ReferencesBalanced t due owed)
    {old : Option Handle}
    {new : HandleIx} (counts : ∀ h, due h + refersTo h old = (if h = new then 1 else 0) + owed h)
    (held : ∀ h, refersTo h old ≤ owed h) : ReferencesSound (t.replaceReference old new) := by
  have same := b.of_balance (due' := fun h => 0 + if h = new then 1 else 0) (owed' := fun h => 0 + refersTo h old)
    (fun h => by have := counts h; omega) (fun h => by have := held h; omega)
  exact referencesBalanced_iff.mp same.raiseCount.dropOptional

theorem testBindTo_ok {f : FeedNo} {ref : RecordRef} {p : BindPlan} (ok : s.testBindTo f ref = .ok p) :
    p.feed = f ∧ (s.handle p.profile).state ≠ .free := by
  simp only [State.testBindTo, except_bind_ok, require_ok, except_pure_ok] at ok
  obtain ⟨h, named, -, -, -, -, rfl⟩ := ok
  exact ⟨rfl, State.refProfile_ok named⟩

theorem applyBind (r : ReferencesSound s) {i : BindItems} {p : BindPlan} (tested : s.testBind i = .ok p) :
    ReferencesSound (s.applyBind p) := by
  simp only [State.testBind, except_bind_ok] at tested
  obtain ⟨f, -, -, -, bound⟩ := tested
  have live := (testBindTo_ok bound).2
  have written := r.balanced.setFeed p.feed { s.feed p.feed with binding := some (s.currentHandle p.profile) }
    (fun x hx => by cases hx; exact State.namesProfile_currentHandle live) (r.overrides p.feed) (r.switch p.feed)
  have replaced := replaceReference (old := (s.feed p.feed).binding) (new := p.profile) written
    (fun h => by simp only [refersTo_some, State.currentHandle]; omega) (fun h => by omega)
  exact (replaced.of_same (.notifyPolicy _ _ _)).of_same (.queueFeed _ _)

theorem applyUnbind (r : ReferencesSound s) (f : FeedNo) : ReferencesSound (s.applyUnbind f) := by
  have written := (r.balanced.setFeed f { s.feed f with binding := none } nofun (r.overrides f)
    (r.switch f)).of_balance (due' := fun _ => 0) (owed' := fun h => 0 + refersTo h (s.feed f).binding)
    (fun h => by simp only [refersTo_none]; omega) (fun h => by omega)
  exact (referencesBalanced_iff.mp written.dropOptional).of_same (.queueFeed _ f)

theorem applyBindOverride (r : ReferencesSound s) {i : BindItems} {p : BindPlan}
    (tested : s.testBindOverride i = .ok p) : ReferencesSound (s.applyBindOverride p) := by
  simp only [State.testBindOverride, except_bind_ok] at tested
  obtain ⟨f, -, -, -, -, -, bound⟩ := tested
  have live := (testBindTo_ok bound).2
  have written := r.balanced.setFeed p.feed
    { s.feed p.feed with overrideBinding := some (s.currentHandle p.profile), overrideAction := .switch }
    (r.bindings p.feed) (fun x hx => by cases hx; exact State.namesProfile_currentHandle live) (by simp)
  have replaced := replaceReference (old := (s.feed p.feed).overrideBinding) (new := p.profile) written
    (fun h => by simp only [refersTo_some, State.currentHandle]; omega) (fun h => by omega)
  exact (replaced.of_same (.notifyPolicy _ _ _)).of_same (.queueFeed _ _)

theorem applyUnbindOverride (r : ReferencesSound s) (f : FeedNo) : ReferencesSound (s.applyUnbindOverride f) := by
  have written := (r.balanced.setFeed f { s.feed f with overrideBinding := none, overrideAction := .keep }
    (r.bindings f) nofun (by simp)).of_balance (due' := fun _ => 0)
    (owed' := fun h => 0 + refersTo h (s.feed f).overrideBinding)
    (fun h => by simp only [refersTo_none]; omega) (fun h => by omega)
  exact (referencesBalanced_iff.mp written.dropOptional).of_same (.queueFeed _ f)

/-! #### Profiles -/

/-- Rewriting a profile under the base it has. -/
theorem rewrite (r : ReferencesSound s) {h : HandleIx} {e : HandleEntry} (gen : e.gen = (s.handle h).gen)
    (refCount : e.refCount = (s.handle h).refCount) (recorded : e.record ≠ none) (inUse : e.state ≠ .free)
    (retiring : e.state = .retiring → 0 < (s.handle h).refCount)
    (base : e.record.bind ProfileRecord.base = s.baseOf h) : ReferencesSound (s.setHandle h e) := by
  have written := r.balanced.setHandle h e gen refCount recorded inUse retiring fun x hx => by
    rw [base] at hx
    have unnamed := r.balanced.derived_unnamed hx
    refine ⟨(r.bases h x hx).1, ?_, (r.bases h x hx).2, unnamed⟩
    simpa [hx, namesHandle] using unnamed h
  refine referencesBalanced_iff.mp (written.of_balance (fun g => ?_) fun g => Nat.zero_le _)
  rw [base]
  omega

/-- A profile becomes RETIRING or LIVE. -/
theorem setState (r : ReferencesSound s) {h : HandleIx} {st : HandleState} (inUse : (s.handle h).state ≠ .free)
    (still : st ≠ .free) (retiring : st = .retiring → 0 < (s.handle h).refCount) :
    ReferencesSound (s.setHandle h { s.handle h with state := st }) := by
  exact r.rewrite rfl rfl (fun n => inUse ((r.recorded h).mpr n)) still retiring rfl

theorem applyRetire (r : ReferencesSound s) (h : HandleIx) : ReferencesSound (s.applyRetire h) := by
  unfold State.applyRetire
  dsimp only
  cases state : (s.handle h).state with
  | free => exact r
  | retiring => exact r
  | live =>
    by_cases none : (s.handle h).refCount = 0
    · simp only [none, if_true]
      refine referencesBalanced_iff.mp ((r.balanced.freeHandle (by rw [← r.counts, none])).of_balance ?_ ?_) <;>
        intro g <;> simp
    · simp only [none, if_false]
      exact r.setState (by simp [state]) (by simp) fun _ => Nat.pos_of_ne_zero none

theorem applyRevive (r : ReferencesSound s) (h : HandleIx) : ReferencesSound (s.applyRevive h) := by
  unfold State.applyRevive
  dsimp only
  cases state : (s.handle h).state with
  | free => exact r
  | live => exact r
  | retiring => exact r.setState (by simp [state]) (by simp) nofun

/-- A content edit that keeps the base. -/
theorem applyProfileChange (r : ReferencesSound s) (h : HandleIx) (c : ProfileChange) :
    ReferencesSound (s.applyProfileChange h c) := by
  have written := r.of_same (.mapRecord s h (x := (s.handle h).extent) (m := (s.handle h).inMove) (fun p => p.change c)
    (by intro p; cases c <;> rfl))
  unfold State.applyProfileChange
  dsimp only
  split
  · exact written.queueFeeds _
  · exact written

theorem applyEditSections (r : ReferencesSound s) (sections : List EqSection) (p : EditPlan) :
    ReferencesSound (s.applyEditSections sections p) := by
  have written := r.of_same (.mapRecord s p.handle (x := some p.extent) (m := (s.handle p.handle).inMove)
    (fun q => { q with sections := sections }) fun _ => rfl)
  exact (written.of_same (t := { s.setHandle p.handle _ with pool := { s.pool with free := p.free } })
    (.of_eq rfl rfl rfl)).queueFeeds _

theorem hasBase_eq_false {h : HandleIx} (plain : (!s.hasBase h) = true) : s.baseOf h = none := by
  simpa [State.hasBase] using plain

theorem isBase_eq_false {h : HandleIx} (underived : (!s.isBase h) = true) (d : HandleIx) :
    namesHandle h (s.baseOf d) = false := by
  rw [State.isBase, Bool.not_not, List.isEmpty_iff, State.derivedOf, List.filter_eq_nil_iff] at underived
  simpa [namesHandle] using underived d (List.mem_finRange d)

/-- The base of a record that passes its tests exists, is no FREE handle's, and has no base itself (R28, R37). -/
theorem testNewRecord_ok {q : ProfileRecord} {p : CreatePlan} (ok : s.testNewRecord q = .ok p) :
    p.record = q ∧ (s.handle p.handle).state = .free ∧ ∀ b, q.base = some b → s.baseOf b.ix = none := by
  simp only [State.testNewRecord, except_bind_ok] at ok
  obtain ⟨_, based, ok⟩ := ok
  cases lowest : s.lowestFree with
  | none => rw [lowest] at ok; cases ok
  | some h =>
    simp only [lowest, except_bind_ok, except_pure_ok] at ok
    obtain ⟨⟨x, free⟩, -, rfl⟩ := ok
    refine ⟨rfl, by simpa using List.find?_some lowest, fun b hb => ?_⟩
    simp only [State.testNewBase, hb, State.testBaseOf, except_bind_ok, require_ok] at based
    obtain ⟨-, -, -, plain, -⟩ := based
    exact hasBase_eq_false plain

/-- A new profile, its base counted (R33, R37). -/
theorem applyCreate (r : ReferencesSound s) {p : CreatePlan} (free : (s.handle p.handle).state = .free)
    (base : ∀ b, p.record.base = some b → s.namesProfile b ∧ s.baseOf b.ix = none) :
    ReferencesSound (s.applyCreate p) := by
  have unref := r.balanced.free_unreferenced free
  have noBase : s.baseOf p.handle = none := by simp [State.baseOf, (r.recorded p.handle).mp free]
  have written := r.balanced.setHandle p.handle
    { state := .live, gen := (s.newHandle p).gen, extent := some p.extent, refCount := 0, inMove := false
      record := some p.record } rfl (by rw [r.counts, unref]) nofun nofun nofun fun b hb => by
      have named := base b hb
      exact ⟨named.1, fun e => named.1.1 (e ▸ free), named.2, (State.references_eq_zero_iff.mp unref).2.2⟩
  have stored := written.of_same (t := { s.setHandle p.handle _ with pool := { s.pool with free := p.free } })
    (.of_eq rfl rfl rfl)
  have referred : ∀ u, ReferencesBalanced u (fun g => 0 + refersTo g p.record.base)
      (fun g => 0 + refersTo g (s.baseOf p.handle)) → ReferencesSound (u.referToBase (s.newHandle p) p.record) := by
    intro u hu
    have settled := hu.of_balance (due' := fun g => 0 + refersTo g p.record.base) (owed' := fun _ => 0)
      (fun g => by rw [noBase, refersTo_none]) fun g => Nat.zero_le _
    unfold State.referToBase
    cases has : p.record.base with
    | none =>
      simp only [has, refersTo_none] at settled
      exact referencesBalanced_iff.mp settled
    | some b =>
      simp only [has, refersTo_some] at settled
      exact (referencesBalanced_iff.mp settled.raiseCount).of_same (.notifyPolicy _ _ _)
  exact (referred _ stored).of_same (.of_eq rfl rfl rfl)

theorem applyCreate_of_testCreate (r : ReferencesSound s) {c : ProfileContent} {p : CreatePlan}
    (tested : s.testCreate c = .ok p) : ReferencesSound (s.applyCreate p) := by
  simp only [State.testCreate, except_bind_ok] at tested
  obtain ⟨-, -, base, named, -, -, ok⟩ := tested
  obtain ⟨record, free, plain⟩ := testNewRecord_ok ok
  refine r.applyCreate free fun b hb => ?_
  rw [record] at hb
  refine ⟨?_, plain b hb⟩
  obtain rfl : base = some b := hb
  unfold State.nameBase at named
  cases hc : c.base with
  | none => rw [hc] at named; cases named
  | some x =>
    rw [hc] at named
    dsimp only at named
    cases hn : s.nameHandle x.number x.generation with
    | error st => rw [hn] at named; cases named
    | ok h =>
      rw [hn] at named
      cases named
      exact State.namesProfile_currentHandle (State.nameHandle_ok hn).1

theorem applyCreate_of_testClone (r : ReferencesSound s) {ref : RecordRef} {p : CreatePlan}
    (tested : s.testClone ref = .ok p) : ReferencesSound (s.applyCreate p) := by
  simp only [State.testClone, except_bind_ok] at tested
  obtain ⟨h, -, -, -, ok⟩ := tested
  cases hr : (s.handle h).record with
  | none => rw [hr] at ok; cases ok
  | some q =>
    rw [hr] at ok
    obtain ⟨record, free, -⟩ := testNewRecord_ok ok
    refine r.applyCreate free fun b hb => r.bases h b ?_
    rw [record] at hb
    simp [State.baseOf, hr, hb]

theorem refBase_ok {ref : RecordRef} {b : HandleIx} (ok : s.refBase ref = .ok (some b)) :
    (s.handle b).state ≠ .free := by
  unfold State.refBase at ok
  split at ok
  · cases ok
  · cases named : s.refProfile ref with
    | error st => rw [named] at ok; cases ok
    | ok h =>
      rw [named] at ok
      cases ok
      exact State.refProfile_ok named

/-- The base of a profile replaced, the counts following (R41, R42). -/
theorem applyBase (r : ReferencesSound s) {i : BaseItems} {p : BasePlan} (tested : s.testBase i = .ok p) :
    ReferencesSound (s.applyBase p) := by
  simp only [State.testBase, except_bind_ok, except_pure_ok] at tested
  obtain ⟨h, named, b, baseNamed, -, -, -, -, -, -, _, own, rfl⟩ := tested
  have inUse := State.refProfile_ok named
  have has : (s.handle h).record ≠ none := fun n => inUse ((r.recorded h).mpr n)
  obtain ⟨q, hq⟩ := Option.ne_none_iff_exists'.mp has
  have base : ∀ x, (b.map s.currentHandle) = some x →
      s.namesProfile x ∧ x.ix ≠ h ∧ s.baseOf x.ix = none ∧ ∀ d, namesHandle h (s.baseOf d) = false := by
    intro x hx
    obtain ⟨c, rfl, rfl⟩ := Option.map_eq_some_iff.mp hx
    simp only [State.testNewBaseOf, except_bind_ok, require_ok, State.testBaseOf] at own
    obtain ⟨-, -, -, apart, -, plain, -⟩ := own
    rw [Bool.and_eq_true, decide_eq_true_eq] at apart
    refine ⟨State.namesProfile_currentHandle (refBase_ok baseNamed), apart.1, hasBase_eq_false plain,
      isBase_eq_false apart.2⟩
  have written := r.balanced.setHandle h { s.handle h with
    record := (s.handle h).record.map fun q => { q with base := b.map s.currentHandle } } rfl rfl (by simp [hq]) inUse
    (r.retiring h) (by simpa [hq] using base)
  have stored : ((s.handle h).record.map fun q => { q with base := b.map s.currentHandle }).bind ProfileRecord.base =
      b.map s.currentHandle := by simp [hq]
  rw [stored] at written
  refine queueFeeds ?_ _
  show ReferencesSound
    ((s.storeBase h (b.map s.currentHandle)).changeBaseReference h (s.baseOf h) (b.map s.currentHandle))
  unfold State.changeBaseReference
  cases b with
  | none =>
    simp only [Option.map_none, refersTo_none] at written ⊢
    exact referencesBalanced_iff.mp written.dropOptional
  | some c =>
    simp only [Option.map_some, refersTo_some] at written ⊢
    exact (replaceReference written (fun g => by simp only [State.currentHandle]; omega) fun g => by omega).of_same
      (.notifyPolicy _ _ _)

end ReferencesSound

end Sys2Proof.Machine
end

section
/-! ### A load keeps the references sound (R168, R169) -/

namespace Sys2Proof.Machine

namespace Image

variable {g : Image}

/-- Something that a load keeps refers to handle `h`. -/
theorem countIn_pos_iff {ps : List SavedProfile} {h : HandleIx} : 0 < g.countIn ps h ↔
    (∃ f, namesHandle h (g.feeds.get f).binding = true ∨ namesHandle h (g.feeds.get f).overrideBinding = true) ∨
    ∃ p ∈ ps, namesHandle h p.record.base = true := by
  have all : ∀ f : FeedNo, f ∈ allFeeds := List.mem_finRange
  simp only [countIn, Nat.add_pos_iff_pos_or_pos, List.length_pos_iff_exists_mem, List.mem_filter, all, true_and,
    exists_or]

theorem mem_survivors {p : SavedProfile} : p ∈ g.survivors ↔
    p ∈ g.profiles ∧ g.staysAmong g.profiles p = true ∧
      g.staysAmong (g.profiles.filter (g.staysAmong g.profiles)) p = true := by
  simp only [survivors, List.mem_filter, and_assoc]

theorem staysAmong_of_count {ps : List SavedProfile} {p : SavedProfile} (h : 0 < g.countIn ps p.handle.ix) :
    g.staysAmong ps p = true := by simp [staysAmong, h]

section

variable (distinct : g.handlesDistinct = true)

include distinct

theorem eq_of_ix {p q : SavedProfile} (hp : p ∈ g.profiles) (hq : q ∈ g.profiles) (ix : p.handle.ix = q.handle.ix) :
    p = q :=
  List.inj_on_of_nodup_map (of_decide_eq_true distinct) hp hq ix

/-- In a part of the profiles of an image, each is the one found at its handle number. -/
theorem find_eq_some_iff {ps : List SavedProfile} (part : ∀ p ∈ ps, p ∈ g.profiles) {h : HandleIx} {p : SavedProfile} :
    ps.find? (fun p => p.handle.ix = h) = some p ↔ p ∈ ps ∧ p.handle.ix = h := by
  constructor
  · intro found
    exact ⟨List.mem_of_find?_eq_some found, by simpa using List.find?_some found⟩
  · rintro ⟨mem, rfl⟩
    obtain ⟨q, hq⟩ := Option.isSome_iff_exists.mp
      (List.find?_isSome.mpr ⟨p, mem, by simp⟩ : (ps.find? fun q => q.handle.ix = p.handle.ix).isSome = true)
    rw [hq, eq_of_ix distinct (part q (List.mem_of_find?_eq_some hq)) (part p mem) (by simpa using List.find?_some hq)]

end

/-- A profile that a profile of the image names as base has no base (R168, test 6). -/
theorem base_plain (distinct : g.handlesDistinct = true) (plain : g.basesPlain = true) {p q : SavedProfile}
    (hp : p ∈ g.profiles) (hq : q ∈ g.profiles) (named : namesHandle q.handle.ix p.record.base = true) :
    q.record.base = none := by
  obtain ⟨b, hb, ix⟩ := namesHandle_iff.mp named
  have found : g.baseOf p = some q := by
    rw [baseOf, hb, Option.bind_some]
    exact (find_eq_some_iff distinct (fun _ h => h)).mpr ⟨hq, ix.symm⟩
  simpa [found, optAll] using List.all_eq_true.mp plain p hp

theorem mem_of_holds {b : Handle} (held : g.holds b = true) : ∃ p ∈ g.profiles, p.handle = b := by
  simpa [holds] using held

/-- A profile that a feed of the image names survives the freeing of R169. -/
theorem feed_names_survivor (held : g.referencesHeld = true) {f : FeedNo} {b : Handle}
    (named : (g.feeds.get f).binding = some b ∨ (g.feeds.get f).overrideBinding = some b) :
    ∃ p ∈ g.survivors, p.handle = b := by
  have feeds := List.all_eq_true.mp (Bool.and_eq_true_iff.mp held).1 f (List.mem_finRange f)
  rw [Bool.and_eq_true] at feeds
  have holds : g.holds b = true := by
    rcases named with e | e
    · simpa [e, optAll] using feeds.1
    · simpa [e, optAll] using feeds.2
  obtain ⟨p, hp, rfl⟩ := mem_of_holds holds
  have count : ∀ ps, 0 < g.countIn ps p.handle.ix := fun ps =>
    countIn_pos_iff.mpr (.inl ⟨f, named.imp (fun e => namesHandle_iff.mpr ⟨_, e, rfl⟩)
      fun e => namesHandle_iff.mpr ⟨_, e, rfl⟩⟩)
  exact ⟨p, mem_survivors.mpr ⟨hp, staysAmong_of_count (count _), staysAmong_of_count (count _)⟩, rfl⟩

/-- The base of a survivor survives. -/
theorem base_survives (held : g.referencesHeld = true) {q : SavedProfile} (hq : q ∈ g.survivors) {b : Handle}
    (base : q.record.base = some b) : ∃ p ∈ g.survivors, p.handle = b := by
  obtain ⟨hq0, hq1, -⟩ := mem_survivors.mp hq
  have holds := List.all_eq_true.mp (Bool.and_eq_true_iff.mp held).2 q hq0
  rw [base] at holds
  obtain ⟨p, hp, rfl⟩ := mem_of_holds holds
  have count : ∀ ps, q ∈ ps → 0 < g.countIn ps p.handle.ix := fun ps mem =>
    countIn_pos_iff.mpr (.inr ⟨q, mem, namesHandle_iff.mpr ⟨_, base, rfl⟩⟩)
  exact ⟨p, mem_survivors.mpr ⟨hp, staysAmong_of_count (count _ hq0),
    staysAmong_of_count (count _ (List.mem_filter.mpr ⟨hq0, hq1⟩))⟩, rfl⟩

/-- A handle that the survivors count references of is a survivor's. -/
theorem survivor_of_count (held : g.referencesHeld = true) {h : HandleIx} (count : 0 < g.countIn g.survivors h) :
    ∃ p ∈ g.survivors, p.handle.ix = h := by
  rcases countIn_pos_iff.mp count with ⟨f, named⟩ | ⟨q, hq, named⟩
  · rcases named with named | named <;> obtain ⟨b, hb, rfl⟩ := namesHandle_iff.mp named
    · obtain ⟨p, hp, rfl⟩ := feed_names_survivor held (.inl hb)
      exact ⟨p, hp, rfl⟩
    · obtain ⟨p, hp, rfl⟩ := feed_names_survivor held (.inr hb)
      exact ⟨p, hp, rfl⟩
  · obtain ⟨b, hb, rfl⟩ := namesHandle_iff.mp named
    obtain ⟨p, hp, rfl⟩ := base_survives held hq hb
    exact ⟨p, hp, rfl⟩

/-- Two rounds of freeing suffice: a RETIRING survivor is referred to by what survives (R169). -/
theorem survivor_counted (distinct : g.handlesDistinct = true) (plain : g.basesPlain = true) {p : SavedProfile}
    (hp : p ∈ g.survivors) (retiring : p.retiring = true) : 0 < g.countIn g.survivors p.handle.ix := by
  obtain ⟨hp0, -, hp2⟩ := mem_survivors.mp hp
  simp only [staysAmong, retiring, Bool.not_true, Bool.false_or, decide_eq_true_eq] at hp2
  rcases countIn_pos_iff.mp hp2 with feeds | ⟨d, hd, named⟩
  · exact countIn_pos_iff.mpr (.inl feeds)
  · obtain ⟨hd0, hd1⟩ := List.mem_filter.mp hd
    refine countIn_pos_iff.mpr (.inr ⟨d, mem_survivors.mpr ⟨hd0, hd1, ?_⟩, named⟩)
    by_cases live : d.retiring = true
    · simp only [staysAmong, live, Bool.not_true, Bool.false_or, decide_eq_true_eq] at hd1
      rcases countIn_pos_iff.mp hd1 with feeds | ⟨e, he, derived⟩
      · exact staysAmong_of_count (countIn_pos_iff.mpr (.inl feeds))
      · have := base_plain distinct plain he hd0 derived
        simp [this, namesHandle] at named
    · simp [staysAmong, live]

end Image

namespace State

variable {s : State} {g : Image}

theorem feed_withTables (f : FeedNo) : (s.withTables g).feed f = (s.feed f).replaced (g.feeds.get f) :=
  Table.get_tab _ f

theorem handle_withTables (h : HandleIx) : (s.withTables g).handle h = (s.handle h).replaced g h :=
  Table.get_tab _ h

/-- A survivor's handle after a load. -/
theorem handle_survivor {h : HandleIx} {p : SavedProfile}
    (found : g.survivors.find? (fun p => p.handle.ix = h) = some p) : (s.withTables g).handle h =
      ⟨if p.retiring then .retiring else .live, p.handle.gen, some ⟨g.offsetOf h, p.words⟩, g.countIn g.survivors h, false,
        some p.record⟩ := by
  rw [handle_withTables, HandleEntry.replaced, found]

/-- Every other handle is FREE after a load. -/
theorem handle_unsaved (r : ReferencesSound s) {h : HandleIx}
    (gone : g.survivors.find? (fun p => p.handle.ix = h) = none) :
    ((s.withTables g).handle h).state = .free ∧ ((s.withTables g).handle h).refCount = 0 ∧
      ((s.withTables g).handle h).record = none := by
  rw [handle_withTables, HandleEntry.replaced, gone]
  cases g.profileAt h with
  | some p => exact ⟨rfl, rfl, rfl⟩
  | none =>
    by_cases free : (s.handle h).state = .free
    · simp only [free, if_true]
      exact ⟨trivial, by rw [r.counts, r.balanced.free_unreferenced free], (r.recorded h).mp free⟩
    · simp only [free, if_false]
      exact ⟨rfl, rfl, rfl⟩

theorem baseOf_withTables (r : ReferencesSound s) (h : HandleIx) : (s.withTables g).baseOf h =
    (g.survivors.find? fun p => p.handle.ix = h).bind fun p => p.record.base := by
  unfold baseOf
  cases found : g.survivors.find? (fun p => p.handle.ix = h) with
  | none => rw [(handle_unsaved r found).2.2]; rfl
  | some p => rw [handle_survivor found]; rfl

/-- After a load each handle is referred to as often as the survivors count (R33, R169). -/
theorem references_withTables (r : ReferencesSound s) (distinct : g.handlesDistinct = true) (h : HandleIx) :
    (s.withTables g).references h = g.countIn g.survivors h := by
  have part : ∀ p ∈ g.survivors, p ∈ g.profiles := fun p hp => (Image.mem_survivors.mp hp).1
  have bases : (allHandles.filter fun d => namesHandle h ((s.withTables g).baseOf d)).Perm
      ((g.survivors.filter fun p => namesHandle h p.record.base).map fun p => p.handle.ix) := by
    rw [List.perm_ext_iff_of_nodup]
    · intro d
      have all : d ∈ allHandles := List.mem_finRange d
      simp only [List.mem_filter, all, true_and, List.mem_map, baseOf_withTables r]
      constructor
      · intro named
        cases found : g.survivors.find? (fun p => p.handle.ix = d) with
        | none => simp [found, namesHandle] at named
        | some p =>
          rw [found] at named
          have := (Image.find_eq_some_iff distinct part).mp found
          exact ⟨p, ⟨this.1, named⟩, this.2⟩
      · rintro ⟨p, ⟨mem, named⟩, ix⟩
        rw [(Image.find_eq_some_iff distinct part).mpr ⟨mem, ix⟩]
        exact named
    · exact (List.nodup_finRange 255).filter _
    · have nodup : (g.profiles.map fun p => p.handle.ix).Nodup := of_decide_eq_true distinct
      exact nodup.sublist (List.Sublist.map _
        (((List.filter_sublist).trans List.filter_sublist).trans List.filter_sublist))
  have length := bases.length_eq
  rw [List.length_map] at length
  simp only [references, Image.countIn, feed_withTables, FeedEntry.replaced, length]

end State

/-- The tables of a consistent image hold sound references. -/
theorem ReferencesSound.withTables {s : State} {g : Image} (r : ReferencesSound s) (consistent : g.consistent = true) :
    ReferencesSound (s.withTables g) := by
  simp only [Image.consistent, Bool.and_eq_true] at consistent
  obtain ⟨⟨⟨⟨⟨⟨distinct, held⟩, actions⟩, -⟩, plain⟩, -⟩, -⟩ := consistent
  have part : ∀ p ∈ g.survivors, p ∈ g.profiles := fun p hp => (Image.mem_survivors.mp hp).1
  have names : ∀ p ∈ g.survivors, (s.withTables g).namesProfile p.handle := by
    intro p hp
    rw [State.namesProfile, State.handle_survivor ((Image.find_eq_some_iff distinct part).mpr ⟨hp, rfl⟩)]
    exact ⟨by dsimp only; split <;> simp, rfl⟩
  have counts := State.references_withTables r distinct
  constructor
  case bindings =>
    intro f b hb
    rw [State.feed_withTables] at hb
    obtain ⟨p, hp, rfl⟩ := Image.feed_names_survivor held (.inl hb)
    exact names p hp
  case overrides =>
    intro f b hb
    rw [State.feed_withTables] at hb
    obtain ⟨p, hp, rfl⟩ := Image.feed_names_survivor held (.inr hb)
    exact names p hp
  case bases =>
    intro h b hb
    rw [State.baseOf_withTables r, Option.bind_eq_some_iff] at hb
    obtain ⟨q, found, base⟩ := hb
    have hq := (Image.find_eq_some_iff distinct part).mp found
    obtain ⟨p, hp, rfl⟩ := Image.base_survives held hq.1 base
    refine ⟨names p hp, ?_⟩
    rw [State.baseOf_withTables r, (Image.find_eq_some_iff distinct part).mpr ⟨hp, rfl⟩]
    exact Image.base_plain distinct plain (part q hq.1) (part p hp) (namesHandle_iff.mpr ⟨_, base, rfl⟩)
  case counts =>
    intro h
    rw [counts]
    cases found : g.survivors.find? (fun p => p.handle.ix = h) with
    | some p => rw [State.handle_survivor found]
    | none =>
      rw [(State.handle_unsaved r found).2.1]
      by_contra ne
      obtain ⟨p, hp, ix⟩ := Image.survivor_of_count held (Nat.pos_of_ne_zero (Ne.symm ne))
      rw [(Image.find_eq_some_iff distinct part).mpr ⟨hp, ix⟩] at found
      cases found
  case recorded =>
    intro h
    cases found : g.survivors.find? (fun p => p.handle.ix = h) with
    | some p => rw [State.handle_survivor found]; cases p.retiring <;> simp
    | none => simp [State.handle_unsaved r found]
  case retiring =>
    intro h retiring
    cases found : g.survivors.find? (fun p => p.handle.ix = h) with
    | none => simp [State.handle_unsaved r found] at retiring
    | some p =>
      obtain ⟨hp, rfl⟩ := (Image.find_eq_some_iff distinct part).mp found
      rw [State.handle_survivor found] at retiring ⊢
      exact Image.survivor_counted distinct plain hp (by by_contra live; simp [live] at retiring)
  case switch =>
    intro f
    rw [State.feed_withTables]
    have matching := List.all_eq_true.mp actions f (List.mem_finRange f)
    rw [beq_iff_eq] at matching
    show (g.feeds.get f).overrideAction = .switch ↔ (g.feeds.get f).overrideBinding.isSome = true
    rw [← matching, decide_eq_true_iff]
  case heldImage => exact r.heldImage

end Sys2Proof.Machine
end

section
/-! ### Every command keeps the references sound (R6, R28, R33) -/

namespace Sys2Proof.Machine

namespace SameReferences

variable {s : State}

/-! #### Commands that touch no reference -/

theorem setPort (s : State) (p : Port) : SameReferences s { s with port := p } := .of_eq rfl rfl rfl

theorem raise (s : State) (o : Notice) : SameReferences s (s.raise o) := .of_eq rfl rfl rfl

theorem setCursor (s : State) (r : RecordName) : SameReferences s (s.setCursor r) := .of_eq rfl rfl rfl

theorem changeSources (s : State) (c : OverrideSource) (o : Override) : SameReferences s (s.changeSources c o) :=
  .of_eq (by simp) (by simp) (by simp)

theorem setAlarm (s : State) (level : Bool) : SameReferences s (s.setAlarm level) := by
  unfold State.setAlarm
  dsimp only
  split
  · exact .of_eq rfl rfl rfl
  · refine .trans ?_ (changeSources _ _ _)
    exact .of_eq rfl rfl rfl

theorem beginTransaction (s : State) : SameReferences s s.beginTransaction := by
  unfold State.beginTransaction
  split <;> exact setPort s _

theorem endTransaction (s : State) : SameReferences s s.endTransaction.1 := by
  obtain ⟨p, e⟩ := s.endTransaction_frame
  rw [e]
  exact setPort s p

theorem lookLoop (cls : RecordClass) (rs : List RecordName) (images : List (List Byte)) (s : State) :
    SameReferences s (lookLoop cls rs images s).1 := by
  induction rs generalizing s images with
  | nil => exact .refl s
  | cons r rs ih =>
    have tested := watchTest s .portLook r
    unfold Machine.lookLoop
    dsimp only
    split
    · exact tested
    · exact (tested.trans (setCursor _ r)).trans (ih _ _)

theorem look (s : State) (i : LookItems) : SameReferences s (s.look i).1 := by
  unfold State.look
  split
  · exact .refl s
  · exact lookLoop _ _ _ s

theorem find (s : State) (i : FindItems) : SameReferences s (s.find i).1 := by
  unfold State.find
  split
  · exact .refl s
  · dsimp only
    split
    · exact setCursor s _
    · exact .refl s

theorem changeMask (s : State) (m : Option NoticeSet) : SameReferences s (s.changeMask m).1 := by
  unfold State.changeMask
  split
  · exact .refl s
  · split
    · exact .refl s
    · split
      · exact .refl s
      · refine .trans ?_ (endWait _)
        exact .of_eq rfl rfl rfl

theorem requestPolicySet (s : State) (cs : List PolicyChange) : SameReferences s (s.requestPolicySet cs).1 := by
  unfold State.requestPolicySet
  split
  · exact .refl s
  · split
    · exact .refl s
    · split
      · exact .refl s
      · refine .trans ?_ (endWait _)
        exact .of_eq rfl rfl rfl

theorem requestCrossStandSet (s : State) (v : Option PolicyOutcome) : SameReferences s (s.requestCrossStandSet v).1 := by
  unfold State.requestCrossStandSet
  split
  · exact .refl s
  · split
    · exact .refl s
    · refine .trans ?_ (endWait _)
      exact .of_eq rfl rfl rfl

theorem rebuildDependencies (s : State) : SameReferences s s.rebuildDependencies := by
  unfold State.rebuildDependencies
  dsimp only
  split <;> exact .of_eq rfl rfl rfl

theorem requestRebuild (s : State) : SameReferences s s.requestRebuild.1 := by
  unfold State.requestRebuild
  split
  · exact .refl s
  · exact rebuildDependencies s

theorem changeHolds (s : State) (set : SectorSet) (yes : Bool) : SameReferences s (s.changeHolds set yes).1 := by
  unfold State.changeHolds
  split
  · exact .refl s
  · exact .of_eq rfl rfl rfl

theorem requestCompactStart (s : State) : SameReferences s s.requestCompactStart.1 := by
  unfold State.requestCompactStart
  split
  · exact nextMove s
  · exact .refl s

theorem requestCompactStop (s : State) : SameReferences s s.requestCompactStop.1 := by
  unfold State.requestCompactStop
  split <;> exact .of_eq rfl rfl rfl

theorem requestSave (s : State) : SameReferences s s.requestSave.1 := by
  unfold State.requestSave
  split
  · exact .of_eq_unheld rfl rfl nofun
  · exact .refl s

theorem requestLoad (s : State) : SameReferences s s.requestLoad.1 := by
  unfold State.requestLoad
  split
  · exact .refl s
  · split
    · exact .refl s
    · exact .of_eq_unheld rfl rfl nofun

theorem reconfigure (s : State) : SameReferences s s.reconfigure := (queueFeeds s s.heldFeeds).trans (.of_eq rfl rfl rfl)

theorem setWatch (s : State) (n : WatchNo) (w : Watch) : SameReferences s (s.setWatch n w) := .of_eq rfl rfl rfl

theorem requestWatchSet (s : State) (i : WatchSetItems) : SameReferences s (s.requestWatchSet i).1 := by
  unfold State.requestWatchSet
  split
  · exact .refl s
  · split
    · exact (setWatch s _ _).trans (reconfigure _)
    · exact .refl s

theorem requestWatchClear (s : State) (n : Nat) : SameReferences s (s.requestWatchClear n).1 := by
  unfold State.requestWatchClear
  split
  · exact .refl s
  · exact (setWatch s _ _).trans (reconfigure _)

theorem requestReadWatch (s : State) (n : Nat) : SameReferences s (s.requestReadWatch n).1 := by
  unfold State.requestReadWatch
  split
  · exact .refl s
  · exact setWatch s _ _

/-! #### The Climate Unit -/

theorem setSector (s : State) (n : SectorNo) (e : Sector) : SameReferences s (s.setSector n e) := .of_eq rfl rfl rfl

theorem statusEvaluation (s : State) (n : SectorNo) : SameReferences s (s.statusEvaluation n) :=
  .of_eq (by simp) (by simp) (by simp)

theorem statusEvaluations (s : State) (ns : List SectorNo) : SameReferences s (ns.foldl State.statusEvaluation s) := by
  induction ns generalizing s with
  | nil => exact .refl s
  | cons n ns ih => exact (statusEvaluation s n).trans (ih _)

theorem changeSpeed (s : State) (n : SectorNo) (c : Int) : SameReferences s (s.changeSpeed n c) :=
  (setSector s _ _).trans (queueFeeds _ _)

theorem fullEvaluation (s : State) (n : SectorNo) : SameReferences s (s.fullEvaluation n) := by
  refine (statusEvaluation s n).trans ?_
  unfold State.fullEvaluation
  dsimp only
  split
  · unfold State.speedTest
    dsimp only
    split
    · exact (setSector _ _ _).trans (changeSpeed _ _ _)
    all_goals exact setSector _ _ _
  · exact .refl _

theorem setChannel (s : State) (k : ChannelNo) (c : Channel) : SameReferences s (s.setChannel k c) := .of_eq rfl rfl rfl

theorem applyReading (s : State) (k : ChannelNo) (code : Int) : SameReferences s (s.applyReading k code) := by
  have evaluated : ∀ (u : State) o, SameReferences u (u.evaluateOptional o) := by
    intro u o
    cases o with
    | none => exact .refl u
    | some n => exact fullEvaluation u n
  unfold State.applyReading
  dsimp only
  refine .trans ?_ (evaluated _ _)
  split <;> exact .of_eq rfl rfl rfl

theorem requestSensorSet (s : State) (i : SensorSetItems) : SameReferences s (s.requestSensorSet i).1 := by
  unfold State.requestSensorSet
  split
  · exact .refl s
  · exact (((setChannel s _ _).trans (statusEvaluations _ _)).trans (setCursor _ _)).trans (endWait _)

theorem fixSector (s : State) (n : SectorNo) : SameReferences s (s.fixSector n) := by
  unfold State.fixSector
  dsimp only
  split
  · exact setSector s _ _
  · exact (setSector s _ _).trans (changeSpeed _ _ _)

theorem actOnMode (s : State) (n : SectorNo) (old : SectorConfig) : SameReferences s (s.actOnMode n old) := by
  unfold State.actOnMode
  dsimp only
  split
  · exact (setSector s _ _).trans (statusEvaluation _ _)
  · exact fixSector s n
  · split
    · exact .refl s
    · exact fixSector s n
  · exact .refl s

theorem requestSectorSet (s : State) (i : SectorSetItems) : SameReferences s (s.requestSectorSet i).1 := by
  unfold State.requestSectorSet
  split
  · exact .refl s
  · exact (((setSector s _ _).trans (actOnMode _ _ _)).trans (setCursor _ _)).trans (endWait _)

/-! #### The Render Engine -/

theorem setRender (s : State) (f : FeedNo) (r : FeedRender) : SameReferences s (s.setRender f r) := .of_eq rfl rfl rfl

theorem testTake (s : State) (f : FeedNo) : SameReferences s (s.testTake f).1 := by
  unfold State.testTake
  split
  · exact .refl s
  · dsimp only
    split
    · exact (watchTest s _ _).trans (setRender _ _ _)
    · exact watchTest s _ _

theorem stepFeed (s : State) (f : FeedNo) : SameReferences s (s.stepFeed f) := by
  unfold State.stepFeed
  dsimp only
  split
  · exact setRender s _ _
  · split
    · exact setRender s _ _
    · exact setRender s _ _
    · split
      · exact setRender s _ _
      · exact .refl s
    · have taken := testTake s f
      unfold State.stepTake
      split
      · next e => rw [e] at taken; exact taken.trans (setRender _ _ _)
      · next e => rw [e] at taken; exact taken

theorem engageFeed (s : State) (f : FeedNo) : SameReferences s (s.engageFeed f) := by
  unfold State.engageFeed
  split
  · exact stepFeed s f
  all_goals exact setRender s _ _

theorem disengageFeed (s : State) (f : FeedNo) : SameReferences s (s.disengageFeed f) := by
  unfold State.disengageFeed
  dsimp only
  split
  · exact stepFeed s f
  all_goals exact ((setRender s _ _).trans (testTake _ f)).trans (setRender _ _ _)

theorem stepFeeds (s : State) : SameReferences s s.stepFeeds := by
  have boundary : ∀ (a b : OverrideState) (fs : List FeedNo) (u : State),
      SameReferences u (fs.foldl (State.boundaryFeed a b) u) := by
    intro a b fs
    induction fs with
    | nil => exact .refl
    | cons f fs ih =>
      intro u
      refine .trans ?_ (ih _)
      cases a <;> cases b
      · exact stepFeed u f
      · exact disengageFeed u f
      · exact engageFeed u f
      · exact stepFeed u f
  refine .trans ?_ (boundary _ _ _ _)
  exact .of_eq rfl rfl rfl

theorem countBlocks (s : State) : SameReferences s s.countBlocks := by
  cases e : s.image with
  | loading p => exact .of_eq rfl rfl (by rw [e]; show s.image.countBlock = _; rw [e]; rfl)
  | _ => exact .of_eq_unheld rfl rfl fun g => by show s.image.countBlock ≠ _; rw [e]; exact nofun

/-! #### The Resolver -/

theorem storeDelay_deliver (s : State) (f : FeedNo) (r : Resolved) :
    SameReferences s ((s.storeDelay f r.delay).deliver f r) := by
  refine .trans ?_ (setRender _ _ _)
  exact setFeed s f rfl rfl rfl

theorem concludeResolution (s : State) (f : FeedNo) : SameReferences s (s.concludeResolution f) := by
  unfold State.concludeResolution
  split
  · refine .trans ?_ (raise _ _)
    exact setFeed s f rfl rfl rfl
  · dsimp only
    refine (watchTest s .autoChange (.feed f)).trans ?_
    split
    · exact setFeed _ f rfl rfl rfl
    · unfold State.succeed
      dsimp only
      split
      · exact storeDelay_deliver _ f _
      · exact (storeDelay_deliver _ f _).trans (queueFeeds _ _)

/-! #### The Image Interface, the pins and the port -/

theorem endLoad (s : State) (o : LoadOutcome) : SameReferences s (s.endLoad o) := .of_eq_unheld rfl rfl nofun

theorem sampleAlarm (s : State) : SameReferences s s.sampleAlarm := by
  unfold State.sampleAlarm
  split
  · exact changeSources s _ _
  · exact .refl s

end SameReferences

namespace State

theorem validate_consistent {c : FlashContents} {g : Image} (valid : validate c = some g) : g.consistent = true := by
  unfold validate at valid
  split at valid
  · cases valid
  · cases valid
  · split at valid
    · split at valid
      · unfold whenTrue at valid
        split at valid
        · next consistent => cases valid; exact consistent
        · cases valid
      · cases valid
    · cases valid

end State

namespace ReferencesSound

variable {s : State}

theorem replaceTables (r : ReferencesSound s) {g : Image} (consistent : g.consistent = true) :
    ReferencesSound (s.replaceTables g) := by
  refine (r.withTables consistent).of_same (.trans ?_ (.endLoad _ _))
  refine .trans ?_ (.rebuildDependencies _)
  refine .trans ?_ (.queueFeeds _ _)
  exact .of_eq rfl rfl rfl

theorem finishRead (r : ReferencesSound s) (answer : FlashAnswer) : ReferencesSound (s.finishRead answer) := by
  have read : ∀ c, ReferencesSound { s with flash := c } := fun c => r.of_same (.of_eq rfl rfl rfl)
  unfold State.finishRead
  dsimp only
  split
  · exact (read _).of_same ((SameReferences.raise _ _).trans (.endLoad _ _))
  · next g valid =>
    have consistent := State.validate_consistent valid
    split
    · exact r.of_same (.of_eq_valid rfl rfl fun h hh => by cases hh; exact consistent)
    · exact (read _).replaceTables consistent

/-- The references of a block in cold start: there are none (R2, R31). -/
theorem of_coldStart (feeds : s.feeds = State.reset.feeds) (handles : s.handles = State.reset.handles)
    (image : s.image = .idle) : ReferencesSound s := by
  have feed : ∀ f, s.feed f = FeedEntry.reset := fun f => by rw [State.feed, feeds]; exact Table.get_fill _ f
  have handle : ∀ h, s.handle h = HandleEntry.reset := fun h => by rw [State.handle, handles]; exact Table.get_fill _ h
  have base : ∀ h, s.baseOf h = none := fun h => by rw [State.baseOf, handle]; rfl
  constructor
  case counts =>
    intro h
    rw [handle, State.references_eq_zero_iff.mpr ⟨fun f => ?_, fun f => ?_, fun d => ?_⟩]
    · rfl
    · rw [feed]; rfl
    · rw [feed]; rfl
    · rw [base]; rfl
  case heldImage =>
    intro g hg
    rw [image] at hg
    cases hg
  all_goals simp [feed, handle, base, FeedEntry.reset, HandleEntry.reset]

/-! #### Requests -/

theorem served (sound : ReferencesSound s) {α : Type} (r : Request α) (formed : α → Bool)
    {run : α → State → State × Work}
    (keeps : ∀ a u, ReferencesSound u → ReferencesSound (run a u).1) : ReferencesSound (serve r formed run s) :=
  State.serve_keeps (fun u p hu => hu.of_same (.setPort u p)) r formed sound keeps

theorem servedNow (sound : ReferencesSound s) {α : Type} (r : Request α) (formed : α → Bool)
    {run : α → State → State × Answer} (keeps : ∀ a u, ReferencesSound u → ReferencesSound (run a u).1) :
    ReferencesSound (serveNow r formed run s) :=
  State.serveNow_keeps (fun u p hu => hu.of_same (.setPort u p)) r formed sound keeps

theorem requestEditSections (r : ReferencesSound s) (i : EditSectionsItems) :
    ReferencesSound (s.requestEditSections i).1 := by
  unfold State.requestEditSections
  exact r.takeChange (fun s => s.testEditSections i) (fun s w n => s.testEditSections_watched w n i) _
    fun p _ hu _ => hu.applyEditSections i.sections p

theorem requestBase (r : ReferencesSound s) (i : BaseItems) :
    ReferencesSound (s.requestBase i).1 := by
  unfold State.requestBase
  exact r.takeChange (fun s => s.testBase i) (fun s w n => s.testBase_watched w n i) _
    fun _ _ hu ok => hu.applyBase ok

theorem requestRetire (r : ReferencesSound s) (ref : RecordRef) :
    ReferencesSound (s.requestRetire ref).1 := by
  unfold State.requestRetire
  exact r.takeChange (fun s => s.testNamed ref) (fun s w n => s.testNamed_watched w n ref) _
    fun h _ hu _ => hu.applyRetire h

theorem requestRevive (r : ReferencesSound s) (ref : RecordRef) :
    ReferencesSound (s.requestRevive ref).1 := by
  unfold State.requestRevive
  exact r.takeChange (fun s => s.testNamed ref) (fun s w n => s.testNamed_watched w n ref) _
    fun h _ hu _ => hu.applyRevive h

theorem requestBind (r : ReferencesSound s) (i : BindItems) :
    ReferencesSound (s.requestBind i).1 := by
  unfold State.requestBind
  exact r.takeChange (fun s => s.testBind i) (fun s w n => s.testBind_watched w n i) _
    fun _ _ hu ok => hu.applyBind ok

theorem requestUnbind (r : ReferencesSound s) (ref : RecordRef) :
    ReferencesSound (s.requestUnbind ref).1 := by
  unfold State.requestUnbind
  exact r.takeChange (fun s => s.testUnbind ref) (fun s w n => s.testUnbind_watched w n ref) _
    fun f _ hu _ => hu.applyUnbind f

theorem requestBindOverride (r : ReferencesSound s) (i : BindItems) :
    ReferencesSound (s.requestBindOverride i).1 := by
  unfold State.requestBindOverride
  exact r.takeChange (fun s => s.testBindOverride i) (fun s w n => s.testBindOverride_watched w n i) _
    fun _ _ hu ok => hu.applyBindOverride ok

theorem requestUnbindOverride (r : ReferencesSound s) (ref : RecordRef) :
    ReferencesSound (s.requestUnbindOverride ref).1 := by
  unfold State.requestUnbindOverride
  exact r.takeChange (fun s => s.testUnbindOverride ref) (fun s w n => s.testUnbindOverride_watched w n ref) _
    fun f _ hu _ => hu.applyUnbindOverride f

theorem requestLead (r : ReferencesSound s) (i : LeadItems) :
    ReferencesSound (s.requestLead i).1 := by
  unfold State.requestLead
  exact r.takeChange (fun s => s.testLead i) (fun s w n => s.testLead_watched w n i) _
    fun p _ hu _ => hu.applyLead p

theorem requestClearFeed (r : ReferencesSound s) (ref : RecordRef) :
    ReferencesSound (s.requestClearFeed ref).1 := by
  unfold State.requestClearFeed
  exact r.takeChange (fun s => s.testClearFeed ref) (fun s w n => s.testClearFeed_watched w n ref) _
    fun f _ hu _ => hu.applyClearFeed f

theorem requestCreate (r : ReferencesSound s) (c : ProfileContent) :
    ReferencesSound (s.requestNew (s.testCreate c)).1 := by
  unfold State.requestNew
  exact r.takeChange (fun s => s.testCreate c) (fun s w n => s.testCreate_watched w n c) _
    fun _ _ hu ok => hu.applyCreate_of_testCreate ok

theorem requestClone (r : ReferencesSound s) (ref : RecordRef) :
    ReferencesSound (s.requestNew (s.testClone ref)).1 := by
  unfold State.requestNew
  exact r.takeChange (fun s => s.testClone ref) (fun s w n => s.testClone_watched w n ref) _
    fun _ _ hu ok => hu.applyCreate_of_testClone ok

theorem setProfilesLoop (r : ReferencesSound s) (field : Nat) (v : Int) (ns : List Nat) (named : Option Nat)
    (done : Nat) :
    ReferencesSound (setProfilesLoop field v ns named done s).1 := by
  induction ns generalizing s named done with
  | nil => exact r
  | cons n ns ih =>
    have one : ∀ gen, ReferencesSound (s.setOneProfile n gen field v).1 := fun gen =>
      r.takeChange (fun s => s.testSetProfile n gen field v) (fun s w m => s.testSetProfile_watched w m n gen field v) _
        fun p _ hu _ => hu.applyProfileChange p.1 p.2
    unfold Machine.setProfilesLoop
    dsimp only
    split
    · exact r
    · split
      · next s' h c e =>
        have taken := one (named.getD (s.presentGen .profile n))
        rw [e] at taken
        exact ih (taken.of_same (.setCursor s' (.profile (s'.currentHandle h)))) _ _
      · next s' st e =>
        have refused := one (named.getD (s.presentGen .profile n))
        rw [e] at refused
        exact refused

theorem requestSet (r : ReferencesSound s) (i : SetItems) :
    ReferencesSound (s.requestSet i).1 := by
  unfold State.requestSet
  split
  · exact r
  · split
    · exact r.setFeedsLoop _ _ _ _
    · exact r.setProfilesLoop _ _ _ _ _
    · exact r
    · exact r

theorem editOrWait (r : ReferencesSound s) (ref : RecordRef) (edit : WaitingEdit) {now : State × Answer}
    (edited : ReferencesSound now.1) : ReferencesSound (s.editOrWait ref edit now).1 := by
  unfold State.editOrWait
  split
  · exact r
  · exact edited

theorem runEdit (r : ReferencesSound s) (e : WaitingEdit) : ReferencesSound (s.runEdit e).1 := by
  cases e with
  | sections i => exact r.requestEditSections i
  | base i => exact r.requestBase i
  | set job => exact r.setProfilesLoop _ _ _ _ _

theorem completeMove (r : ReferencesSound s) : ReferencesSound s.completeMove := by
  unfold State.completeMove
  split
  · next m _ =>
    refine of_same ?_ (.endMove _)
    have settled := r.of_same (.settleMove s m)
    unfold State.takeWaitingEdit
    split
    · next tag e _ =>
      have edited := settled.runEdit e
      dsimp only
      unfold State.placeEditReply
      split <;> exact edited.of_same (.setPort _ _)
    · exact settled
  · exact r

/-- A command whose next state is given. -/
theorem of_next {t u : State} (h : (Host.Outcome.next u : Result) = .next t) (r : ReferencesSound u) :
    ReferencesSound t := by
  cases h
  exact r

theorem exec (r : ReferencesSound s) {c : Instr} {t : State} (h : exec c s = .next t) : ReferencesSound t := by
  cases c with
  | coldStart => exact of_next h (of_coldStart rfl rfl rfl)
  | coldStartEnd startup =>
    refine of_next h ?_
    split
    · refine r.of_same (.trans ?_ (.sampleAlarm _))
      cases startup <;> exact .of_eq_unheld rfl rfl nofun
    · exact r
  | alarmAssertion => exact of_next h (r.of_same (.setAlarm s true))
  | alarmDeassertion => exact of_next h (r.of_same (.setAlarm s false))
  | transactionBegin =>
    refine of_next h ?_
    split
    · exact r
    · exact r.of_same (.beginTransaction s)
  | discardedRequest =>
    refine of_next h ?_
    split
    · split
      · exact r
      · exact r.of_same (.setPort s _)
    · exact r
  | badFrame tag reason =>
    refine of_next h ?_
    split
    · exact r
    · dsimp only
      split
      · exact r.of_same ((SameReferences.endTransaction s).trans (.setPort _ _))
      · exact r.of_same (.endTransaction s)
  | badCommand tag => exact of_next h (r.servedNow _ _ fun _ _ hu => hu)
  | nop q => exact of_next h (r.servedNow q _ fun _ _ hu => hu)
  | status q => exact of_next h (r.servedNow q _ fun _ _ hu => hu)
  | look q => exact of_next h (r.servedNow q _ fun i u hu => hu.of_same (.look u i))
  | set q => exact of_next h (r.served q _ fun i _ hu => hu.requestSet i)
  | find q => exact of_next h (r.servedNow q _ fun i u hu => hu.of_same (.find u i))
  | createProfile q => exact of_next h (r.servedNow q _ fun c _ hu => hu.requestCreate c)
  | clone q => exact of_next h (r.servedNow q _ fun ref _ hu => hu.requestClone ref)
  | editSections q => exact of_next h (r.served q _ fun i _ hu => hu.editOrWait _ _ (hu.requestEditSections i))
  | base q => exact of_next h (r.served q _ fun i _ hu => hu.editOrWait _ _ (hu.requestBase i))
  | retire q => exact of_next h (r.servedNow q _ fun ref _ hu => hu.requestRetire ref)
  | revive q => exact of_next h (r.servedNow q _ fun ref _ hu => hu.requestRevive ref)
  | bind q => exact of_next h (r.servedNow q _ fun i _ hu => hu.requestBind i)
  | unbind q => exact of_next h (r.servedNow q _ fun ref _ hu => hu.requestUnbind ref)
  | bindOverride q => exact of_next h (r.servedNow q _ fun i _ hu => hu.requestBindOverride i)
  | unbindOverride q => exact of_next h (r.servedNow q _ fun ref _ hu => hu.requestUnbindOverride ref)
  | lead q => exact of_next h (r.servedNow q _ fun i _ hu => hu.requestLead i)
  | clearFeed q => exact of_next h (r.servedNow q _ fun ref _ hu => hu.requestClearFeed ref)
  | hold q => exact of_next h (r.servedNow q _ fun set u hu => hu.of_same (.changeHolds u set true))
  | release q => exact of_next h (r.servedNow q _ fun set u hu => hu.of_same (.changeHolds u set false))
  | engage q => exact of_next h (r.servedNow q _ fun _ u hu => hu.of_same (.changeSources u _ _))
  | disengage q => exact of_next h (r.servedNow q _ fun _ u hu => hu.of_same (.changeSources u _ _))
  | compactStart q => exact of_next h (r.servedNow q _ fun _ u hu => hu.of_same (.requestCompactStart u))
  | compactStop q => exact of_next h (r.servedNow q _ fun _ u hu => hu.of_same (.requestCompactStop u))
  | rebuildDependencies q => exact of_next h (r.servedNow q _ fun _ u hu => hu.of_same (.requestRebuild u))
  | save q => exact of_next h (r.servedNow q _ fun _ u hu => hu.of_same (.requestSave u))
  | load q => exact of_next h (r.servedNow q _ fun _ u hu => hu.of_same (.requestLoad u))
  | watchSet q => exact of_next h (r.servedNow q _ fun i u hu => hu.of_same (.requestWatchSet u i))
  | watchClear q => exact of_next h (r.servedNow q _ fun n u hu => hu.of_same (.requestWatchClear u n))
  | readWatch q => exact of_next h (r.servedNow q _ fun n u hu => hu.of_same (.requestReadWatch u n))
  | sensorSet q => exact of_next h (r.servedNow q _ fun i u hu => hu.of_same (.requestSensorSet u i))
  | sectorSet q => exact of_next h (r.servedNow q _ fun i u hu => hu.of_same (.requestSectorSet u i))
  | policySet q => exact of_next h (r.servedNow q _ fun cs u hu => hu.of_same (.requestPolicySet u cs))
  | crossStandSet q => exact of_next h (r.servedNow q _ fun v u hu => hu.of_same (.requestCrossStandSet u v))
  | readNotices q => exact of_next h (r.servedNow q _ fun _ _ hu => hu)
  | clearNotices q => exact of_next h (r.servedNow q _ fun _ _ hu => hu.of_same (.of_eq rfl rfl rfl))
  | noticeMask q => exact of_next h (r.servedNow q _ fun m u hu => hu.of_same (.changeMask u m))
  | blockBoundary =>
    refine of_next h ?_
    split
    · exact r
    · refine r.of_same (.trans ?_ (.countBlocks _))
      refine .trans ?_ (.stepFeeds _)
      exact .of_eq rfl rfl rfl
  | transitionComplete f =>
    refine of_next h ?_
    dsimp only
    split
    · split
      · exact r.of_same (.setRender s _ _)
      · exact r
    · exact r
  | sinceChangeTick n =>
    refine of_next h ?_
    dsimp only
    split
    · split
      · exact r.of_same (.setSector s _ _)
      · exact r
    · exact r
  | conversionStart k =>
    refine of_next h ?_
    dsimp only
    split
    · exact r.of_same (.setChannel s _ _)
    · exact r
  | readingComplete k code =>
    refine of_next h ?_
    dsimp only
    split
    · exact r.of_same (.setChannel s _ _)
    · split
      · exact r.of_same ((SameReferences.setChannel s _ _).trans (.applyReading _ _ _))
      · exact r
  | resolutionStart =>
    refine of_next h ?_
    split
    · exact r.of_same (.of_eq rfl rfl rfl)
    · exact r
  | resolutionComplete =>
    refine of_next h ?_
    have cleared : SameReferences s s.clearInFlight := .of_eq rfl rfl rfl
    split
    · exact r
    · split
      · exact r.of_same cleared
      · exact r.of_same (cleared.trans (.concludeResolution _ _))
  | moveComplete => exact of_next h r.completeMove
  | deferredEdit =>
    refine of_next h ?_
    split
    · exact r.completeMove
    · exact r
  | saveComplete readBack =>
    refine of_next h ?_
    split
    · refine r.of_same (.trans ?_ (.raise _ _))
      exact .of_eq_unheld rfl rfl nofun
    all_goals exact r
  | loadReadComplete answer =>
    refine of_next h ?_
    split
    · exact r.finishRead answer
    all_goals exact r
  | heldLoadReplacement =>
    refine of_next h ?_
    split
    · next g held =>
      split
      · exact r
      · exact r.replaceTables (r.heldImage g held)
    all_goals exact r
  | startupWaitExpiry =>
    refine of_next h ?_
    split
    · exact r.of_same (.of_eq_unheld rfl rfl nofun)
    all_goals exact r
  | replyPlacement =>
    refine of_next h ?_
    split
    · exact r.of_same (.setPort s _)
    all_goals exact r

end ReferencesSound

/-- Settles O56: the references stay balanced through every command; each change of a reference is followed by the counts
of what it names. -/
theorem referencesStaySound : Obligations.ReferencesStaySound := by
  unfold Obligations.ReferencesStaySound
  intro s t sound h
  unfold step at h
  split at h
  · cases h
    exact sound
  · next c rest _ =>
    exact (sound.of_same (t := { s with pending := rest }) (.of_eq rfl rfl rfl)).exec h

end Sys2Proof.Machine
end

section
/-! ### Cold start, and the rounding of the block (R2, R21, R100, R108, R109) -/

namespace Sys2Proof.Machine

theorem State.feed_reset (f : FeedNo) : State.reset.feed f = FeedEntry.reset := Table.get_fill _ f

/-- Settles O2: COLD_START builds the block from `State.reset`, whose Feed Table is filled with one entry. -/
theorem coldStartFeeds : Obligations.ColdStartFeeds := by
  unfold Obligations.ColdStartFeeds
  intro s
  exact ⟨_, rfl, rfl, rfl, fun f => ⟨rfl, State.feed_reset f⟩⟩

/-! #### Quotients rounded to the nearest integer, halves away from zero -/

theorem roundDiv_of_nonneg {n : Int} (hn : 0 ≤ n) (d : Int) : roundDiv n d = (2 * n + d) / (2 * d) := by
  rw [roundDiv, if_pos hn]

theorem roundDiv_neg (n : Int) {d : Int} (hd : 0 < d) : roundDiv (-n) d = -roundDiv n d := by
  have zero : d / (2 * d) = 0 := Int.ediv_eq_zero_of_lt (by omega) (by omega)
  rcases lt_trichotomy n 0 with neg | rfl | pos
  · rw [roundDiv_of_nonneg (by omega), roundDiv, if_neg (by omega), neg_neg]
    congr 2
    omega
  · simp [roundDiv, zero]
  · rw [roundDiv, if_neg (by omega), roundDiv_of_nonneg (by omega)]
    congr 3
    omega

/-- `q` is within half of `n / d`, and farther from zero where it is just half away. -/
def RoundsTo (n d q : Int) : Prop := 2 * |n - d * q| ≤ d ∧ (2 * |n - d * q| = d → |n| < |d * q|)

theorem RoundsTo.neg {n d q : Int} (h : RoundsTo n d q) : RoundsTo (-n) d (-q) := by
  have flip : |-n - d * -q| = |n - d * q| := by rw [← abs_neg]; congr 1; ring
  have away : |d * -q| = |d * q| := by rw [mul_neg, abs_neg]
  unfold RoundsTo
  rw [flip, away, abs_neg]
  exact h

theorem roundDiv_rounds (n : Int) {d : Int} (hd : 0 < d) : RoundsTo n d (roundDiv n d) := by
  have nonneg : ∀ n, 0 ≤ n → RoundsTo n d (roundDiv n d) := by
    intro n hn
    rw [roundDiv_of_nonneg hn]
    have low := Int.ediv_mul_le (2 * n + d) (b := 2 * d) (by omega)
    have high := Int.lt_ediv_add_one_mul_self (2 * n + d) (b := 2 * d) (by omega)
    generalize (2 * n + d) / (2 * d) = q at low high
    have low' : 2 * (d * q) ≤ 2 * n + d := by linarith
    have high' : 2 * n + d < 2 * (d * q) + 2 * d := by linarith
    unfold RoundsTo
    generalize d * q = x at low' high'
    constructor
    · rcases abs_cases (n - x) with ⟨e, -⟩ | ⟨e, -⟩ <;> omega
    · intro half
      have above : n < x := by rcases abs_cases (n - x) with ⟨e, -⟩ | ⟨e, -⟩ <;> omega
      rwa [abs_of_nonneg hn, abs_of_nonneg (by omega)]
  rcases le_total 0 n with hn | hn
  · exact nonneg n hn
  · have flipped := (nonneg (-n) (by omega)).neg
    rwa [roundDiv_neg n hd, neg_neg, neg_neg] at flipped

theorem meanOf_eq (temps : List Int) :
    meanOf temps = if temps = [] then none else some (roundDiv temps.sum temps.length) := by
  cases temps with
  | nil => rfl
  | cons t ts => rfl

/-! #### The contribution of a link and the speed of sound -/

theorem contribution_neg (p : Int) {v : Int} (hv : 0 < v) : contribution (-p) v = -contribution p v := by
  unfold contribution
  rw [mul_neg, roundDiv_neg _ hv]

/-- The greatest path over the lowest speed of sound bounds every contribution (R21, R108). -/
theorem abs_contribution_le {p v : Int} (hp : |p| ≤ 250000) (hv : 31312 ≤ v) : |contribution p v| ≤ 613183 := by
  have nonneg : ∀ p, 0 ≤ p → p ≤ 250000 → 0 ≤ contribution p v ∧ contribution p v ≤ 613183 := by
    intro p h0 h1
    unfold contribution
    rw [roundDiv_of_nonneg (by omega)]
    exact ⟨Int.ediv_nonneg (by omega) (by omega),
      Int.lt_add_one_iff.mp (Int.ediv_lt_of_lt_mul (by omega) (by omega))⟩
  rw [abs_le] at hp ⊢
  rcases le_total 0 p with h | h
  · have := nonneg p h hp.2
    omega
  · have := nonneg (-p) (by omega) (by omega)
    rw [contribution_neg p (by omega)] at this
    omega

theorem speedAt_bounds {t : Int} (low : -300 ≤ t) (high : t ≤ 600) : 31312 ≤ speedAt t ∧ speedAt t ≤ 36766 := by
  unfold speedAt roundDiv
  split <;> omega

/-- Settles O37: one rounding serves the contribution, the speed of sound and the averages. -/
theorem contributionAndSpeed : Obligations.ContributionAndSpeed := by
  unfold Obligations.ContributionAndSpeed
  refine ⟨fun n d hd => roundDiv_rounds n hd, meanOf_eq, fun p v hv => ?_, fun p v hp hv => ?_, by decide,
    fun s n sound => ?_, fun t => ?_, fun t low high => speedAt_bounds low high⟩
  · have rounds := roundDiv_rounds (76800 * p) hv
    rw [RoundsTo, mul_comm v] at rounds
    exact ⟨rounds.1, rounds.2, contribution_neg p hv⟩
  · refine ⟨?_, abs_contribution_le hp hv⟩
    rw [abs_mul]
    norm_num
    omega
  · obtain ⟨low, high, -⟩ := sound.2.1 n
    exact ⟨low, high⟩
  · have speed : speedAt t - 33130 = roundDiv (606 * t) 100 := by unfold speedAt; omega
    dsimp only
    rw [speed]
    exact roundDiv_rounds (606 * t) (by norm_num)

end Sys2Proof.Machine
end

section
/-! ### The tests of SET of a feed field (R4, R6, R10, R17, R18) -/

namespace Sys2Proof.Machine

/-- A test at the head of a list of tests. -/
theorem require_bind {α : Type} (holds : Bool) (st : Status) (rest : Unit → Except Status α) :
    (require holds st >>= rest) = if holds = true then rest () else .error st := by
  cases holds <;> rfl

namespace State

variable {s : State}

theorem hasFollowers_iff {f : FeedNo} : s.hasFollowers f = true ↔ ∃ g, (s.feed g).lead = some f := by
  rw [hasFollowers, Bool.not_eq_true', List.isEmpty_eq_false_iff_exists_mem]
  simp only [mem_followersOf]
  rfl

theorem requireNoLongOperation_none (free : s.longOperation = none) : s.requireNoLongOperation = .ok () := by
  rw [requireNoLongOperation, free]

theorem requireNoLongOperation_some {st : Status} (busy : s.longOperation = some st) :
    s.requireNoLongOperation = .error st := by
  rw [requireNoLongOperation, busy]

theorem requireGeometryFree_eq (s : State) (f : FeedNo) : s.requireGeometryFree f =
    if s.locked = true ∧ (s.feed f).overrideAction = .switch then .error .locked else .ok () := by
  unfold requireGeometryFree require
  by_cases h : s.locked = true ∧ (s.feed f).overrideAction = .switch
  · simp [h]
  · rw [if_neg h, if_pos]
    rw [not_and] at h
    cases locked : s.locked
    · rfl
    · simp [h locked]

theorem feedInUse_iff {f : FeedNo} : s.feedInUse f = true ↔ (s.feed f).binding.isSome = true ∨
    (s.feed f).overrideBinding.isSome = true ∨ (s.feed f).lead.isSome = true ∨ ∃ g, (s.feed g).lead = some f := by
  simp only [feedInUse, Bool.or_eq_true, hasFollowers_iff, or_assoc]

/-! #### The field's own tests -/

theorem require_not (b : Bool) (st : Status) : require (!b) st = if b = true then .error st else .ok () := by
  cases b <;> rfl

theorem testFeedField_tier (s : State) (f : FeedNo) (t : Tier) : s.testFeedField f (.tier t) =
    if (s.feed f).binding.isSome = true ∨ (s.feed f).overrideBinding.isSome = true ∨ (s.feed f).lead.isSome = true ∨
      ∃ g, (s.feed g).lead = some f then .error .inUse else .ok () := by
  simp only [testFeedField, require_not, feedInUse_iff]

theorem testFeedField_sector (s : State) (f : FeedNo) (n : SectorNo) : s.testFeedField f (.sector n) =
    if s.locked = true ∧ (s.feed f).overrideAction = .switch then .error .locked
    else if (s.feed f).lead.isSome = true ∨ ∃ g, (s.feed g).lead = some f then .error .inUse else .ok () := by
  simp only [testFeedField, requireGeometryFree_eq, require_not, Bool.or_eq_true, hasFollowers_iff]
  split <;> rfl

theorem testFeedField_action (s : State) (f : FeedNo) (a : OverrideAction) : s.testFeedField f (.action a) =
    if s.locked = true then .error .locked
    else if (s.feed f).overrideBinding.isSome = true then .error .inUse else .ok () := by
  simp only [testFeedField, requireUnlocked, require_not]
  cases (s.feed f).overrideBinding <;> split <;> rfl

/-! #### The two ends of the tests that every field shares -/

theorem testSetFeed_badValue {field : Nat} {v : Int} (f : FeedNo) (bad : feedChange field v = none) :
    s.testSetFeed f field v = .error .badValue := by
  rw [testSetFeed, bad]
  rfl

theorem testSetFeed_unsettable {field : Nat} {v : Int} {c : FeedChange} (f : FeedNo)
    (change : feedChange field v = some c)
    (bad : c.settable = false) : s.testSetFeed f field v = .error .badValue := by
  simp only [testSetFeed, change, require_bind, bad]
  rfl

theorem testSetFeed_busy {field : Nat} {v : Int} {c : FeedChange} {st : Status} (f : FeedNo)
    (change : feedChange field v = some c) (settable : c.settable = true) (busy : s.longOperation = some st) :
    s.testSetFeed f field v = .error st := by
  simp only [testSetFeed, change, require_bind, settable, requireNoLongOperation_some busy]
  rfl

/-- With no long operation the field's own tests decide. -/
theorem testSetFeed_idle {field : Nat} {v : Int} {c : FeedChange} (f : FeedNo) (change : feedChange field v = some c)
    (settable : c.settable = true) (free : s.longOperation = none) :
    s.testSetFeed f field v = (s.testFeedField f c).map fun _ => c := by
  simp only [testSetFeed, change, require_bind, settable, requireNoLongOperation_none free]
  rfl

end State

/-! #### The change that a field and a value name -/

theorem settable_of_ne {c : FeedChange} (h : c ≠ .action .switch) : c.settable = true := by
  cases c with
  | action a =>
    cases a with
    | switch => exact absurd rfl h
    | keep => rfl
    | silence => rfl
  | _ => rfl

theorem feedChange_label {v : Int} (low : 0 ≤ v) (high : v ≤ 65535) :
    feedChange 0 v = some (.label (BitVec.ofInt 16 v)) := by
  have word : BitVec.ofNat 16 v.toNat = BitVec.ofInt 16 v := by
    apply BitVec.eq_of_toNat_eq
    rw [BitVec.toNat_ofNat, BitVec.toNat_ofInt]
    omega
  simp [feedChange, wordOf, inRangeInt, low, high, word]

theorem feedChange_tier (t : Tier) : feedChange 1 t.code = some (.tier t) := by cases t <;> rfl

theorem finOf_val {n : Nat} (x : Fin n) : finOf n x.val = some x := by simp [finOf]

theorem feedChange_sector (n : SectorNo) : feedChange 2 n.val = some (.sector n) := by simp [feedChange, finOf_val]

theorem feedChange_bus (b : Fin 8) : feedChange 3 b.val = some (.bus b) := by simp [feedChange, finOf_val]

theorem feedChange_path {v : Int} (low : -250000 ≤ v) (high : v ≤ 250000) : feedChange 4 v = some (.path v) := by
  simp [feedChange, inRangeInt, low, high]

theorem feedChange_action (a : OverrideAction) : feedChange 5 a.code = some (.action a) := by cases a <;> rfl

/-- A value outside its field's range names no change that SET takes, and no field stands beyond 5 (R10, log 43). -/
theorem feedChange_outside {field : Nat} {v : Int}
    (outside : field = 0 ∧ (v < 0 ∨ 65535 < v) ∨ field = 1 ∧ (v < 0 ∨ 3 < v) ∨ field = 2 ∧ (v < 0 ∨ 15 < v) ∨
      field = 3 ∧ (v < 0 ∨ 7 < v) ∨ field = 4 ∧ (v < -250000 ∨ 250000 < v) ∨ field = 5 ∧ (v < 0 ∨ 1 < v) ∨ 6 ≤ field) :
    feedChange field v = none ∨ feedChange field v = some (.action .switch) := by
  have enum : ∀ {α : Type} (all : List α), v < 0 ∨ (all.length : Int) ≤ v → enumOf all v = none := by
    intro α all h
    unfold enumOf
    split
    · exact List.getElem?_eq_none (by omega)
    · rfl
  have fin : ∀ n : Nat, v < 0 ∨ (n : Int) ≤ v → finOf n v = none := by
    intro n h
    unfold finOf
    exact dif_neg (by omega)
  have range : ∀ lo hi, v < lo ∨ hi < v → inRangeInt lo hi v = false := by
    intro lo hi h
    simp only [inRangeInt, Bool.and_eq_false_iff, decide_eq_false_iff_not]
    omega
  rcases outside with ⟨rfl, h⟩ | ⟨rfl, h⟩ | ⟨rfl, h⟩ | ⟨rfl, h⟩ | ⟨rfl, h⟩ | ⟨rfl, h⟩ | h
  · left; simp [feedChange, wordOf, range _ _ h]
  · left; simp [feedChange, enum Tier.all (by simp [Tier.all]; omega)]
  · left; simp [feedChange, fin 16 (by omega)]
  · left; simp [feedChange, fin 8 (by omega)]
  · left; simp [feedChange, range _ _ h]
  · by_cases two : v = 2
    · right; subst two; rfl
    · left; simp [feedChange, enum OverrideAction.all (by simp [OverrideAction.all]; omega)]
  · left
    obtain ⟨k, rfl⟩ : ∃ k, field = k + 6 := ⟨field - 6, by omega⟩
    rfl

/-- Settles O18: after the tests that every field shares, each field has its own. -/
theorem setFeedTests : Obligations.SetFeedTests := by
  unfold Obligations.SetFeedTests
  intro s f field v
  refine ⟨s.testSetFeed_badValue f, fun outside => ?_, fun c st change other busy =>
    s.testSetFeed_busy f change (settable_of_ne other) busy, fun free =>
      ⟨fun low high => ?_, fun t => ?_, fun n => ?_, fun b => ?_, fun low high => ?_, fun a other => ?_⟩⟩
  · rcases feedChange_outside outside with none | switch
    · exact s.testSetFeed_badValue f none
    · exact s.testSetFeed_unsettable f switch rfl
  · rw [s.testSetFeed_idle f (feedChange_label low high) rfl free]
    rfl
  · rw [s.testSetFeed_idle f (feedChange_tier t) rfl free, s.testFeedField_tier]
    split_ifs <;> rfl
  · rw [s.testSetFeed_idle f (feedChange_sector n) rfl free, s.testFeedField_sector]
    split_ifs <;> rfl
  · rw [s.testSetFeed_idle f (feedChange_bus b) rfl free]
    rfl
  · rw [s.testSetFeed_idle f (feedChange_path low high) rfl free, State.testFeedField, s.requireGeometryFree_eq]
    split_ifs <;> rfl
  · rw [s.testSetFeed_idle f (feedChange_action a) (settable_of_ne (by simpa using other)) free,
      s.testFeedField_action]
    split_ifs <;> rfl

end Sys2Proof.Machine
end

section
/-! ### The tests of LEAD (R10 to R16, R73) -/

namespace Sys2Proof.Machine

theorem isNoLead_iff (ref : RecordRef) : isNoLead ref = true ↔ ∃ gen, ref = .numbered .feed 255 gen := by
  constructor
  · intro h
    unfold isNoLead at h
    split at h
    · exact ⟨_, rfl⟩
    · cases h
  · rintro ⟨gen, rfl⟩
    rfl

namespace State

variable {s : State}

theorem wouldCycle_iff {f l : FeedNo} : s.wouldCycle f l = true ↔ l = f ∨ f ∈ chainAbove s.leadOf 96 l := by
  simp [wouldCycle]

theorem crossStandFor_refuse_iff {f l : FeedNo} :
    s.crossStandFor f l = .refuse ↔ s.standOf f ≠ s.standOf l ∧ s.crossStand = .refuse := by
  unfold crossStandFor
  split <;> simp_all

theorem require_ne (o : PolicyOutcome) (st : Status) :
    require (o ≠ .refuse) st = if o = .refuse then .error st else .ok () := by
  cases o <;> rfl

/-- The four checks of R12, in order. -/
theorem testLeadTo_eq (s : State) (f l : FeedNo) : s.testLeadTo f l =
    if l = f ∨ f ∈ chainAbove s.leadOf 96 l then .error .cycle
    else if 4 < s.depth l + 1 + s.height f then .error .tooDeep
    else if s.policyFor (s.feed f).tier (s.feed l).tier = .refuse then .error .policyRefused
    else if s.standOf f ≠ s.standOf l ∧ s.crossStand = .refuse then .error .crossStand
    else .ok () := by
  have deep : s.wouldBeTooDeep f l = true ↔ 4 < s.depth l + 1 + s.height f := decide_eq_true_iff
  simp only [testLeadTo, require_not, require_ne, wouldCycle_iff, deep, crossStandFor_refuse_iff]
  split_ifs <;> rfl

theorem refLead_none {ref : RecordRef} (h : isNoLead ref = true) : s.refLead ref = .ok none := by
  rw [refLead, if_pos h]

theorem refLead_some {ref : RecordRef} (h : isNoLead ref = false) : s.refLead ref = (s.refFeed ref).map some := by
  rw [refLead, h]
  rfl

/-! #### LEAD's tests from the references on -/

theorem testLead_follower {i : LeadItems} {st : Status} (bad : s.refFeed i.follower = .error st) :
    s.testLead i = .error st := by
  rw [testLead, bad]
  rfl

theorem testLead_lead {i : LeadItems} {f : FeedNo} {st : Status} (named : s.refFeed i.follower = .ok f)
    (bad : s.refLead i.lead = .error st) : s.testLead i = .error st := by
  rw [testLead, named]
  show (s.refLead i.lead >>= _) = _
  rw [bad]
  rfl

theorem testLead_busy {i : LeadItems} {f : FeedNo} {l : Option FeedNo} {st : Status}
    (named : s.refFeed i.follower = .ok f) (lead : s.refLead i.lead = .ok l) (busy : s.longOperation = some st) :
    s.testLead i = .error st := by
  rw [testLead, named]
  show (s.refLead i.lead >>= _) = _
  rw [lead]
  show (s.requireNoLongOperation >>= _) = _
  rw [requireNoLongOperation_some busy]
  rfl

theorem testLead_idle {i : LeadItems} {f : FeedNo} {l : Option FeedNo} (named : s.refFeed i.follower = .ok f)
    (lead : s.refLead i.lead = .ok l) (free : s.longOperation = none) : s.testLead i =
    if s.locked = true ∧ (s.feed f).overrideAction = .switch then .error .locked
    else (s.testOptLead f l).map fun _ => ⟨f, l⟩ := by
  rw [testLead, named]
  show (s.refLead i.lead >>= _) = _
  rw [lead]
  show (s.requireNoLongOperation >>= _) = _
  rw [requireNoLongOperation_none free]
  show (s.requireGeometryFree f >>= _) = _
  rw [requireGeometryFree_eq]
  split_ifs <;> rfl

end State

/-- Settles O20: LEAD's tests one after another, and the chains of R11 where none has more than four links. -/
theorem leadChecks : Obligations.LeadChecks := by
  unfold Obligations.LeadChecks
  refine ⟨isNoLead_iff, State.testLeadTo_eq, fun s i => ⟨fun st bad => State.testLead_follower bad,
    fun f named => ⟨?_, ?_⟩⟩, ?_⟩
  · intro st other bad
    refine State.testLead_lead named ?_
    rw [State.refLead_some other, bad]
    rfl
  · intro l hl
    have lead : s.refLead i.lead = .ok l := by
      rcases hl with ⟨no, rfl⟩ | ⟨other, x, hx, rfl⟩
      · exact State.refLead_none no
      · rw [State.refLead_some other, hx]
        rfl
    refine ⟨fun st busy => State.testLead_busy named lead busy, fun free => ?_⟩
    rw [State.testLead_idle named lead free]
    cases l with
    | none => rfl
    | some x =>
      simp only [State.testOptLead, State.testLeadTo_eq]
      split_ifs <;> rfl
  · rintro s ⟨short, -⟩
    refine ⟨State.mem_chainAbove_iff short, fun f root => ?_, fun f l => State.depth_lead short,
      fun f => State.height_of_none short, fun f g => State.height_of_follower short,
      fun f ⟨g, hg⟩ => State.height_reached short hg, State.depth_add_height short⟩
    rw [State.depth, chainAbove_of_root (lead := s.leadOf) root]
    rfl

end Sys2Proof.Machine
end

section
/-! ### A change request that is taken: its state put together (R10, R145, R171) -/

namespace Sys2Proof.Machine

namespace State

variable {s : State}

theorem afterAbandon_of_settled (settled : s.poolSettled) : s.afterAbandon = s := by
  cases idle : s.pool.compaction with
  | idle => exact afterAbandon_of_idle idle
  | running => exact afterAbandon_of_move (settled.mpr (by simp [idle]))
  | stopping => exact afterAbandon_of_move (settled.mpr (by simp [idle]))

theorem afterAbandon_frame (s : State) : s.afterAbandon = { s with
    handles := s.afterAbandon.handles, pool := s.afterAbandon.pool, notices := s.afterAbandon.notices } := by
  unfold afterAbandon nextMove
  split
  · rfl
  · rfl
  · split <;> rfl
  · rfl

theorem endWait_frame (s : State) : s.endWait = { s with image := s.endWait.image } := by
  unfold endWait
  split <;> rfl

theorem endWait_image_congr {t : State} (image : t.image = s.image) : t.endWait.image = s.endWait.image := by
  unfold endWait
  rw [image]
  split <;> simp_all

/-- The block as the effect of a change request at the port finds it. -/
def beforeEffect (s : State) (r : RecordName) : State := { s.observed r with port := s.released.port }

variable {r : RecordName}

@[simp] theorem beforeEffect_feed (f : FeedNo) : (s.beforeEffect r).feed f = s.feed f := by
  simp [beforeEffect, feed, observed]

@[simp] theorem beforeEffect_handles : (s.beforeEffect r).handles = s.handles := by simp [beforeEffect, observed]
@[simp] theorem beforeEffect_pool : (s.beforeEffect r).pool = s.pool := by simp [beforeEffect, observed]
@[simp] theorem beforeEffect_policy : (s.beforeEffect r).policy = s.policy := by simp [beforeEffect, observed]
@[simp] theorem beforeEffect_crossStand : (s.beforeEffect r).crossStand = s.crossStand := by
  simp [beforeEffect, observed]
@[simp] theorem beforeEffect_sectors : (s.beforeEffect r).sectors = s.sectors := by simp [beforeEffect, observed]
@[simp] theorem beforeEffect_deps : (s.beforeEffect r).deps = s.deps := by simp [beforeEffect, observed]
@[simp] theorem beforeEffect_resolver : (s.beforeEffect r).resolver = s.resolver := by simp [beforeEffect, observed]
@[simp] theorem beforeEffect_image : (s.beforeEffect r).image = s.image := by simp [beforeEffect, observed]
@[simp] theorem beforeEffect_notices : (s.beforeEffect r).notices = (s.observed r).notices := rfl

@[simp] theorem beforeEffect_queuedOne (f : FeedNo) : (s.beforeEffect r).queuedOne f = s.queuedOne f := by
  simp [queuedOne]

/-- The end of a taken change request whose effect touched the records of feeds and profiles alone. -/
theorem answered_taken {v : State} (tag : Byte) (st : Status) (body : List Byte)
    (effect : v = { s.beforeEffect r with
      feeds := v.feeds, handles := v.handles, pool := v.pool, deps := v.deps, notices := v.notices
      resolver := v.resolver }) :
    v.afterAbandon.endWait.answered tag st body = { s.observed r with
      feeds := v.feeds, handles := v.afterAbandon.handles, pool := v.afterAbandon.pool, deps := v.deps
      notices := v.afterAbandon.notices, resolver := v.resolver, port := s.portAnswered tag st body
      image := s.endWait.image } := by
  have image : v.afterAbandon.endWait.image = s.endWait.image :=
    endWait_image_congr (by rw [afterAbandon_image, effect]; exact beforeEffect_image)
  rw [endWait_frame, image, afterAbandon_frame]
  generalize v.afterAbandon.handles = handles, v.afterAbandon.pool = pool, v.afterAbandon.notices = notices
  rw [effect]
  rfl

/-- A taken change that leaves handles and pool alone abandons no move. -/
theorem answered_taken_of_settled {v : State} {r : RecordName} (tag : Byte) (st : Status) (body : List Byte)
    (settled : s.poolSettled)
    (effect : v = { s.beforeEffect r with
      feeds := v.feeds, deps := v.deps, notices := v.notices, resolver := v.resolver }) :
    v.afterAbandon.endWait.answered tag st body = { s.observed r with
      feeds := v.feeds, deps := v.deps, notices := v.notices, resolver := v.resolver
      port := s.portAnswered tag st body, image := s.endWait.image } := by
  have pool : v.pool = s.pool := by rw [effect]; exact beforeEffect_pool
  have handles : v.handles = s.handles := by rw [effect]; exact beforeEffect_handles
  have quiet : v.afterAbandon = v := afterAbandon_of_settled (by rw [poolSettled, pool]; exact settled)
  rw [answered_taken (s := s) (r := r) tag st body
    (by rw [pool, handles, effect]; simp [beforeEffect, observed]), quiet, pool, handles]
  simp [observed]

end State

/-! ### LEAD (R15, R16, R69, R76, R77) -/

namespace State

variable {s : State}

/-- The sector of a lead that lies in another sector than its follower. -/
def farSector (s : State) (f : FeedNo) (l : Option FeedNo) : Option SectorNo :=
  l.bind fun l => if (s.feed l).sector = (s.feed f).sector then none else some (s.feed l).sector

theorem crossSectorLead_setFeed (s : State) (f : FeedNo) (l : Option FeedNo) :
    (s.setFeed f { s.feed f with lead := l }).crossSectorLead f = s.farSector f l := by
  have sector : ∀ g, ((s.setFeed f { s.feed f with lead := l }).feed g).sector = (s.feed g).sector := by
    intro g
    rw [feed_setFeed_eq]
    split
    · next e => rw [e]
    · rfl
  unfold crossSectorLead farSector
  rw [feed_setFeed]
  cases l with
  | none => rfl
  | some l =>
    simp only [sector, Option.bind_some]

/-- The dependency entry of a follower after its LEAD: removal first, then the new entry or the mark (R76, R77). -/
def depsAfter (d : Dependencies) (f : FeedNo) (far : Option SectorNo) : Dependencies :=
  match far with
  | some n =>
    if (d.remove f).count < 48 then { d.remove f with entries := (d.remove f).entries.upd f (some n) }
    else { d.remove f with overflow := (d.remove f).overflow.upd n true }
  | none => d.remove f

/-- The overflow notice of a LEAD that finds no room for its entry, on the notices `n` (R76). -/
def overflowNoted (d : Dependencies) (f : FeedNo) (far : Option SectorNo) (n : Notices) : Notices :=
  match far with
  | some k => if (d.remove f).count < 48 then n else n.raise (.dependencyOverflow k)
  | none => n

theorem updateDependency_eq (s : State) (f : FeedNo) : s.updateDependency f = { s with
    deps := depsAfter s.deps f (s.crossSectorLead f)
    notices := overflowNoted s.deps f (s.crossSectorLead f) s.notices } := by
  unfold updateDependency
  cases s.crossSectorLead f with
  | none => rfl
  | some n =>
    by_cases room : (s.deps.remove f).count < 48
    · simp [depsAfter, overflowNoted, Dependencies.record, Config.dependencyCapacity, room]
    · simp [depsAfter, overflowNoted, Dependencies.record, Dependencies.mark, Config.dependencyCapacity, room, raise]

theorem storeLead_eq (s : State) (f : FeedNo) (l : Option FeedNo) : s.storeLead f l =
    { s.setFeed f { s.feed f with lead := l } with
      deps := depsAfter s.deps f (s.farSector f l)
      notices := overflowNoted s.deps f (s.farSector f l) s.notices } := by
  unfold storeLead
  dsimp only
  rw [updateDependency_eq, crossSectorLead_setFeed, setFeed_deps, setFeed_notices]

/-- The POLICY notices of a LEAD, on the notices `n` that stand before them (R69). -/
def leadNotices (s : State) (f : FeedNo) (l : Option FeedNo) (n : Notices) : Notices :=
  match l with
  | none => n
  | some l =>
    let tier := if s.policyFor (s.feed f).tier (s.feed l).tier = .notify then
        n.raise (.policy ⟨.feed f, .feed l, .lead⟩) else n
    if s.crossStand = .notify ∧ s.standOf f ≠ s.standOf l then
      tier.raise (.policy ⟨.feed f, .feed l, .crossStand⟩) else tier

theorem crossStandFor_notify_iff {f l : FeedNo} :
    s.crossStandFor f l = .notify ↔ s.crossStand = .notify ∧ s.standOf f ≠ s.standOf l := by
  unfold crossStandFor
  split <;> simp_all

theorem notifyPolicy_eq (s : State) (o : PolicyOutcome) (d : PolicyDetail) :
    s.notifyPolicy o d = { s with notices := if o = .notify then s.notices.raise (.policy d) else s.notices } := by
  unfold notifyPolicy
  split <;> rfl

theorem notifyOptLead_eq (s : State) (f : FeedNo) (l : Option FeedNo) :
    s.notifyOptLead f l = { s with notices := s.leadNotices f l s.notices } := by
  cases l with
  | none => rfl
  | some l =>
    simp only [notifyOptLead, notifyLead, notifyPolicy_eq, leadNotices, crossStandFor_notify_iff]

end State

end Sys2Proof.Machine
end

section
/-! ### LEAD: what a taken one stores (R15, R16, R69, R76, R77, R84) -/

namespace Sys2Proof.Machine

namespace State

variable {s t : State}

theorem standOf_congr {f : FeedNo} (sectors : t.sectors = s.sectors) (sector : (t.feed f).sector = (s.feed f).sector) :
    t.standOf f = s.standOf f := by
  unfold standOf State.sector
  rw [sectors, sector]

/-- The notices of a LEAD read the tiers and sectors of the two feeds, and the policy settings. -/
theorem leadNotices_congr (policy : t.policy = s.policy) (crossStand : t.crossStand = s.crossStand)
    (sectors : t.sectors = s.sectors) (tier : ∀ g, (t.feed g).tier = (s.feed g).tier)
    (sector : ∀ g, (t.feed g).sector = (s.feed g).sector) (f : FeedNo) (l : Option FeedNo) (n : Notices) :
    t.leadNotices f l n = s.leadNotices f l n := by
  have stand : ∀ g, t.standOf g = s.standOf g := fun g => standOf_congr sectors (sector g)
  cases l with
  | none => rfl
  | some l =>
    have outcome : t.policyFor (t.feed f).tier (t.feed l).tier = s.policyFor (s.feed f).tier (s.feed l).tier := by
      rw [policyFor, policy, tier, tier, policyFor]
    unfold leadNotices
    dsimp only
    rw [outcome, crossStand, stand, stand]

theorem farSector_congr (sector : ∀ g, (t.feed g).sector = (s.feed g).sector) (f : FeedNo) (l : Option FeedNo) :
    t.farSector f l = s.farSector f l := by
  simp only [farSector, sector]

theorem feed_storeLead (s : State) (f g : FeedNo) (l : Option FeedNo) :
    (s.storeLead f l).feed g = if g = f then { s.feed f with lead := l } else s.feed g := by
  rw [storeLead_eq, ← feed_setFeed_eq]
  rfl

theorem feed_applyLead (s : State) (p : LeadPlan) :
    (s.applyLead p).feed p.follower = { (s.feed p.follower).queued with lead := p.lead } := by
  have stored : ((s.storeLead p.follower p.lead).notifyOptLead p.follower p.lead).feed p.follower =
      { s.feed p.follower with lead := p.lead } := by
    rw [notifyOptLead_eq]
    exact (s.feed_storeLead _ _ _).trans (if_pos rfl)
  rw [applyLead, feed_queueFeed, stored]
  rfl

theorem feed_applyLead_other {g : FeedNo} (s : State) (p : LeadPlan) (other : g ≠ p.follower) :
    (s.applyLead p).feed g = s.feed g := by
  rw [applyLead, feed_queueFeed_other _ other, notifyOptLead_eq]
  exact (s.feed_storeLead _ _ _).trans (if_neg other)

theorem applyLead_notices (s : State) (p : LeadPlan) : (s.applyLead p).notices =
    s.leadNotices p.follower p.lead
      (overflowNoted s.deps p.follower (s.farSector p.follower p.lead) s.notices) := by
  have kept : ∀ g, ((s.storeLead p.follower p.lead).feed g).tier = (s.feed g).tier ∧
      ((s.storeLead p.follower p.lead).feed g).sector = (s.feed g).sector := by
    intro g
    rw [feed_storeLead]
    split
    · next e => rw [e]; exact ⟨rfl, rfl⟩
    · exact ⟨rfl, rfl⟩
  rw [applyLead, queueFeed_notices, notifyOptLead_eq]
  dsimp only
  rw [leadNotices_congr (s := s) _ _ _ (fun g => (kept g).1) (fun g => (kept g).2)]
  all_goals rw [storeLead_eq]
  all_goals simp

theorem applyLead_deps (s : State) (p : LeadPlan) :
    (s.applyLead p).deps = depsAfter s.deps p.follower (s.farSector p.follower p.lead) := by
  rw [applyLead, notifyOptLead_eq, storeLead_eq]
  rfl

theorem applyLead_resolver (s : State) (p : LeadPlan) : (s.applyLead p).resolver = s.queuedOne p.follower := by
  rw [applyLead, notifyOptLead_eq, storeLead_eq]
  rfl

theorem applyLead_frame (s : State) (p : LeadPlan) : s.applyLead p = { s with
    feeds := (s.applyLead p).feeds, deps := (s.applyLead p).deps, notices := (s.applyLead p).notices
    resolver := (s.applyLead p).resolver } := by
  unfold applyLead
  rw [notifyOptLead_eq, storeLead_eq]
  rfl

end State

/-- Settles O19: the three ends of a LEAD, and what a taken one stores. -/
theorem leadStored : Obligations.LeadStored := by
  unfold Obligations.LeadStored
  intro s r i items ready follower lead
  have formed : (accepts .feed i.follower && accepts .feed i.lead) = true := by rw [follower, lead]; rfl
  refine ⟨fun st bad => ?_, fun p ok stop => ?_, fun p ok may => ?_⟩
  · exact congrArg Host.Outcome.next (serveNow_change_error r _ s State.testLead (fun p => .feed p.follower)
      (fun p s => s.applyLead p) (fun _ => okBody []) ready items formed bad)
  · exact congrArg Host.Outcome.next (serveNow_change_stopped r _ s State.testLead (fun p => .feed p.follower)
      (fun p s => s.applyLead p) (fun _ => okBody []) ready items formed ok stop)
  intro w f removed far noted
  have taken := serveNow_change_taken r (fun i => accepts .feed i.follower && accepts .feed i.lead) s State.testLead
    (fun p => .feed p.follower) (fun p s => s.applyLead p) (fun _ => okBody []) ready items formed ok may.unstopped
  let v := (s.beforeEffect (.feed f)).applyLead p
  have frame : v = { s.beforeEffect (.feed f) with
      feeds := v.feeds, deps := v.deps, notices := v.notices, resolver := v.resolver } :=
    State.applyLead_frame _ p
  have ended := State.answered_taken_of_settled r.tag .ok [] may.settled frame
  have far' : (s.beforeEffect (.feed f)).farSector p.follower p.lead = s.farSector p.follower p.lead :=
    State.farSector_congr (fun g => congrArg FeedEntry.sector (State.beforeEffect_feed g)) _ _
  refine ⟨_, congrArg Host.Outcome.next (taken.trans ended), ?_, fun g other => ?_, ?_, ?_, ?_, rfl, rfl⟩
  · exact (State.feed_applyLead _ p).trans (by rw [State.beforeEffect_feed])
  · exact (State.feed_applyLead_other _ p other).trans (State.beforeEffect_feed g)
  · exact (State.applyLead_deps _ p).trans (by rw [State.beforeEffect_deps, far']; rfl)
  · refine (State.applyLead_notices _ p).trans ?_
    rw [State.beforeEffect_deps, far', State.beforeEffect_notices]
    exact State.leadNotices_congr State.beforeEffect_policy State.beforeEffect_crossStand State.beforeEffect_sectors
      (fun g => congrArg FeedEntry.tier (State.beforeEffect_feed g))
      (fun g => congrArg FeedEntry.sector (State.beforeEffect_feed g)) _ _ _
  · exact (State.applyLead_resolver _ p).trans (State.beforeEffect_queuedOne f)

end Sys2Proof.Machine
end

section
/-! ### CLEAR FEED (R20, R34, R62) -/

namespace Sys2Proof.Machine

namespace State

variable {s : State}

/-! #### The tests -/

theorem testClearFeed_error {ref : RecordRef} {st : Status} (bad : s.refFeed ref = .error st) :
    s.testClearFeed ref = .error st := by
  rw [testClearFeed, bad]
  rfl

theorem testClearFeed_busy {ref : RecordRef} {f : FeedNo} {st : Status} (named : s.refFeed ref = .ok f)
    (busy : s.longOperation = some st) : s.testClearFeed ref = .error st := by
  rw [testClearFeed, named]
  show (s.requireNoLongOperation >>= _) = _
  rw [requireNoLongOperation_some busy]
  rfl

theorem testClearFeed_idle {ref : RecordRef} {f : FeedNo} (named : s.refFeed ref = .ok f)
    (free : s.longOperation = none) : s.testClearFeed ref =
      if s.locked = true ∧ (s.feed f).overrideAction ≠ .keep then .error .locked
      else if ∃ g, (s.feed g).lead = some f then .error .hasFollowers
      else .ok f := by
  rw [testClearFeed, named]
  show (s.requireNoLongOperation >>= _) = _
  rw [requireNoLongOperation_none free]
  simp only [require_not, Bool.and_eq_true, decide_eq_true_iff, hasFollowers_iff]
  split_ifs <;> rfl

/-- A CLEAR FEED that passes its tests names a feed. -/
theorem testClearFeed_ok {ref : RecordRef} {f : FeedNo} (ok : s.testClearFeed ref = .ok f) : s.refFeed ref = .ok f := by
  cases named : s.refFeed ref with
  | error st =>
    rw [testClearFeed_error named] at ok
    cases ok
  | ok g =>
    simp only [testClearFeed, named, except_bind_ok] at ok
    obtain ⟨x, hx, -, -, -, -, -, -, hf⟩ := ok
    rw [hx]
    exact congrArg Except.ok (Except.ok.inj hf)

/-! #### Freeing profiles reads and writes the Profile Table, the pool and the notices alone -/

/-- The block `s` with the feeds, dependency entries, Resolve Queue and port of `t`. -/
def withFeedsOf (s t : State) : State :=
  { s with feeds := t.feeds, deps := t.deps, resolver := t.resolver, port := t.port }

theorem dropBase_withFeedsOf (s t : State) (b : HandleIx) :
    (s.withFeedsOf t).dropBase b = (s.dropBase b).withFeedsOf t := by
  unfold dropBase
  dsimp only
  by_cases h : ((s.lowerCount b).handle b).exhausted = true
  · rw [if_pos h]
    exact if_pos h
  · rw [if_neg h]
    exact if_neg h

theorem freeHandle_withFeedsOf (s t : State) (h : HandleIx) :
    (s.withFeedsOf t).freeHandle h = (s.freeHandle h).withFeedsOf t := by
  have base : (s.withFeedsOf t).baseOf h = s.baseOf h := rfl
  unfold freeHandle
  rw [base]
  cases s.baseOf h with
  | none => rfl
  | some b => exact dropBase_withFeedsOf (s.freeOne h) t b.ix

theorem dropReference_withFeedsOf (s t : State) (h : HandleIx) :
    (s.withFeedsOf t).dropReference h = (s.dropReference h).withFeedsOf t := by
  unfold dropReference
  dsimp only
  by_cases e : ((s.lowerCount h).handle h).exhausted = true
  · rw [if_pos e]
    exact (if_pos e).trans (freeHandle_withFeedsOf (s.lowerCount h) t h)
  · rw [if_neg e]
    exact if_neg e

theorem dropOptional_withFeedsOf (s t : State) (h : Option Handle) :
    (s.withFeedsOf t).dropOptional h = (s.dropOptional h).withFeedsOf t := by
  cases h with
  | none => rfl
  | some h => exact dropReference_withFeedsOf s t h.ix

theorem nextMove_withFeedsOf (s t : State) : (s.withFeedsOf t).nextMove = s.nextMove.withFeedsOf t := by
  have choose : (s.withFeedsOf t).chooseMove = s.chooseMove := rfl
  unfold nextMove
  rw [choose]
  cases s.chooseMove <;> rfl

theorem afterAbandon_withFeedsOf (s t : State) : (s.withFeedsOf t).afterAbandon = s.afterAbandon.withFeedsOf t := by
  have pool : (s.withFeedsOf t).pool = s.pool := rfl
  unfold afterAbandon
  rw [pool]
  cases s.pool.move with
  | some m => rfl
  | none =>
    cases s.pool.compaction with
    | idle => rfl
    | running => exact nextMove_withFeedsOf s t
    | stopping => rfl

theorem dropOptional_frame (s : State) (h : Option Handle) : s.dropOptional h =
    { s with handles := (s.dropOptional h).handles, pool := (s.dropOptional h).pool } := by
  cases h with
  | none => rfl
  | some h =>
    obtain ⟨handles, pool, eq⟩ := dropReference_frame s h.ix
    rw [dropOptional, eq]

/-! #### The effect -/

/-- The profiles once the references of both bindings of a feed are removed (R20). -/
def dropBindings (s : State) (f : FeedNo) : State :=
  (s.dropOptional (s.feed f).binding).dropOptional (s.feed f).overrideBinding

theorem dropBindings_frame (s : State) (f : FeedNo) : s.dropBindings f =
    { s with handles := (s.dropBindings f).handles, pool := (s.dropBindings f).pool } := by
  unfold dropBindings
  rw [dropOptional_frame (s.dropOptional _), dropOptional_frame s]

theorem dropBindings_withPort (s : State) (p : Port) (f : FeedNo) :
    ({ s with port := p } : State).dropBindings f = { s.dropBindings f with port := p } := by
  have other : ({ s with port := p } : State).dropBindings f = (s.dropBindings f).withFeedsOf { s with port := p } := by
    have port : ({ s with port := p } : State) = s.withFeedsOf { s with port := p } := rfl
    have feed : ({ s with port := p } : State).feed f = s.feed f := rfl
    rw [dropBindings, feed, port, dropOptional_withFeedsOf, dropOptional_withFeedsOf, ← port]
    rfl
  rw [other, dropBindings_frame]
  rfl

/-- CLEAR FEED before the feed is queued, the counts of its profiles left aside: the entry's cold-start values, and no
dependency entry (R20). -/
def clearEntry (s : State) (f : FeedNo) : State :=
  { s.setFeed f
      { s.feed f with
        bus := 0, binding := none, overrideBinding := none, overrideAction := .keep, lead := none
        excessPath := 0, geomDelay := none } with
    deps := s.deps.remove f }

theorem applyClearFeed_eq (s : State) (f : FeedNo) :
    s.applyClearFeed f = (s.dropBindings f).withFeedsOf ((s.clearEntry f).queueFeed f) := by
  have drop : ((s.clearEntry f).dropOptional (s.feed f).binding).dropOptional (s.feed f).overrideBinding =
      (s.dropBindings f).withFeedsOf (s.clearEntry f) := by
    have entry : s.clearEntry f = s.withFeedsOf (s.clearEntry f) := rfl
    rw [entry, dropOptional_withFeedsOf, dropOptional_withFeedsOf]
    rfl
  unfold applyClearFeed
  exact congrArg (fun t => queueFeed t f) drop

theorem feed_applyClearFeed (s : State) (f : FeedNo) : (s.applyClearFeed f).feed f =
    { label := (s.feed f).label, tier := (s.feed f).tier, sector := (s.feed f).sector, bus := 0
      binding := none, overrideBinding := none, overrideAction := .keep, lead := none, excessPath := 0
      geomDelay := none, revision := (s.feed f).revision + 1, resolution := .queued, faultReason := none } := by
  have entry : (s.applyClearFeed f).feed f = ((s.clearEntry f).queueFeed f).feed f := by rw [applyClearFeed_eq]; rfl
  have cleared : (s.clearEntry f).feed f = { s.feed f with
      bus := 0, binding := none, overrideBinding := none, overrideAction := .keep, lead := none
      excessPath := 0, geomDelay := none } := feed_setFeed _ f _
  rw [entry, feed_queueFeed, cleared]

theorem feed_applyClearFeed_other {g : FeedNo} (s : State) (f : FeedNo) (other : g ≠ f) :
    (s.applyClearFeed f).feed g = s.feed g := by
  have entry : (s.applyClearFeed f).feed g = ((s.clearEntry f).queueFeed f).feed g := by rw [applyClearFeed_eq]; rfl
  have kept : (s.clearEntry f).feed g = s.feed g := feed_setFeed_other _ _ other
  rw [entry, feed_queueFeed_other _ other, kept]

theorem applyClearFeed_deps (s : State) (f : FeedNo) : (s.applyClearFeed f).deps = s.deps.remove f := by
  rw [applyClearFeed_eq]
  rfl

theorem applyClearFeed_resolver (s : State) (f : FeedNo) : (s.applyClearFeed f).resolver = s.queuedOne f := by
  rw [applyClearFeed_eq]
  rfl

theorem applyClearFeed_frame (s : State) (f : FeedNo) : s.applyClearFeed f = { s with
    feeds := (s.applyClearFeed f).feeds, handles := (s.applyClearFeed f).handles, pool := (s.applyClearFeed f).pool
    deps := (s.applyClearFeed f).deps, notices := (s.applyClearFeed f).notices
    resolver := (s.applyClearFeed f).resolver } := by
  rw [applyClearFeed_eq, dropBindings_frame]
  rfl

/-- The move that follows a CLEAR FEED is that of the profiles alone (R62, log 20). -/
theorem afterAbandon_applyClearFeed (s : State) (r : RecordName) (f : FeedNo) :
    ∃ t, ((s.beforeEffect r).applyClearFeed f).afterAbandon =
      ((s.observed r).dropBindings f).afterAbandon.withFeedsOf t := by
  have bindings : (s.beforeEffect r).dropBindings f =
      ((s.observed r).dropBindings f).withFeedsOf { (s.observed r).dropBindings f with port := s.released.port } :=
    dropBindings_withPort _ _ f
  rw [applyClearFeed_eq, afterAbandon_withFeedsOf, bindings, afterAbandon_withFeedsOf]
  exact ⟨_, rfl⟩

theorem poolSettled_observed (settled : s.poolSettled) (r : RecordName) : (s.observed r).poolSettled := by
  rwa [poolSettled, observed, watchTest_pool]

/-- With no binding, CLEAR FEED leaves the profiles alone. -/
theorem dropBindings_of_none {f : FeedNo} (binding : (s.feed f).binding = none)
    (override : (s.feed f).overrideBinding = none) : s.dropBindings f = s := by
  rw [dropBindings, binding, override]
  rfl

end State

/-- Settles O21: the tests and the three ends of CLEAR FEED, and what a taken one resets. -/
theorem clearFeedResets : Obligations.ClearFeedResets := by
  unfold Obligations.ClearFeedResets
  refine ⟨fun s ref => ⟨fun st bad => State.testClearFeed_error bad, fun f named =>
    ⟨fun st busy => State.testClearFeed_busy named busy, fun free => State.testClearFeed_idle named free⟩⟩,
    fun s tag ref st ready formed bad => ?_, fun s tag ref f ready ok stop => ?_, fun s r ref f items ok may => ?_⟩
  · exact congrArg Host.Outcome.next (serveNow_change_error ⟨tag, some ref⟩ (accepts .feed) s State.testClearFeed
      (fun f => .feed f) (fun f s => s.applyClearFeed f) (fun _ => okBody []) ready rfl formed bad)
  · exact congrArg Host.Outcome.next (serveNow_change_stopped ⟨tag, some ref⟩ (accepts .feed) s State.testClearFeed
      (fun f => .feed f) (fun f s => s.applyClearFeed f) (fun _ => okBody []) ready rfl
      (accepts_of_refFeed (State.testClearFeed_ok ok)) ok stop)
  intro w
  have taken := serveNow_change_taken r (accepts .feed) s State.testClearFeed (fun f => .feed f)
    (fun f s => s.applyClearFeed f) (fun _ => okBody []) may.ready items
    (accepts_of_refFeed (State.testClearFeed_ok ok)) ok may.unstopped
  have ended := State.answered_taken r.tag .ok [] (State.applyClearFeed_frame (s.beforeEffect (.feed f)) f)
  have feed : w.feed f = s.feed f := congrArg (Table.get · f) (State.watchTest_feeds _ _ _)
  have dropped : (w.dropOptional (s.feed f).binding).dropOptional (s.feed f).overrideBinding = w.dropBindings f := by
    rw [State.dropBindings, feed]
  obtain ⟨t, moved⟩ := s.afterAbandon_applyClearFeed (.feed f) f
  refine ⟨_, congrArg Host.Outcome.next (taken.trans ended), ?_, fun g other => ?_, ?_, ?_, rfl, ?_, ?_, rfl⟩
  · exact (State.feed_applyClearFeed _ f).trans (by simp only [State.beforeEffect_feed])
  · exact (State.feed_applyClearFeed_other _ f other).trans (State.beforeEffect_feed g)
  · exact (State.applyClearFeed_deps _ f).trans (by rw [State.beforeEffect_deps]; rfl)
  · exact (State.applyClearFeed_resolver _ f).trans (State.beforeEffect_queuedOne f)
  · rw [dropped]
    dsimp only
    rw [moved]
    exact ⟨rfl, rfl, rfl⟩
  · intro binding override
    have unbound : w.dropBindings f = w :=
      State.dropBindings_of_none (by rw [feed, binding]) (by rw [feed, override])
    dsimp only
    rw [moved, unbound, State.afterAbandon_of_settled (State.poolSettled_observed may.settled _)]
    exact ⟨State.watchTest_handles _ _ _, State.watchTest_pool _ _ _, rfl⟩

end Sys2Proof.Machine
end

section
/-! ### SET of feeds: its records and its loop (R4, R10, R154, R156, R160) -/

namespace Sys2Proof.Machine

/-! #### The records a count and a step name -/

theorem recordNumbers_add (first m n step : Nat) :
    recordNumbers first (m + n) step = recordNumbers first m step ++ recordNumbers (first + m * step) n step := by
  simp only [recordNumbers, List.range_add, List.map_append, List.map_map]
  congr 1
  refine List.map_congr_left fun i _ => ?_
  simp only [Function.comp_apply]
  ring

theorem recordNumbers_succ (first n step : Nat) :
    recordNumbers first (n + 1) step = first :: recordNumbers (first + step) n step := by
  rw [Nat.add_comm, recordNumbers_add]
  simp [recordNumbers]

theorem mem_recordNumbers {first count step n : Nat} :
    n ∈ recordNumbers first count step ↔ ∃ j, j < count ∧ n = first + j * step := by
  simp [recordNumbers, eq_comm]

/-- The records stay within a bound exactly when the last does. -/
theorem recordNumbers_le {first count step bound : Nat} (pos : 1 ≤ count) :
    (∀ n ∈ recordNumbers first count step, n ≤ bound) ↔ first + (count - 1) * step ≤ bound := by
  simp only [mem_recordNumbers]
  constructor
  · intro all
    exact all _ ⟨count - 1, by omega, rfl⟩
  · rintro last n ⟨j, hj, rfl⟩
    have : j * step ≤ (count - 1) * step := Nat.mul_le_mul_right step (by omega)
    omega

theorem feedsOf_append (ms ns : List Nat) : feedsOf (ms ++ ns) = feedsOf ms ++ feedsOf ns := List.filterMap_append

theorem feedsOf_cons (f : FeedNo) (ns : List Nat) : feedsOf (f.val :: ns) = f :: feedsOf ns := by
  simp [feedsOf]

theorem mem_feedsOf {ns : List Nat} {g : FeedNo} : g ∈ feedsOf ns ↔ g.val ∈ ns := by
  simp only [feedsOf, List.mem_filterMap, Option.dite_none_right_eq_some, Option.some.injEq]
  constructor
  · rintro ⟨n, hn, -, rfl⟩
    exact hn
  · intro h
    exact ⟨g.val, h, g.isLt, rfl⟩

theorem length_feedsOf {ns : List Nat} (all : ∀ n ∈ ns, n ≤ 95) : (feedsOf ns).length = ns.length := by
  induction ns with
  | nil => rfl
  | cons n ns ih =>
    have low : n ≤ 95 := all n (List.mem_cons_self ..)
    have tail := ih fun m hm => all m (List.mem_cons_of_mem n hm)
    rw [show n = (⟨n, by omega⟩ : FeedNo).val from rfl, feedsOf_cons, List.length_cons, List.length_cons, tail]

/-- The feeds that a SET names: `count` of them from `f` on, `step` apart. -/
def namedFeeds (f : FeedNo) (count step : Nat) : List FeedNo := feedsOf (recordNumbers f.val count step)

theorem mem_namedFeeds {f g : FeedNo} {count step : Nat} :
    g ∈ namedFeeds f count step ↔ ∃ j, j < count ∧ g.val = f.val + j * step := by
  rw [namedFeeds, mem_feedsOf, mem_recordNumbers]

theorem length_namedFeeds {f : FeedNo} {count step : Nat} (pos : 1 ≤ count) (range : f.val + (count - 1) * step ≤ 95) :
    (namedFeeds f count step).length = count := by
  rw [namedFeeds, length_feedsOf ((recordNumbers_le pos).mpr range)]
  simp [recordNumbers]

theorem namedFeeds_first {f : FeedNo} {count step : Nat} (pos : 1 ≤ count) :
    ∃ rest, namedFeeds f count step = f :: rest := by
  obtain ⟨n, rfl⟩ : ∃ n, count = n + 1 := ⟨count - 1, by omega⟩
  rw [namedFeeds, recordNumbers_succ, feedsOf_cons]
  exact ⟨_, rfl⟩

/-- The feeds before and from the one at place `done` on. -/
theorem namedFeeds_split {f g : FeedNo} {done count step : Nat} (less : done < count)
    (place : g.val = f.val + done * step) :
    ∃ rest, namedFeeds f count step = namedFeeds f done step ++ g :: rest := by
  obtain ⟨n, rfl⟩ : ∃ n, count = done + (n + 1) := ⟨count - done - 1, by omega⟩
  rw [namedFeeds, recordNumbers_add, ← place, recordNumbers_succ, feedsOf_append, feedsOf_cons]
  exact ⟨_, rfl⟩

theorem namedFeeds_last {f last : FeedNo} {count step : Nat} (pos : 1 ≤ count)
    (place : last.val = f.val + (count - 1) * step) : (namedFeeds f count step).getLast? = some last := by
  obtain ⟨n, rfl⟩ : ∃ n, count = n + 1 := ⟨count - 1, by omega⟩
  rw [Nat.add_sub_cancel] at place
  have single : recordNumbers last.val 1 step = [last.val] := by simp [recordNumbers]
  rw [namedFeeds, recordNumbers_add, ← place, single, feedsOf_append, feedsOf_cons]
  exact List.getLast?_concat

namespace State

variable {s : State}

/-! #### The plan of a SET whose reference yields a feed -/

theorem refFeed_ok {ref : RecordRef} {f : FeedNo} (named : s.refFeed ref = .ok f) :
    ∃ gen, s.resolve ref = .ok ⟨.feed, f.val, gen⟩ := by
  simp only [refFeed, requireClass, except_bind_ok, require_ok] at named
  obtain ⟨t, resolved, -, cls, number⟩ := named
  split_ifs at number with low
  obtain ⟨cls', n, gen⟩ := t
  cases of_decide_eq_true cls
  cases number
  exact ⟨gen, resolved⟩

theorem referredTo_ok {x : Option Target} {t : Target} (ok : referredTo x = .ok t) : x = some t := by
  cases x with
  | none => cases ok
  | some y => exact congrArg some (Except.ok.inj ok)

/-- REFERRED yields no feed (R156). -/
theorem resolve_referred_cls {t : Target} (resolved : s.resolve .referred = .ok t) : t.cls ≠ .feed := by
  unfold resolve at resolved
  cases cursor : s.port.cursor with
  | feed f =>
    simp only [cursor] at resolved
    have found := referredTo_ok resolved
    simp only [Option.map_eq_some_iff] at found
    obtain ⟨h, -, rfl⟩ := found
    exact nofun
  | profile h =>
    simp only [cursor, except_bind_ok] at resolved
    obtain ⟨ix, -, resolved⟩ := resolved
    have found := referredTo_ok resolved
    simp only [Option.map_eq_some_iff] at found
    obtain ⟨h, -, rfl⟩ := found
    exact nofun
  | sensor n =>
    simp only [cursor] at resolved
    have found := referredTo_ok resolved
    simp only [Option.map_eq_some_iff] at found
    obtain ⟨k, -, rfl⟩ := found
    exact nofun
  | sector n =>
    simp only [cursor] at resolved
    cases resolved

/-- A reference that yields a feed is of the class FEED. -/
theorem refClass_of_resolve {ref : RecordRef} {t : Target} (resolved : s.resolve ref = .ok t) (cls : t.cls = .feed) :
    s.refClass ref = some .feed := by
  rw [← cls]
  cases ref with
  | numbered c number generation => exact congrArg (fun t => some t.cls) (Except.ok.inj resolved)
  | current => exact congrArg (fun t => some t.cls) (Except.ok.inj resolved)
  | next =>
    simp only [resolve] at resolved
    split_ifs at resolved
    exact congrArg (fun t => some t.cls) (Except.ok.inj resolved)
  | previous =>
    simp only [resolve] at resolved
    split_ifs at resolved
    exact congrArg (fun t => some t.cls) (Except.ok.inj resolved)
  | referred => exact absurd cls (resolve_referred_cls resolved)

/-- The plan of a SET of feeds: its count and step, then its range; no content is checked (R27, R160). -/
theorem setPlan_of_refFeed {ref : RecordRef} {f : FeedNo} (named : s.refFeed ref = .ok f) (field : Nat) (v : Int)
    (count step : Nat) : ∃ gen, s.setPlan ⟨ref, field, v, count, step⟩ =
      if count = 0 ∨ 16 < count ∨ step = 0 ∨ 16 < step then .error .badValue
      else if 95 < f.val + (count - 1) * step then .error .outOfRange
      else .ok (⟨.feed, f.val, gen⟩, recordNumbers f.val count step) := by
  obtain ⟨gen, resolved⟩ := refFeed_ok named
  refine ⟨gen, ?_⟩
  have content : s.setContentBad ⟨ref, field, v, count, step⟩ = false := by
    rw [setContentBad, refClass_of_resolve resolved rfl]
    rfl
  have small : (oneToSixteen count && oneToSixteen step) = true ↔ ¬ (count = 0 ∨ 16 < count ∨ step = 0 ∨ 16 < step) := by
    simp only [oneToSixteen, Bool.and_eq_true, decide_eq_true_iff]
    omega
  rw [setPlan, content]
  show s.setRange _ = _
  simp only [setRange, require_bind, small, resolved]
  by_cases big : count = 0 ∨ 16 < count ∨ step = 0 ∨ 16 < step
  · rw [if_pos big, if_neg (not_not_intro big)]
  rw [if_neg big, if_pos big]
  have all : (recordNumbers f.val count step).all (inClass .feed) = true ↔ ¬ 95 < f.val + (count - 1) * step := by
    rw [not_lt, ← recordNumbers_le (by omega), List.all_eq_true]
    exact forall₂_congr fun n _ => decide_eq_true_iff
  by_cases far : 95 < f.val + (count - 1) * step
  · rw [if_pos far]
    exact if_neg fun h => all.mp h far
  · rw [if_neg far]
    exact if_pos (all.mpr far)

/-! #### The loop over the records -/

variable {f : FeedNo} {field : Nat} {v : Int}

theorem setOneFeed_error {st : Status} (bad : s.testSetFeed f field v = .error st) :
    s.setOneFeed f field v = (s, .error st) := by
  rw [setOneFeed, bad, takeChange_error]

theorem setOneFeed_stopped {c : FeedChange} (ok : s.testSetFeed f field v = .ok c)
    (stop : s.stops .portChange (.feed f) = true) :
    s.setOneFeed f field v = (s.observed (.feed f), .error .watched) := by
  rw [setOneFeed, ok]
  exact takeChange_stopped s _ _ c stop

theorem setOneFeed_taken {c : FeedChange} (ok : s.testSetFeed f field v = .ok c)
    (unstopped : s.stops .portChange (.feed f) = false) :
    s.setOneFeed f field v = (((s.observed (.feed f)).applyFeedChange f c).afterAbandon.endWait, .ok c) := by
  rw [setOneFeed, ok]
  exact takeChange_taken s _ _ c unstopped

theorem setFeedsLoop_error {st : Status} {t : State} (refused : s.setOneFeed f field v = (t, .error st))
    (rest : List FeedNo) (done : Nat) :
    setFeedsLoop field v (f :: rest) done s = (t, ⟨st, byte1 done ++ (RecordName.feed f).bytes⟩) := by
  rw [setFeedsLoop, refused]
  rfl

theorem setFeedsLoop_ok {c : FeedChange} {t : State} (taken : s.setOneFeed f field v = (t, .ok c))
    (rest : List FeedNo) (done : Nat) :
    setFeedsLoop field v (f :: rest) done s = setFeedsLoop field v rest (done + 1) (t.setCursor (.feed f)) := by
  rw [setFeedsLoop, taken]

/-- A loop whose answer names no refused record has taken them all, and goes on with the records after them. -/
theorem setFeedsLoop_append (fs gs : List FeedNo) (done : Nat) (s : State)
    (whole : (setFeedsLoop field v fs done s).2.body.length = 1) : setFeedsLoop field v (fs ++ gs) done s =
      setFeedsLoop field v gs (done + fs.length) (setFeedsLoop field v fs done s).1 := by
  induction fs generalizing done s with
  | nil => rfl
  | cons f fs ih =>
    cases one : s.setOneFeed f field v with
    | mk t r =>
      cases r with
      | error st =>
        rw [setFeedsLoop_error one] at whole
        simp [byte1, RecordName.bytes] at whole
      | ok c =>
        rw [setFeedsLoop_ok one] at whole ⊢
        rw [List.cons_append, setFeedsLoop_ok one, ih _ _ whole, List.length_cons, Nat.add_assoc, Nat.add_comm 1]

end State

/-! #### The request -/

section

variable {s : State} {ref : RecordRef} {f : FeedNo}

theorem exec_set (r : Request SetItems) {i : SetItems} (ready : s.ready) (items : r.items = some i)
    (named : s.refFeed i.ref = .ok f) : exec (.set r) s =
      .next ((s.released.requestSet i).1.setInProgress r.tag (s.released.requestSet i).2) := by
  have formed : (accepts .feed i.ref || accepts .profile i.ref) = true := by rw [accepts_of_refFeed named]; rfl
  exact congrArg Host.Outcome.next (serve_ready r (fun i => accepts .feed i.ref || accepts .profile i.ref)
    (fun i s => s.requestSet i) s ready items formed)

theorem exec_set_refused {st : Status} (r : Request SetItems) {i : SetItems} (ready : s.ready)
    (items : r.items = some i) (named : s.refFeed i.ref = .ok f) (bad : s.setPlan i = .error st) :
    exec (.set r) s = .next (s.released.answered r.tag st []) := by
  have run : s.released.requestSet i = (s.released, .answered (refusal st)) := by
    rw [State.requestSet, State.setPlan_released, bad]
  rw [exec_set r ready items named, run]
  rfl

/-- A SET within the ranges of R160 goes through the feeds it names, one at a time. -/
theorem exec_set_feeds (r : Request SetItems) {field : Nat} {v : Int} {count step : Nat} (ready : s.ready)
    (items : r.items = some ⟨ref, field, v, count, step⟩) (named : s.refFeed ref = .ok f)
    (small : 1 ≤ count ∧ count ≤ 16 ∧ 1 ≤ step ∧ step ≤ 16) (range : f.val + (count - 1) * step ≤ 95) :
    exec (.set r) s = .next ((setFeedsLoop field v (namedFeeds f count step) 0 s.released).1.setInProgress r.tag
      (.answered (setFeedsLoop field v (namedFeeds f count step) 0 s.released).2)) := by
  obtain ⟨gen, plan⟩ := s.setPlan_of_refFeed named field v count step
  rw [if_neg (by omega), if_neg (by omega)] at plan
  have run : s.released.requestSet ⟨ref, field, v, count, step⟩ =
      ((setFeedsLoop field v (namedFeeds f count step) 0 s.released).1,
        .answered (setFeedsLoop field v (namedFeeds f count step) 0 s.released).2) := by
    rw [State.requestSet, State.setPlan_released, plan]
    rfl
  rw [exec_set r ready items named, run]

end

end Sys2Proof.Machine
end

section
/-! ### SET of feeds: the effect of each field, and the ends of the request (R4, R5, R6, R17, R18, R160) -/

namespace Sys2Proof.Machine

/-- A feed's entry after a SET of one field; bus, sector and path queue the feed. -/
def FeedEntry.afterSet (e : FeedEntry) : FeedChange → FeedEntry
  | .label x => { e with label := x }
  | .tier x => { e with tier := x }
  | .sector x => { e.queued with sector := x }
  | .bus x => { e.queued with bus := x }
  | .path x => { e.queued with excessPath := x }
  | .action x => { e with overrideAction := x }

namespace State

variable {s : State} {f g : FeedNo}

/-! #### The effect of one record -/

theorem feed_applyFeedChange (s : State) (f : FeedNo) (c : FeedChange) :
    (s.applyFeedChange f c).feed f = (s.feed f).afterSet c := by
  have queued : ∀ e, ((s.setFeed f e).queueFeed f).feed f = e.queued := fun e => by
    rw [feed_queueFeed, feed_setFeed]
    rfl
  cases c with
  | label x => exact feed_setFeed ..
  | tier x => exact feed_setFeed ..
  | sector x => exact queued _
  | bus x => exact queued _
  | path x => exact queued _
  | action x => exact feed_setFeed ..

theorem feed_applyFeedChange_other (s : State) (c : FeedChange) (other : g ≠ f) :
    (s.applyFeedChange f c).feed g = s.feed g := by
  have queued : ∀ e, ((s.setFeed f e).queueFeed f).feed g = s.feed g := fun e => by
    rw [feed_queueFeed_other _ other, feed_setFeed_other _ _ other]
  cases c with
  | label x => exact feed_setFeed_other _ _ other
  | tier x => exact feed_setFeed_other _ _ other
  | sector x => exact queued _
  | bus x => exact queued _
  | path x => exact queued _
  | action x => exact feed_setFeed_other _ _ other

theorem applyFeedChange_resolver (s : State) (f : FeedNo) (c : FeedChange) : (s.applyFeedChange f c).resolver =
    match c with
    | .label _ | .tier _ | .action _ => s.resolver
    | .sector _ | .bus _ | .path _ => s.queuedOne f := by
  cases c <;> rfl

theorem applyFeedChange_frame (s : State) (f : FeedNo) (c : FeedChange) : s.applyFeedChange f c =
    { s with feeds := (s.applyFeedChange f c).feeds, resolver := (s.applyFeedChange f c).resolver } := by
  cases c <;> rfl

/-! #### One record taken -/

theorem observed_of_unwatched {r : RecordName} (unwatched : s.unwatched .portChange r) : s.observed r = s := by
  rw [observed, watchTest_of_unwatched unwatched]

end State

variable {s : State}

theorem setFeed_one_taken {r : Request SetItems} {ref : RecordRef} {f : FeedNo} {field : Nat} {v : Int} {c : FeedChange}
    (items : r.items = some ⟨ref, field, v, 1, 1⟩) (named : s.refFeed ref = .ok f) (may : s.mayChange (.feed f))
    (ok : s.testSetFeed f field v = .ok c) :
    let t := (s.beforeEffect (.feed f)).applyFeedChange f c
    exec (.set r) s = .next { s.observed (.feed f) with
      feeds := t.feeds, resolver := t.resolver, port := s.portAnsweredAt (.feed f) r.tag .ok (byte1 1)
      image := s.endWait.image } := by
  intro t
  have single : namedFeeds f 1 1 = [f] := by simp [namedFeeds, recordNumbers, feedsOf]
  have one : s.released.setOneFeed f field v = (t.afterAbandon.endWait, .ok c) := by
    rw [State.setOneFeed_taken (s := s.released) ok may.unstopped, State.observed_released]
    rfl
  have loop : setFeedsLoop field v (namedFeeds f 1 1) 0 s.released =
      (t.afterAbandon.endWait.setCursor (.feed f), okBody (byte1 1)) := by
    rw [single, State.setFeedsLoop_ok one]
    rfl
  have frame : t = _ := State.applyFeedChange_frame _ f c
  have deps : t.deps = (s.observed (.feed f)).deps := (congrArg State.deps frame :)
  have notices : t.notices = (s.observed (.feed f)).notices := (congrArg State.notices frame :)
  have ended := State.answered_taken_of_settled (v := t) (r := .feed f) r.tag .ok (byte1 1) may.settled
    (by rw [deps, notices]; exact frame)
  rw [deps, notices] at ended
  rw [exec_set_feeds r may.ready items named (by omega) (by have := f.isLt; omega), loop]
  exact congrArg (fun u : State => Host.Outcome.next { u with port := { u.port with cursor := .feed f } }) ended

/-! #### A later record refused or stopped -/

/-- The watch test reads and writes no field of the port. -/
theorem State.observed_answered (s : State) (tag : Byte) (st : Status) (body : List Byte) (r : RecordName) :
    ((s.answered tag st body).watchTest .portChange r).1 = (s.observed r).answered tag st body := by
  have port : (s.observed r).port = s.port := watchTest_port _ _ _
  have watched := congrArg Prod.fst (s.watchTest_withPort (s.answered tag st body).port .portChange r)
  exact watched.trans (congrArg
    (fun p : Port => { s.observed r with port := { p with inProgress := some ⟨tag, .answered ⟨st, body⟩⟩ } }) port.symm)

/-- A SET of the first `done` records, taken whole, tells how the longer SET goes on. -/
theorem setFeedsLoop_later {u : State} {r : Request SetItems} {ref : RecordRef} {f g : FeedNo} {field : Nat} {v : Int}
    {done count step : Nat} (ready : s.ready) (items : r.items = some ⟨ref, field, v, done, step⟩)
    (named : s.refFeed ref = .ok f) (small : 1 ≤ done ∧ done < count ∧ count ≤ 16 ∧ 1 ≤ step ∧ step ≤ 16)
    (range : f.val + (count - 1) * step ≤ 95) (place : g.val = f.val + done * step)
    (before : exec (.set r) s = .next u) (whole : u.port.inProgress = some ⟨r.tag, .answered ⟨.ok, byte1 done⟩⟩) :
    ∃ t rest, u = t.answered r.tag .ok (byte1 done) ∧
      setFeedsLoop field v (namedFeeds f count step) 0 s.released = setFeedsLoop field v (g :: rest) done t := by
  obtain ⟨pos, less, most, step1, step16⟩ := small
  have shorter : f.val + (done - 1) * step ≤ 95 := by
    have : (done - 1) * step ≤ (count - 1) * step := Nat.mul_le_mul_right step (by omega)
    omega
  obtain ⟨rest, split⟩ := namedFeeds_split less place
  rw [exec_set_feeds r ready items named ⟨pos, by omega, step1, step16⟩ shorter] at before
  cases loop : setFeedsLoop field v (namedFeeds f done step) 0 s.released with
  | mk t a =>
    rw [loop] at before
    have after : t.setInProgress r.tag (.answered a) = u := Host.Outcome.next.inj before
    subst after
    cases Option.some.inj whole
    refine ⟨t, rest, rfl, ?_⟩
    rw [split, State.setFeedsLoop_append _ _ _ _ (by rw [loop]; rfl), loop, Nat.zero_add,
      length_namedFeeds pos shorter]

/-! #### Labels reach every record (R160) -/

/-- What a change of an unwatched record asks of the block. -/
structure State.Quiet (s : State) : Prop where
  free : s.longOperation = none
  settled : s.poolSettled
  unwatched : ∀ g : FeedNo, s.unwatched .portChange (.feed g)

/-- The feeds `fs`, one after another, have taken the label `x`. -/
structure LabelsSet (x : BitVec 16) (fs : List FeedNo) (s t : State) : Prop where
  named : ∀ g ∈ fs, t.feed g = { s.feed g with label := x }
  others : ∀ g, g ∉ fs → t.feed g = s.feed g
  cursor : t.port.cursor = (fs.getLast?.map RecordName.feed).getD s.port.cursor
  image : t.image = if fs = [] then s.image else s.endWait.image
  frame : t = { s with feeds := t.feeds, port := { s.port with cursor := t.port.cursor }, image := t.image }

namespace State

theorem longOperation_endWait (s : State) : s.endWait.longOperation = s.longOperation := by
  unfold endWait
  split
  · next w => simp [longOperation, w]
  all_goals rfl

theorem endWait_endWait (s : State) : s.endWait.endWait = s.endWait := by
  unfold endWait
  cases image : s.image <;> simp [image]

/-- The block after one label (R5, R160, R171). -/
def labelled (s : State) (f : FeedNo) (x : BitVec 16) : State :=
  { s.setFeed f { s.feed f with label := x } with port := { s.port with cursor := .feed f }, image := s.endWait.image }

theorem labelled_eq (s : State) (f : FeedNo) (x : BitVec 16) :
    (s.setFeed f { s.feed f with label := x }).endWait.setCursor (.feed f) = s.labelled f x := by
  have image : (s.setFeed f { s.feed f with label := x }).endWait.image = s.endWait.image := endWait_image_congr rfl
  rw [endWait_frame, image]
  rfl

theorem feed_labelled (s : State) (f g : FeedNo) (x : BitVec 16) :
    (s.labelled f x).feed g = if g = f then { s.feed f with label := x } else s.feed g := feed_setFeed_eq ..

theorem endWait_image_labelled (s : State) (f : FeedNo) (x : BitVec 16) :
    (s.labelled f x).endWait.image = s.endWait.image :=
  (endWait_image_congr (t := s.labelled f x) (s := s.endWait) rfl).trans (congrArg image s.endWait_endWait)

theorem Quiet.labelled (quiet : s.Quiet) (f : FeedNo) (x : BitVec 16) : (s.labelled f x).Quiet where
  free := s.longOperation_endWait.trans quiet.free
  settled := quiet.settled
  unwatched := quiet.unwatched

theorem setOneFeed_label (quiet : s.Quiet) (f : FeedNo) {v : Int} (low : 0 ≤ v) (high : v ≤ 65535) :
    s.setOneFeed f 0 v =
      ((s.setFeed f { s.feed f with label := BitVec.ofInt 16 v }).endWait, .ok (.label (BitVec.ofInt 16 v))) := by
  have ok : s.testSetFeed f 0 v = .ok (.label (BitVec.ofInt 16 v)) :=
    s.testSetFeed_idle f (feedChange_label low high) rfl quiet.free
  rw [setOneFeed_taken ok (stops_of_unwatched (quiet.unwatched f)), observed_of_unwatched (quiet.unwatched f)]
  exact congrArg (fun t : State => (t.endWait, _)) (afterAbandon_of_settled quiet.settled)

end State

theorem LabelsSet.cons {x : BitVec 16} {f : FeedNo} {fs : List FeedNo} {s t : State}
    (rest : LabelsSet x fs (s.labelled f x) t) : LabelsSet x (f :: fs) s t where
  named g hg := by
    by_cases again : g ∈ fs
    · rw [rest.named g again, State.feed_labelled]
      split
      · next e => rw [e]
      · rfl
    · obtain rfl : g = f := by simpa [again] using hg
      rw [rest.others g again, State.feed_labelled, if_pos rfl]
  others g hg := by
    obtain ⟨other, tail⟩ := not_or.mp (mt List.mem_cons.mpr hg)
    rw [rest.others g tail, State.feed_labelled, if_neg other]
  cursor := by
    rw [rest.cursor, List.getLast?_cons]
    cases fs.getLast? <;> rfl
  image := by
    rw [rest.image, State.endWait_image_labelled, if_neg (List.cons_ne_nil f fs)]
    exact ite_id _
  frame := rest.frame

theorem setFeedsLoop_labels {v : Int} (low : 0 ≤ v) (high : v ≤ 65535) (fs : List FeedNo) (done : Nat)
    (quiet : s.Quiet) : ∃ t, setFeedsLoop 0 v fs done s = (t, okBody (byte1 (done + fs.length))) ∧
      LabelsSet (BitVec.ofInt 16 v) fs s t := by
  induction fs generalizing s done with
  | nil => exact ⟨s, rfl, nofun, fun _ _ => rfl, rfl, rfl, rfl⟩
  | cons f fs ih =>
    obtain ⟨t, loop, set⟩ := ih (done + 1) (quiet.labelled f (BitVec.ofInt 16 v))
    refine ⟨t, ?_, set.cons⟩
    rw [State.setFeedsLoop_ok (State.setOneFeed_label quiet f low high), State.labelled_eq, List.length_cons,
      ← Nat.add_assoc, Nat.add_right_comm]
    exact loop

/-- A SET of labels over a quiet block, once its records are known (R160). -/
theorem setLabels {tag : Byte} {ref : RecordRef} {f : FeedNo} {v : Int} {count step : Nat} (ready : s.ready)
    (named : s.refFeed ref = .ok f) (small : 1 ≤ count ∧ count ≤ 16 ∧ 1 ≤ step ∧ step ≤ 16)
    (range : f.val + (count - 1) * step ≤ 95) (low : 0 ≤ v) (high : v ≤ 65535) (quiet : s.Quiet) :
    ∃ t, exec (.set ⟨tag, some ⟨ref, 0, v, count, step⟩⟩) s = .next (t.answered tag .ok (byte1 count)) ∧
      LabelsSet (BitVec.ofInt 16 v) (namedFeeds f count step) s.released t := by
  have released : s.released.Quiet := ⟨quiet.free, quiet.settled, quiet.unwatched⟩
  obtain ⟨t, loop, set⟩ := setFeedsLoop_labels low high (namedFeeds f count step) 0 released
  refine ⟨t, ?_, set⟩
  rw [exec_set_feeds _ ready rfl named small range, loop, length_namedFeeds small.1 range, Nat.zero_add]
  rfl

/-- Settles O17: SET of one feed field, its ends at the first record and at a later one, and labels over a range. -/
theorem setFeedField : Obligations.SetFeedField := by
  unfold Obligations.SetFeedField
  refine ⟨fun s r ref f field v items named may c ok => ?_,
    fun s u tag ref f g field v done count step ready named pos less most step1 step16 range place before whole => ?_,
    fun s tag ref f field v count step ready named => ?_,
    fun s tag ref f field v count step ready named pos most step1 step16 range => ?_⟩
  · refine ⟨_, setFeed_one_taken items named may ok, ?_, fun g other => ?_, ?_, rfl, rfl⟩
    · refine (State.feed_applyFeedChange _ f c).trans ?_
      rw [State.beforeEffect_feed]
      cases c <;> rfl
    · exact (State.feed_applyFeedChange_other _ c other).trans (State.beforeEffect_feed g)
    · refine (State.applyFeedChange_resolver _ f c).trans ?_
      cases c <;> simp only [State.beforeEffect_resolver, State.beforeEffect_queuedOne]
  · intro ended
    obtain ⟨t, rest, rfl, loop⟩ :=
      setFeedsLoop_later ready rfl named ⟨pos, less, most, step1, step16⟩ range place before whole
    have run := exec_set_feeds ⟨tag, some ⟨ref, field, v, count, step⟩⟩ ready rfl named
      ⟨by omega, most, step1, step16⟩ range
    rw [loop] at run
    refine ⟨fun st bad => ?_, fun c ok stop => ?_⟩
    · rw [State.setFeedsLoop_error (State.setOneFeed_error (s := t) bad)] at run
      exact run
    · rw [State.setFeedsLoop_error (State.setOneFeed_stopped (s := t) ok stop)] at run
      rw [run, State.observed_answered]
      rfl
  · obtain ⟨gen, plan⟩ := s.setPlan_of_refFeed named field v count step
    refine ⟨fun bad => ?_, fun pos most step1 step16 far => ?_⟩
    · exact exec_set_refused _ ready rfl named (plan.trans (if_pos bad))
    · exact exec_set_refused _ ready rfl named (plan.trans ((if_neg (by omega)).trans (if_pos far)))
  · have small : 1 ≤ count ∧ count ≤ 16 ∧ 1 ≤ step ∧ step ≤ 16 := ⟨pos, most, step1, step16⟩
    have run := exec_set_feeds ⟨tag, some ⟨ref, field, v, count, step⟩⟩ ready rfl named small range
    obtain ⟨rest, first⟩ := namedFeeds_first (f := f) (step := step) pos
    refine ⟨fun st bad => ?_, fun c ok stop => ?_, ?_⟩
    · rw [first, State.setFeedsLoop_error (State.setOneFeed_error (s := s.released) bad)] at run
      exact run
    · rw [first, State.setFeedsLoop_error (State.setOneFeed_stopped (s := s.released) ok stop)] at run
      exact run
    · rintro rfl low high free settled unwatched names
      obtain ⟨t, labels, set⟩ := setLabels ready named small range low high ⟨free, settled, unwatched⟩
      refine ⟨_, labels, fun g hg => ?_, fun g hg => ?_, fun last place => ?_⟩
      · exact set.named g (mem_namedFeeds.mpr hg)
      · exact set.others g (mt mem_namedFeeds.mp hg)
      · have frame := set.frame
        rw [set.cursor, set.image, namedFeeds_last pos place, if_neg (first ▸ List.cons_ne_nil f rest),
          State.endWait_image_congr (t := s.released) (s := s) rfl] at frame
        exact congrArg (State.answered · tag .ok (byte1 count)) frame

end Sys2Proof.Machine
end

section
/-! ### Cold start of the other blocks (R31, R51, R56, R67, R73, R75, R83, R100, R107, R117, R129, R133, R143, R163) -/

namespace Sys2Proof.Machine

theorem policyFor_default {s : State} (policy : s.policy = defaultPolicy) (a b : Tier) :
    s.policyFor a b = match a, b with
      | .safety, .programme => .notify
      | .safety, .ambient => .refuse
      | .safety, .test => .refuse
      | .programme, .test => .notify
      | .ambient, .test => .notify
      | _, _ => .allow := by
  rw [State.policyFor, policy]
  cases a <;> cases b <;> rfl

theorem hasKind_fullMask (k : NoticeKind) : hasKind fullMask k = true := by
  cases k <;> rfl

theorem flagged_reset (k : NoticeKind) : Notices.reset.flagged k = false := by
  cases k <;> rfl

/-- Settles O3: COLD_START builds every table from `State.reset`, whose records are all of one kind. -/
theorem coldStartRest : Obligations.ColdStartRest := by
  unfold Obligations.ColdStartRest
  intro s
  refine ⟨_, rfl, rfl, rfl, fun h => Table.get_fill _ h, rfl, policyFor_default rfl, rfl, fun f => Table.get_fill _ f,
    fun n => Table.get_fill _ n, rfl, fun k => ?_, fun n => ?_, fun f => Table.get_fill _ f, fun n => Table.get_fill _ n,
    rfl, fun i => Table.get_fill _ i, rfl, flagged_reset, hasKind_fullMask, rfl, rfl⟩
  · have channel : State.reset.channel k = Channel.reset k := Table.get_tab Channel.reset k
    exact channel ▸ ⟨rfl, rfl, rfl, rfl, rfl, rfl, rfl⟩
  · have sector : State.reset.sector n = Sector.reset := Table.get_fill _ n
    exact sector ▸ ⟨rfl, rfl, rfl, rfl, rfl, rfl, rfl, rfl, rfl⟩

end Sys2Proof.Machine
end

section
/-! ### The tests that name a feed or a profile (R10, R32, R35, R153, R156) -/

namespace Sys2Proof.Machine

/-! #### Lists of tests -/

theorem except_ok_bind {ε α β : Type} (a : α) (f : α → Except ε β) : ((.ok a : Except ε α) >>= f) = f a := rfl

theorem except_error_bind {ε α β : Type} (e : ε) (f : α → Except ε β) : ((.error e : Except ε α) >>= f) = .error e := rfl

theorem require_ne_retiring (st : HandleState) (e : Status) :
    require (st ≠ .retiring) e = if st = .retiring then .error e else .ok () := by
  cases st <;> rfl

/-! #### Handle numbers (R31) -/

theorem handleIx_none_iff {n : Nat} : handleIx n = none ↔ n = 0 ∨ 255 < n := by
  rw [handleIx, dite_eq_right_iff]
  simp only [reduceCtorEq, imp_false]
  omega

theorem handleIx_some_iff {n : Nat} {h : HandleIx} : handleIx n = some h ↔ n = handleNumber h := by
  unfold handleIx handleNumber
  constructor
  · intro some
    split_ifs at some with range
    cases some
    dsimp only
    omega
  · rintro rfl
    simp

@[simp] theorem handleIx_handleNumber (h : HandleIx) : handleIx (handleNumber h) = some h := handleIx_some_iff.mpr rfl

namespace State

variable {s : State} {ref : RecordRef}

theorem requireNoLongOperation_bind {α : Type} (s : State) (rest : Unit → Except Status α) :
    (s.requireNoLongOperation >>= rest) = match s.longOperation with
      | some st => .error st
      | none => rest () := by
  unfold requireNoLongOperation
  cases s.longOperation <;> rfl

theorem requireUnlocked_bind {α : Type} (s : State) (rest : Unit → Except Status α) :
    (s.requireUnlocked >>= rest) = if s.locked = true then .error .locked else rest () := by
  unfold requireUnlocked
  cases s.locked <;> rfl

/-! #### Names (R32, R156) -/

theorem nameHandle_eq (s : State) (h : HandleIx) (gen : Nat) : s.nameHandle (handleNumber h) gen =
    if (s.handle h).state = .free then .error .free
    else if (s.handle h).gen.val ≠ gen then .error .stale
    else .ok h := by
  simp only [nameHandle, handleIx_handleNumber, ne_eq, ite_not]

theorem nameHandle_outside {n : Nat} (gen : Nat) (outside : n = 0 ∨ 255 < n) :
    s.nameHandle n gen = .error .outOfRange := by
  rw [nameHandle, handleIx_none_iff.mpr outside]

theorem refFeed_error {st : Status} (bad : s.resolve ref = .error st) : s.refFeed ref = .error st := by
  rw [refFeed, bad, except_error_bind]

theorem refProfile_error {st : Status} (bad : s.resolve ref = .error st) : s.refProfile ref = .error st := by
  rw [refProfile, bad, except_error_bind]

/-- A reference in the place of a feed (R156). -/
theorem refFeed_of_resolve {t : Target} (resolved : s.resolve ref = .ok t) : s.refFeed ref =
    if t.cls = .feed then if low : t.number < 96 then .ok ⟨t.number, low⟩ else .error .outOfRange
    else .error .noReference := by
  rw [refFeed, resolved, except_ok_bind, requireClass, require_bind]
  simp only [decide_eq_true_iff]
  rfl

/-- A reference in the place of a profile (R32, R156). -/
theorem refProfile_of_resolve {t : Target} (resolved : s.resolve ref = .ok t) : s.refProfile ref =
    if t.cls = .profile then s.nameHandle t.number t.gen else .error .noReference := by
  rw [refProfile, resolved, except_ok_bind, requireClass, require_bind]
  simp only [decide_eq_true_iff]

/-- Every end of a profile's name (R32, R156). -/
theorem refProfile_named {t : Target} (resolved : s.resolve ref = .ok t) (cls : t.cls = .profile) (h : HandleIx)
    (number : t.number = h.val + 1) : s.refProfile ref =
      if (s.handle h).state = .free then .error .free
      else if (s.handle h).gen.val ≠ t.gen then .error .stale
      else .ok h := by
  rw [refProfile_of_resolve resolved, if_pos cls, number]
  exact s.nameHandle_eq h t.gen

/-! #### BIND and BIND-OVERRIDE (R43, R45) -/

/-- The checks that a profile named by a BIND meets (R43). -/
def bindChecks (s : State) (f : FeedNo) (h : HandleIx) : Except Status BindPlan :=
  if (s.handle h).state = .retiring then .error .retiring
  else if s.policyToProfile (s.feed f).tier h = .refuse then .error .policyRefused
  else .ok ⟨f, h⟩

theorem testBindTo_error (f : FeedNo) {st : Status} (bad : s.refProfile ref = .error st) :
    s.testBindTo f ref = .error st := by
  rw [testBindTo, bad, except_error_bind]

theorem testBindTo_named (f : FeedNo) {h : HandleIx} (named : s.refProfile ref = .ok h) :
    s.testBindTo f ref = s.bindChecks f h := by
  rw [testBindTo, named, except_ok_bind, require_ne_retiring, require_ne, bindChecks]
  split_ifs <;> rfl

variable {i : BindItems} {f : FeedNo}

/-- BIND tests the feed, then a long operation, then what it would bind. -/
theorem testBind_eq (named : s.refFeed i.feed = .ok f) : s.testBind i = match s.longOperation with
    | some st => .error st
    | none => s.testBindTo f i.profile := by
  rw [testBind, named, except_ok_bind, requireNoLongOperation_bind]

/-- BIND-OVERRIDE tests the override lock in between. -/
theorem testBindOverride_eq (named : s.refFeed i.feed = .ok f) : s.testBindOverride i = match s.longOperation with
    | some st => .error st
    | none => if s.locked = true then .error .locked else s.testBindTo f i.profile := by
  rw [testBindOverride, named, except_ok_bind, requireNoLongOperation_bind]
  simp only [requireUnlocked_bind]

theorem testBind_error {st : Status} (bad : s.refFeed i.feed = .error st) :
    s.testBind i = .error st ∧ s.testBindOverride i = .error st := by
  rw [testBind, testBindOverride, bad, except_error_bind, except_error_bind]
  exact ⟨rfl, rfl⟩

end State

/-! #### A BIND that ends at a test, or at a watch -/

section

variable {s : State} {r : Request BindItems} {i : BindItems}

theorem exec_bind_error {st : Status} (ready : s.ready) (items : r.items = some i) (formed : bindFormed i = true)
    (bad : s.testBind i = .error st) : exec (.bind r) s = .next (s.released.answered r.tag st []) :=
  congrArg Host.Outcome.next (serveNow_change_error r bindFormed s State.testBind (fun p => .feed p.feed)
    (fun p s => s.applyBind p) (fun _ => okBody []) ready items formed bad)

theorem exec_bindOverride_error {st : Status} (ready : s.ready) (items : r.items = some i)
    (formed : bindFormed i = true) (bad : s.testBindOverride i = .error st) :
    exec (.bindOverride r) s = .next (s.released.answered r.tag st []) :=
  congrArg Host.Outcome.next (serveNow_change_error r bindFormed s State.testBindOverride (fun p => .feed p.feed)
    (fun p s => s.applyBindOverride p) (fun _ => okBody []) ready items formed bad)

end

/-- Settles O23: what a reference yields in each place, the tests in their order, and the reply of the one that
fails. -/
theorem bindTests : Obligations.BindTests := by
  unfold Obligations.BindTests
  refine ⟨fun s ref => ⟨fun st bad => ⟨State.refFeed_error bad, State.refProfile_error bad⟩, fun t resolved =>
      ⟨fun other => ?_, fun cls far => ?_, fun cls f number => ?_, fun other => ?_, fun cls outside => ?_,
        fun h cls number => State.refProfile_named resolved cls h number⟩⟩,
    fun s i => ⟨fun st bad => State.testBind_error bad, fun f named => ⟨fun st busy => ?_, fun free => ?_⟩⟩,
    fun s tag i st ready feed profile => ?_⟩
  · rw [State.refFeed_of_resolve resolved, if_neg other]
  · rw [State.refFeed_of_resolve resolved, if_pos cls, dif_neg (by omega)]
  · have low : t.number < 96 := number ▸ f.isLt
    rw [State.refFeed_of_resolve resolved, if_pos cls, dif_pos low]
    exact congrArg Except.ok (Fin.ext number)
  · rw [State.refProfile_of_resolve resolved, if_neg other]
  · rw [State.refProfile_of_resolve resolved, if_pos cls, State.nameHandle_outside _ outside]
  · rw [State.testBind_eq named, State.testBindOverride_eq named, busy]
    exact ⟨rfl, rfl⟩
  · have bind := State.testBind_eq named
    have override := State.testBindOverride_eq named
    rw [free] at bind override
    refine ⟨fun locked => ?_, fun st bad => ?_, fun h profile => ?_⟩
    · rw [override]
      exact if_pos locked
    · rw [bind, override, State.testBindTo_error f bad]
      exact ⟨rfl, fun unlocked => if_neg (by simp [unlocked])⟩
    · rw [bind, override, State.testBindTo_named f profile]
      exact ⟨rfl, fun unlocked => if_neg (by simp [unlocked])⟩
  · have formed : bindFormed i = true := by rw [bindFormed, feed, profile]; rfl
    exact ⟨exec_bind_error ready rfl formed, exec_bindOverride_error ready rfl formed⟩

end Sys2Proof.Machine
end

section
/-! ### Bindings written and removed (R6, R33, R34, R43 to R46, R62, R84) -/

namespace Sys2Proof.Machine

namespace State

variable {s : State} {r : RecordName}

theorem poolSettled_congr {t : State} (pool : t.pool = s.pool) (settled : s.poolSettled) : t.poolSettled := by
  rwa [poolSettled, pool]

/-! #### A reference dropped or replaced -/

/-- A handle that is LIVE or still referred to survives the loss of one reference. -/
def Stays (s : State) (old : Option Handle) : Prop :=
  ∀ h, old = some h → (s.handle h.ix).state = .live ∨ 2 ≤ (s.handle h.ix).refCount

/-- The Handle Table with one reference less to a handle, where one is given (R33). -/
def lowered (s : State) (old : Option Handle) : Table HandleEntry 255 :=
  match old with
  | none => s.handles
  | some h => s.handles.upd h.ix { s.handle h.ix with refCount := (s.handle h.ix).refCount - 1 }

theorem dropOptional_of_stays {old : Option Handle} (stays : s.Stays old) :
    s.dropOptional old = { s with handles := s.lowered old } := by
  cases old with
  | none => rfl
  | some h =>
    refine s.dropReference_of_stays ((stays h rfl).imp (fun live => ?_) id)
    simp [live]

/-- The block with the handles `table`, then a reference `old` removed, then the notices `n`. -/
def droppedFrom (w : State) (table : Table HandleEntry 255) (old : Option Handle) (n : Notices) : State :=
  { ({ w with handles := table } : State).dropOptional old with notices := n }

theorem droppedFrom_withFeedsOf (s t : State) (table : Table HandleEntry 255) (old : Option Handle) (n : Notices) :
    (s.withFeedsOf t).droppedFrom table old n = (s.droppedFrom table old n).withFeedsOf t := by
  have drop : ({ s.withFeedsOf t with handles := table } : State).dropOptional old =
      (({ s with handles := table } : State).dropOptional old).withFeedsOf t :=
    dropOptional_withFeedsOf { s with handles := table } t old
  rw [droppedFrom, drop]
  rfl

theorem droppedFrom_frame (s : State) (table : Table HandleEntry 255) (old : Option Handle) (n : Notices) :
    s.droppedFrom table old n = { s with
      handles := (s.droppedFrom table old n).handles, pool := (s.droppedFrom table old n).pool, notices := n } := by
  unfold droppedFrom
  rw [dropOptional_frame]

/-- Where the handle stays that loses a reference, only its count falls. -/
theorem droppedFrom_of_stays {w : State} {table : Table HandleEntry 255} {old : Option Handle} (n : Notices)
    (stays : ({ w with handles := table } : State).Stays old) : w.droppedFrom table old n =
      { w with handles := ({ w with handles := table } : State).lowered old, notices := n } := by
  rw [droppedFrom, dropOptional_of_stays stays]

theorem stays_none (s : State) : s.Stays none := nofun

/-- The Handle Table with one reference more to a handle (R33). -/
def counted (s : State) (new : HandleIx) : Table HandleEntry 255 :=
  s.handles.upd new { s.handle new with refCount := (s.handle new).refCount + 1 }

theorem replaceReference_eq (s : State) (old : Option Handle) (new : HandleIx) (n : Notices) :
    { s.replaceReference old new with notices := n } = s.droppedFrom (s.counted new) old n := rfl

theorem dropOptional_eq (s : State) (old : Option Handle) :
    s.dropOptional old = s.droppedFrom s.handles old s.notices := by
  have notices : (s.dropOptional old).notices = s.notices := dropOptional_notices ..
  calc
    s.dropOptional old = { s.dropOptional old with notices := s.notices } := by rw [← notices]
    _ = s.droppedFrom s.handles old s.notices := rfl

/-- The notices once a policy outcome has been reported (R69). -/
def noted (s : State) (o : PolicyOutcome) (d : PolicyDetail) : Notices :=
  if o = .notify then s.notices.raise (.policy d) else s.notices

/-! #### One feed's entry written, the feed queued, and the profiles changed beside it -/

/-- The block with the profiles, pool and notices of `c`, entry `e` written for feed `f`, and `f` queued (R84). -/
def rewritten (s c : State) (f : FeedNo) (e : FeedEntry) : State := c.withFeedsOf ((s.setFeed f e).queueFeed f)

theorem feed_rewritten (s c : State) (f : FeedNo) (e : FeedEntry) : (s.rewritten c f e).feed f = e.queued := by
  have entry : (s.rewritten c f e).feed f = ((s.setFeed f e).queueFeed f).feed f := rfl
  rw [entry, feed_queueFeed, feed_setFeed]
  rfl

theorem feed_rewritten_other {f g : FeedNo} (s c : State) (e : FeedEntry) (other : g ≠ f) :
    (s.rewritten c f e).feed g = s.feed g := by
  have entry : (s.rewritten c f e).feed g = ((s.setFeed f e).queueFeed f).feed g := rfl
  rw [entry, feed_queueFeed_other _ other, feed_setFeed_other _ _ other]

theorem dropOptional_rewritten (s : State) (f : FeedNo) (e : FeedEntry) (old : Option Handle) :
    ((s.setFeed f e).dropOptional old).queueFeed f = s.rewritten (s.dropOptional old) f e := by
  have written : s.setFeed f e = s.withFeedsOf (s.setFeed f e) := rfl
  rw [written, dropOptional_withFeedsOf]
  rfl

/-- A feed written, a reference put in the place of another, and the policy outcome reported (R33, R43, R45, R69). -/
theorem replaceReference_rewritten (s : State) (f : FeedNo) (e : FeedEntry) (old : Option Handle) (new : HandleIx)
    (o : PolicyOutcome) (d : PolicyDetail) :
    (((s.setFeed f e).replaceReference old new).notifyPolicy o d).queueFeed f =
      s.rewritten (s.droppedFrom (s.counted new) old (s.noted o d)) f e := by
  have written : s.setFeed f e = s.withFeedsOf (s.setFeed f e) := rfl
  have notices : ((s.setFeed f e).replaceReference old new).notices = s.notices := replaceReference_notices ..
  have replaced : (s.withFeedsOf (s.setFeed f e)).replaceReference old new =
      (s.replaceReference old new).withFeedsOf (s.setFeed f e) := dropOptional_withFeedsOf (s.raiseCount new) _ old
  rw [notifyPolicy_eq, notices, written, replaced, ← replaceReference_eq]
  rfl

/-! #### The same, at the end of a change request -/

/-- The block before an effect has the feeds and the port of the released one, and the rest of the observed one. -/
theorem beforeEffect_eq (s : State) (r : RecordName) :
    s.beforeEffect r = (s.observed r).withFeedsOf (s.beforeEffect r) := rfl

@[simp] theorem beforeEffect_handle (h : HandleIx) : (s.beforeEffect r).handle h = s.handle h := by
  simp [beforeEffect, handle, observed]

theorem handles_observed (s : State) (r : RecordName) : (s.observed r).handles = s.handles := watchTest_handles _ _ _

theorem handle_observed (s : State) (r : RecordName) (h : HandleIx) : (s.observed r).handle h = s.handle h := by
  rw [handle, handles_observed, handle]

theorem pool_observed (s : State) (r : RecordName) : (s.observed r).pool = s.pool := watchTest_pool _ _ _

theorem policyToProfile_congr {t : State} (policy : t.policy = s.policy) (handles : t.handles = s.handles) (tier : Tier)
    (h : HandleIx) : t.policyToProfile tier h = s.policyToProfile tier h := by
  simp only [policyToProfile, policyFor, handle, policy, handles]

/-- `t` is the block once a request on feed `f` has been taken that writes `e` there, queues `f`, and leaves the profiles as
they stand in `c` after the move that follows a free (log 20). -/
structure FeedRewritten (s w c t : State) (f : FeedNo) (e : FeedEntry) (tag : Byte) : Prop where
  feed : t.feed f = e.queued
  others : ∀ g, g ≠ f → t.feed g = s.feed g
  profiles : t.handles = c.afterAbandon.handles ∧ t.pool = c.afterAbandon.pool ∧ t.notices = c.afterAbandon.notices
  resolver : t.resolver = s.queuedOne f
  port : t.port = s.portAnswered tag .ok []
  frame : t = { w with feeds := t.feeds, handles := t.handles, pool := t.pool, notices := t.notices
                       resolver := t.resolver, port := t.port, image := s.endWait.image }

theorem answered_rewritten (s c : State) (r : RecordName) (f : FeedNo) (e : FeedEntry) (tag : Byte)
    (profiles : c = { s.observed r with handles := c.handles, pool := c.pool, notices := c.notices }) :
    FeedRewritten s (s.observed r) c
      (((s.beforeEffect r).rewritten c f e).afterAbandon.endWait.answered tag .ok []) f e tag := by
  have frame : (s.beforeEffect r).rewritten c f e = { s.beforeEffect r with
      feeds := ((s.beforeEffect r).rewritten c f e).feeds, handles := c.handles, pool := c.pool
      deps := (s.beforeEffect r).deps, notices := c.notices
      resolver := ((s.beforeEffect r).rewritten c f e).resolver } := by
    rw [profiles]
    rfl
  rw [answered_taken (r := r) tag .ok [] frame]
  have moved : ((s.beforeEffect r).rewritten c f e).afterAbandon =
      c.afterAbandon.withFeedsOf (((s.beforeEffect r).setFeed f e).queueFeed f) := afterAbandon_withFeedsOf ..
  have resolver : ((s.beforeEffect r).rewritten c f e).resolver = s.queuedOne f := beforeEffect_queuedOne f
  have deps : ((s.beforeEffect r).rewritten c f e).deps = (s.observed r).deps := rfl
  rw [moved, resolver, deps]
  exact ⟨feed_rewritten _ c f e, fun g other => (feed_rewritten_other _ c e other).trans (beforeEffect_feed g),
    ⟨rfl, rfl, rfl⟩, rfl, rfl, rfl⟩

/-- Where the handle that loses its reference stays, no free abandons a move. -/
theorem FeedRewritten.profiles_of_settled {w c t : State} {f : FeedNo} {e : FeedEntry} {tag : Byte}
    (done : FeedRewritten s w c t f e tag) (settled : c.poolSettled) :
    t.handles = c.handles ∧ t.pool = c.pool ∧ t.notices = c.notices := by
  have := done.profiles
  rwa [afterAbandon_of_settled settled] at this

/-! #### The effects of the four requests -/

theorem rewritten_withFeedsOf (s c t : State) (f : FeedNo) (e : FeedEntry) :
    s.rewritten (c.withFeedsOf t) f e = s.rewritten c f e := rfl

/-- Entry `e` written for feed `f`, a reference to `new` put in the place of `old`, the policy outcome reported, and the
feed queued (R43, R45). -/
def rebind (s : State) (f : FeedNo) (e : FeedEntry) (old : Option Handle) (new : HandleIx) (kind : ReferenceKind) :
    State :=
  (((s.setFeed f e).replaceReference old new).notifyPolicy (s.policyToProfile (s.feed f).tier new)
    ⟨.feed f, .profile (s.currentHandle new), kind⟩).queueFeed f

/-- The profiles once a reference of feed `f` to `new` has taken the place of `old` (R33, R69). -/
def rebound (s : State) (f : FeedNo) (old : Option Handle) (new : HandleIx) (kind : ReferenceKind) : State :=
  (s.observed (.feed f)).droppedFrom (s.counted new) old ((s.observed (.feed f)).noted
    (s.policyToProfile (s.feed f).tier new) ⟨.feed f, .profile (s.currentHandle new), kind⟩)

@[simp] theorem beforeEffect_currentHandle (h : HandleIx) : (s.beforeEffect r).currentHandle h = s.currentHandle h := by
  rw [currentHandle, beforeEffect_handle, currentHandle]

theorem beforeEffect_counted (new : HandleIx) : (s.beforeEffect r).counted new = s.counted new := by
  rw [counted, beforeEffect_handles, beforeEffect_handle, counted]

theorem beforeEffect_policyToProfile (tier : Tier) (h : HandleIx) :
    (s.beforeEffect r).policyToProfile tier h = s.policyToProfile tier h :=
  policyToProfile_congr beforeEffect_policy beforeEffect_handles tier h

/-- A taken request that puts a reference to profile `new` in the place of `old`. -/
theorem answered_rebind (s : State) (f : FeedNo) (e : FeedEntry) (old : Option Handle) (new : HandleIx)
    (kind : ReferenceKind) (tag : Byte) :
    FeedRewritten s (s.observed (.feed f)) (s.rebound f old new kind)
      (((s.beforeEffect (.feed f)).rebind f e old new kind).afterAbandon.endWait.answered tag .ok []) f e tag := by
  have dropped := fun n => droppedFrom_withFeedsOf (s.observed (.feed f)) (s.beforeEffect (.feed f)) (s.counted new) old n
  simp only [← beforeEffect_eq] at dropped
  rw [rebind, replaceReference_rewritten, beforeEffect_counted, beforeEffect_policyToProfile, beforeEffect_feed,
    beforeEffect_currentHandle, dropped, rewritten_withFeedsOf]
  exact answered_rewritten s _ _ f e tag (droppedFrom_frame ..)

/-- A taken request that removes the reference `old` (R33, R44, R46). -/
theorem answered_dropped (s : State) (r : RecordName) (f : FeedNo) (e : FeedEntry) (old : Option Handle) (tag : Byte) :
    FeedRewritten s (s.observed r) ((s.observed r).dropOptional old)
      ((((s.beforeEffect r).setFeed f e).dropOptional old).queueFeed f |>.afterAbandon.endWait.answered tag .ok [])
      f e tag := by
  have dropped := dropOptional_withFeedsOf (s.observed r) (s.beforeEffect r) old
  rw [← beforeEffect_eq] at dropped
  have frame := droppedFrom_frame (s.observed r) (s.observed r).handles old (s.observed r).notices
  rw [dropOptional_rewritten, dropped, rewritten_withFeedsOf]
  exact answered_rewritten s _ r f e tag (by rw [dropOptional_eq]; exact frame)

/-- The end of a taken request whose dropped handle, if any, stays (R33). -/
theorem FeedRewritten.profiles_of_stays {w t : State} {f : FeedNo} {e : FeedEntry} {tag : Byte}
    {table : Table HandleEntry 255} {old : Option Handle} {n : Notices}
    (done : FeedRewritten s w (w.droppedFrom table old n) t f e tag) (settled : w.poolSettled)
    (stays : ({ w with handles := table } : State).Stays old) :
    t.handles = ({ w with handles := table } : State).lowered old ∧ t.pool = w.pool ∧ t.notices = n := by
  rw [droppedFrom_of_stays n stays] at done
  exact done.profiles_of_settled settled

end State

end Sys2Proof.Machine
end

section
/-! ### BIND and BIND-OVERRIDE taken (R33, R34, R43, R45, R69, R145, R146) -/

namespace Sys2Proof.Machine

namespace State

variable {s : State} {i : BindItems} {p : BindPlan}

theorem testBindTo_ok {f : FeedNo} {ref : RecordRef} (ok : s.testBindTo f ref = .ok p) :
    p.feed = f ∧ s.refProfile ref = .ok p.profile := by
  simp only [testBindTo, except_bind_ok, except_pure_ok] at ok
  obtain ⟨h, named, -, -, -, -, rfl⟩ := ok
  exact ⟨rfl, named⟩

/-- A BIND that passes its tests names a feed and a profile. -/
theorem bindFormed_of_testBind (ok : s.testBind i = .ok p) : bindFormed i = true := by
  simp only [testBind, except_bind_ok] at ok
  obtain ⟨f, feed, -, -, bound⟩ := ok
  rw [bindFormed, accepts_of_refFeed feed, accepts_of_refProfile (testBindTo_ok bound).2]
  rfl

theorem bindFormed_of_testBindOverride (ok : s.testBindOverride i = .ok p) : bindFormed i = true := by
  simp only [testBindOverride, except_bind_ok] at ok
  obtain ⟨f, feed, -, -, -, -, bound⟩ := ok
  rw [bindFormed, accepts_of_refFeed feed, accepts_of_refProfile (testBindTo_ok bound).2]
  rfl

/-- With no reference to drop, a request that adds one changes that count alone. -/
theorem FeedRewritten.profiles_of_new {w t : State} {f : FeedNo} {e : FeedEntry} {tag : Byte}
    {table : Table HandleEntry 255} {old : Option Handle} {n : Notices}
    (done : FeedRewritten s w (w.droppedFrom table old n) t f e tag) (settled : w.poolSettled) (absent : old = none) :
    t.handles = table ∧ t.pool = w.pool ∧ t.notices = n := by
  subst absent
  exact done.profiles_of_stays settled (stays_none _)

end State

section

variable {s : State} {r : Request BindItems} {i : BindItems} {p : BindPlan}

theorem exec_bind_stopped (ready : s.ready) (items : r.items = some i) (ok : s.testBind i = .ok p)
    (stop : s.stops .portChange (.feed p.feed) = true) :
    exec (.bind r) s = .next ((s.released.observed (.feed p.feed)).answered r.tag .watched []) :=
  congrArg Host.Outcome.next (serveNow_change_stopped r bindFormed s State.testBind (fun p => .feed p.feed)
    (fun p s => s.applyBind p) (fun _ => okBody []) ready items (State.bindFormed_of_testBind ok) ok stop)

theorem exec_bindOverride_stopped (ready : s.ready) (items : r.items = some i) (ok : s.testBindOverride i = .ok p)
    (stop : s.stops .portChange (.feed p.feed) = true) :
    exec (.bindOverride r) s = .next ((s.released.observed (.feed p.feed)).answered r.tag .watched []) :=
  congrArg Host.Outcome.next (serveNow_change_stopped r bindFormed s State.testBindOverride (fun p => .feed p.feed)
    (fun p s => s.applyBindOverride p) (fun _ => okBody []) ready items (State.bindFormed_of_testBindOverride ok) ok
    stop)

theorem exec_bind_taken (items : r.items = some i) (may : s.mayChange (.feed p.feed)) (ok : s.testBind i = .ok p) :
    ∃ t, exec (.bind r) s = .next t ∧ State.FeedRewritten s (s.observed (.feed p.feed))
      (s.rebound p.feed (s.feed p.feed).binding p.profile .bind) t p.feed
      { s.feed p.feed with binding := some (s.currentHandle p.profile) } r.tag := by
  have effect : (s.beforeEffect (.feed p.feed)).applyBind p = (s.beforeEffect (.feed p.feed)).rebind p.feed
      { s.feed p.feed with binding := some (s.currentHandle p.profile) } (s.feed p.feed).binding p.profile .bind := by
    rw [← State.beforeEffect_feed (r := .feed p.feed), ← State.beforeEffect_currentHandle (r := .feed p.feed)]
    rfl
  have taken := serveNow_change_taken r bindFormed s State.testBind (fun p => .feed p.feed)
    (fun p s => s.applyBind p) (fun _ => okBody []) may.ready items (State.bindFormed_of_testBind ok) ok may.unstopped
  refine ⟨_, congrArg Host.Outcome.next taken, ?_⟩
  have done := s.answered_rebind p.feed { s.feed p.feed with binding := some (s.currentHandle p.profile) }
    (s.feed p.feed).binding p.profile .bind r.tag
  rw [← effect] at done
  exact done

theorem exec_bindOverride_taken (items : r.items = some i) (may : s.mayChange (.feed p.feed))
    (ok : s.testBindOverride i = .ok p) :
    ∃ t, exec (.bindOverride r) s = .next t ∧ State.FeedRewritten s (s.observed (.feed p.feed))
      (s.rebound p.feed (s.feed p.feed).overrideBinding p.profile .bindOverride) t p.feed
      { s.feed p.feed with overrideBinding := some (s.currentHandle p.profile), overrideAction := .switch } r.tag := by
  have effect : (s.beforeEffect (.feed p.feed)).applyBindOverride p = (s.beforeEffect (.feed p.feed)).rebind p.feed
      { s.feed p.feed with overrideBinding := some (s.currentHandle p.profile), overrideAction := .switch }
      (s.feed p.feed).overrideBinding p.profile .bindOverride := by
    rw [← State.beforeEffect_feed (r := .feed p.feed), ← State.beforeEffect_currentHandle (r := .feed p.feed)]
    rfl
  have taken := serveNow_change_taken r bindFormed s State.testBindOverride (fun p => .feed p.feed)
    (fun p s => s.applyBindOverride p) (fun _ => okBody []) may.ready items (State.bindFormed_of_testBindOverride ok) ok
    may.unstopped
  refine ⟨_, congrArg Host.Outcome.next taken, ?_⟩
  have done := s.answered_rebind p.feed
    { s.feed p.feed with overrideBinding := some (s.currentHandle p.profile), overrideAction := .switch }
    (s.feed p.feed).overrideBinding p.profile .bindOverride r.tag
  rw [← effect] at done
  exact done

end

/-- Settles O22: a watch stops the request, or the binding is written and the counts follow. -/
theorem bindingsStored : Obligations.BindingsStored := by
  unfold Obligations.BindingsStored
  refine ⟨fun s r i p items ready stop => ⟨fun ok => exec_bind_stopped ready items ok stop,
    fun ok => exec_bindOverride_stopped ready items ok stop⟩, fun s r i p items may => ?_⟩
  have settled := s.poolSettled_observed may.settled (.feed p.feed)
  have pool := s.pool_observed (.feed p.feed)
  intro w h counted noted replaced
  refine ⟨fun ok => ?_, fun ok => ?_⟩
  · obtain ⟨t, ran, done⟩ := exec_bind_taken items may ok
    refine ⟨t, ran, done.feed, done.others, fun absent => ?_, done.profiles, done.resolver, done.port, done.frame⟩
    obtain ⟨handles, kept, notices⟩ := done.profiles_of_new settled absent
    exact ⟨handles, kept.trans pool, notices⟩
  · obtain ⟨t, ran, done⟩ := exec_bindOverride_taken items may ok
    refine ⟨t, ran, done.feed, done.others, fun absent => ?_, done.profiles, done.resolver, done.port, done.frame⟩
    obtain ⟨handles, kept, notices⟩ := done.profiles_of_new settled absent
    exact ⟨handles, kept.trans pool, notices⟩

end Sys2Proof.Machine
end

section
/-! ### UNBIND and UNBIND-OVERRIDE (R6, R33, R34, R44, R46, R145, R146) -/

namespace Sys2Proof.Machine

namespace State

variable {s : State} {ref : RecordRef} {f : FeedNo}

theorem testUnbind_eq (named : s.refFeed ref = .ok f) : s.testUnbind ref = match s.longOperation with
    | some st => .error st
    | none => .ok f := by
  rw [testUnbind, named, except_ok_bind, requireNoLongOperation_bind]
  cases s.longOperation <;> rfl

theorem testUnbindOverride_eq (named : s.refFeed ref = .ok f) :
    s.testUnbindOverride ref = match s.longOperation with
    | some st => .error st
    | none => if s.locked = true then .error .locked else .ok f := by
  rw [testUnbindOverride, named, except_ok_bind, requireNoLongOperation_bind]
  simp only [requireUnlocked_bind]
  cases s.longOperation <;> rfl

theorem testUnbind_error {st : Status} (bad : s.refFeed ref = .error st) :
    s.testUnbind ref = .error st ∧ s.testUnbindOverride ref = .error st := by
  rw [testUnbind, testUnbindOverride, bad, except_error_bind, except_error_bind]
  exact ⟨rfl, rfl⟩

/-- The end of a taken request that drops a reference to a handle that stays. -/
theorem FeedRewritten.profiles_of_dropped {r : RecordName} {t : State} {e : FeedEntry} {tag : Byte}
    {old : Option Handle} (done : FeedRewritten s (s.observed r) ((s.observed r).dropOptional old) t f e tag)
    (settled : s.poolSettled) (stays : s.Stays old) :
    t.handles = s.lowered old ∧ t.pool = s.pool ∧ t.notices = (s.observed r).notices := by
  have same : (s.observed r).lowered old = s.lowered old := by
    cases old with
    | none => exact s.handles_observed r
    | some h => simp only [lowered, handles_observed, handle_observed]
  rw [dropOptional_eq] at done
  obtain ⟨handles, pool, notices⟩ := done.profiles_of_stays (s.poolSettled_observed settled r)
    (fun h hh => by simpa only [handle, handles_observed] using stays h hh)
  exact ⟨handles.trans same, pool.trans (s.pool_observed r), notices⟩

end State

section

variable {s : State} {r : Request RecordRef} {ref : RecordRef} {f : FeedNo} {st : Status}

/-! #### The three ends of each request -/

theorem exec_unbind_error (ready : s.ready) (items : r.items = some ref) (formed : accepts .feed ref = true)
    (bad : s.testUnbind ref = .error st) : exec (.unbind r) s = .next (s.released.answered r.tag st []) :=
  congrArg Host.Outcome.next (serveNow_change_error r (accepts .feed) s State.testUnbind (fun f => .feed f)
    (fun f s => s.applyUnbind f) (fun _ => okBody []) ready items formed bad)

theorem exec_unbindOverride_error (ready : s.ready) (items : r.items = some ref) (formed : accepts .feed ref = true)
    (bad : s.testUnbindOverride ref = .error st) :
    exec (.unbindOverride r) s = .next (s.released.answered r.tag st []) :=
  congrArg Host.Outcome.next (serveNow_change_error r (accepts .feed) s State.testUnbindOverride (fun f => .feed f)
    (fun f s => s.applyUnbindOverride f) (fun _ => okBody []) ready items formed bad)

theorem exec_unbind_stopped (ready : s.ready) (items : r.items = some ref) (formed : accepts .feed ref = true)
    (ok : s.testUnbind ref = .ok f) (stop : s.stops .portChange (.feed f) = true) :
    exec (.unbind r) s = .next ((s.released.observed (.feed f)).answered r.tag .watched []) :=
  congrArg Host.Outcome.next (serveNow_change_stopped r (accepts .feed) s State.testUnbind (fun f => .feed f)
    (fun f s => s.applyUnbind f) (fun _ => okBody []) ready items formed ok stop)

theorem exec_unbindOverride_stopped (ready : s.ready) (items : r.items = some ref) (formed : accepts .feed ref = true)
    (ok : s.testUnbindOverride ref = .ok f) (stop : s.stops .portChange (.feed f) = true) :
    exec (.unbindOverride r) s = .next ((s.released.observed (.feed f)).answered r.tag .watched []) :=
  congrArg Host.Outcome.next (serveNow_change_stopped r (accepts .feed) s State.testUnbindOverride (fun f => .feed f)
    (fun f s => s.applyUnbindOverride f) (fun _ => okBody []) ready items formed ok stop)

theorem exec_unbind_taken (items : r.items = some ref) (formed : accepts .feed ref = true) (may : s.mayChange (.feed f))
    (ok : s.testUnbind ref = .ok f) : ∃ t, exec (.unbind r) s = .next t ∧
      State.FeedRewritten s (s.observed (.feed f)) ((s.observed (.feed f)).dropOptional (s.feed f).binding) t f
        { s.feed f with binding := none } r.tag := by
  have effect : (s.beforeEffect (.feed f)).applyUnbind f = (((s.beforeEffect (.feed f)).setFeed f
      { s.feed f with binding := none }).dropOptional (s.feed f).binding).queueFeed f := by
    rw [← State.beforeEffect_feed (r := .feed f)]
    rfl
  have taken := serveNow_change_taken r (accepts .feed) s State.testUnbind (fun f => .feed f)
    (fun f s => s.applyUnbind f) (fun _ => okBody []) may.ready items formed ok may.unstopped
  refine ⟨_, congrArg Host.Outcome.next taken, ?_⟩
  have done := s.answered_dropped (.feed f) f { s.feed f with binding := none } (s.feed f).binding r.tag
  rw [← effect] at done
  exact done

theorem exec_unbindOverride_taken (items : r.items = some ref) (formed : accepts .feed ref = true)
    (may : s.mayChange (.feed f)) (ok : s.testUnbindOverride ref = .ok f) :
    ∃ t, exec (.unbindOverride r) s = .next t ∧
      State.FeedRewritten s (s.observed (.feed f)) ((s.observed (.feed f)).dropOptional (s.feed f).overrideBinding) t f
        { s.feed f with overrideBinding := none, overrideAction := .keep } r.tag := by
  have effect : (s.beforeEffect (.feed f)).applyUnbindOverride f = (((s.beforeEffect (.feed f)).setFeed f
      { s.feed f with overrideBinding := none, overrideAction := .keep }).dropOptional
      (s.feed f).overrideBinding).queueFeed f := by
    rw [← State.beforeEffect_feed (r := .feed f)]
    rfl
  have taken := serveNow_change_taken r (accepts .feed) s State.testUnbindOverride (fun f => .feed f)
    (fun f s => s.applyUnbindOverride f) (fun _ => okBody []) may.ready items formed ok may.unstopped
  refine ⟨_, congrArg Host.Outcome.next taken, ?_⟩
  have done := s.answered_dropped (.feed f) f { s.feed f with overrideBinding := none, overrideAction := .keep }
    (s.feed f).overrideBinding r.tag
  rw [← effect] at done
  exact done

end

/-- Settles O24: the tests of both requests, the watch that stops them, and the binding removed. -/
theorem bindingsRemoved : Obligations.BindingsRemoved := by
  unfold Obligations.BindingsRemoved
  refine ⟨fun s tag ref ready formed => ⟨fun st bad => ?_, fun f named => ⟨fun st busy => ?_, fun free stop => ?_⟩⟩,
    fun s r ref f items named may => ?_⟩
  · exact ⟨exec_unbind_error ready rfl formed (State.testUnbind_error bad).1,
      exec_unbindOverride_error ready rfl formed (State.testUnbind_error bad).2⟩
  · exact ⟨exec_unbind_error ready rfl formed (by rw [State.testUnbind_eq named, busy]),
      exec_unbindOverride_error ready rfl formed (by rw [State.testUnbindOverride_eq named, busy])⟩
  · refine ⟨exec_unbind_stopped ready rfl formed (by rw [State.testUnbind_eq named, free]) stop, fun unlocked =>
      exec_unbindOverride_stopped ready rfl formed ?_ stop⟩
    rw [State.testUnbindOverride_eq named, free]
    exact if_neg (by simp [unlocked])
  · have formed := accepts_of_refFeed named
    have override := State.testUnbindOverride_eq named
    rw [may.noOperation] at override
    intro w lowered stays
    refine ⟨?_, fun unlocked => ?_, fun locked => ?_⟩
    · have ok : s.testUnbind ref = .ok f := by rw [State.testUnbind_eq named, may.noOperation]
      obtain ⟨t, ran, done⟩ := exec_unbind_taken items formed may ok
      exact ⟨t, ran, done.feed, done.others, done.profiles_of_dropped may.settled, done.profiles, done.resolver, done.port,
        done.frame⟩
    · obtain ⟨t, ran, done⟩ := exec_unbindOverride_taken items formed may
        (override.trans (if_neg (by simp [unlocked])))
      exact ⟨t, ran, done.feed, done.others, done.profiles_of_dropped may.settled, done.profiles, done.resolver, done.port,
        done.frame⟩
    · exact exec_unbindOverride_error may.ready items formed (override.trans (if_pos locked))

end Sys2Proof.Machine
end

section
/-! ### Requests that name a profile: their tests, and their end when taken (R10, R32, R35, R62, R145, R171) -/

namespace Sys2Proof.Machine

/-- A reference that yields a record is of the record's class. -/
theorem accepts_of_resolve {s : State} {ref : RecordRef} {t : Target} (resolved : s.resolve ref = .ok t) :
    accepts t.cls ref = true := by
  cases ref with
  | numbered cls number generation => exact decide_eq_true (congrArg Target.cls (Except.ok.inj resolved))
  | _ => rfl

namespace State

variable {s : State} {r : RecordName} {ref : RecordRef}

/-! #### The tests of RETIRE and REVIVE (R35, R47, R49) -/

theorem testNamed_error {st : Status} (bad : s.refProfile ref = .error st) : s.testNamed ref = .error st := by
  rw [testNamed, bad, except_error_bind]

theorem testNamed_busy {h : HandleIx} {st : Status} (named : s.refProfile ref = .ok h)
    (busy : s.longOperation = some st) : s.testNamed ref = .error st := by
  rw [testNamed, named, except_ok_bind, requireNoLongOperation_bind, busy]

theorem testNamed_free {h : HandleIx} (named : s.refProfile ref = .ok h) (free : s.longOperation = none) :
    s.testNamed ref = .ok h := by
  rw [testNamed, named, except_ok_bind, requireNoLongOperation_bind, free]
  rfl

theorem refProfile_of_testNamed {h : HandleIx} (ok : s.testNamed ref = .ok h) : s.refProfile ref = .ok h := by
  simp only [testNamed, except_bind_ok, except_pure_ok] at ok
  obtain ⟨_, named, -, -, rfl⟩ := ok
  exact named

/-! #### What a taken request leaves -/

theorem poolSettled_of_fields {t : State} (move : t.pool.move = s.pool.move)
    (compaction : t.pool.compaction = s.pool.compaction) (settled : s.poolSettled) : t.poolSettled := by
  rwa [poolSettled, move, compaction]

theorem poolSettled_beforeEffect (settled : s.poolSettled) (r : RecordName) : (s.beforeEffect r).poolSettled :=
  poolSettled_congr beforeEffect_pool settled

/-- The end of a taken change request that abandons no move: its effect, the reply and the end of a start-up wait. -/
theorem answered_settled {v : State} (tag : Byte) (st : Status) (body : List Byte)
    (effect : v = { s.beforeEffect r with
      feeds := v.feeds, handles := v.handles, pool := v.pool, notices := v.notices, resolver := v.resolver
      port := v.port }) (settled : v.poolSettled) :
    v.afterAbandon.endWait.answered tag st body = { s.observed r with
      feeds := v.feeds, handles := v.handles, pool := v.pool, notices := v.notices, resolver := v.resolver
      port := { v.port with inProgress := some ⟨tag, .answered ⟨st, body⟩⟩ }, image := s.endWait.image } := by
  have image : v.endWait.image = s.endWait.image := endWait_image_congr (by rw [effect]; exact beforeEffect_image)
  rw [afterAbandon_of_settled settled, endWait_frame, image, effect]
  rfl

/-! #### The change of a record whose name the state gives -/

section

variable {α : Type} (record : α → RecordName) (effect : α → State → State) (a : α)

theorem takeChange_released_stopped (stop : s.stops .portChange (record a) = true) :
    s.released.takeChange (.ok a) record effect = (s.released.observed (record a), .error .watched) :=
  takeChange_stopped s.released record effect a stop

theorem takeChange_released_taken (unstopped : s.stops .portChange (record a) = false) :
    s.released.takeChange (.ok a) record effect =
      ((effect a (s.beforeEffect (record a))).afterAbandon.endWait, .ok a) := by
  have before : s.released.observed (record a) = s.beforeEffect (record a) := observed_released s (record a)
  rw [takeChange_taken s.released record effect a unstopped, ← before]
  rfl

end

end State

/-- A request whose run gives this state and this answer. -/
theorem serveNow_answer {α : Type} {r : Request α} {formed : α → Bool} {run : α → State → State × Answer} {s u : State}
    {i : α} {a : Answer} (ready : s.ready) (items : r.items = some i) (ok : formed i = true)
    (ran : run i s.released = (u, a)) : serveNow r formed run s = u.answered r.tag a.status a.body := by
  rw [serveNow_ready r formed s run ready items ok, ran]

/-! #### RETIRE and REVIVE differ in their effect alone -/

/-- A request that tests a profile's name and makes `effect` of it. -/
def State.requestNamed (s : State) (effect : HandleIx → State → State) (ref : RecordRef) : State × Answer :=
  let (s', r) := s.takeChange (s.testNamed ref) (fun h => .profile (s.currentHandle h)) effect
  (s', answerOf (fun _ => okBody []) r)

section

variable {s : State} {r : Request RecordRef} {ref : RecordRef} {h : HandleIx} (effect : HandleIx → State → State)

theorem exec_retire_named (s : State) (r : Request RecordRef) : exec (.retire r) s =
    .next (serveNow r (accepts .profile) (fun ref s => s.requestNamed (fun h s => s.applyRetire h) ref) s) := rfl

theorem exec_revive_named (s : State) (r : Request RecordRef) : exec (.revive r) s =
    .next (serveNow r (accepts .profile) (fun ref s => s.requestNamed (fun h s => s.applyRevive h) ref) s) := rfl

theorem serveNow_named_error {st : Status} (ready : s.ready) (items : r.items = some ref)
    (formed : accepts .profile ref = true) (bad : s.testNamed ref = .error st) :
    serveNow r (accepts .profile) (fun ref s => s.requestNamed effect ref) s = s.released.answered r.tag st [] := by
  have ran : s.released.requestNamed effect ref = (s.released, refusal st) := by
    rw [State.requestNamed, State.testNamed_released, bad]
    rfl
  exact serveNow_answer (run := fun ref s => s.requestNamed effect ref) ready items formed ran

theorem serveNow_named_stopped (ready : s.ready) (items : r.items = some ref) (ok : s.testNamed ref = .ok h)
    (stop : s.stops .portChange (.profile (s.currentHandle h)) = true) :
    serveNow r (accepts .profile) (fun ref s => s.requestNamed effect ref) s =
      (s.released.observed (.profile (s.currentHandle h))).answered r.tag .watched [] := by
  have ran : s.released.requestNamed effect ref =
      (s.released.observed (.profile (s.currentHandle h)), refusal .watched) := by
    rw [State.requestNamed, State.testNamed_released, ok,
      State.takeChange_released_stopped (fun h => .profile (s.released.currentHandle h)) _ _ stop]
    rfl
  exact serveNow_answer (run := fun ref s => s.requestNamed effect ref) ready items
    (accepts_of_refProfile (State.refProfile_of_testNamed ok)) ran

theorem serveNow_named_taken (ready : s.ready) (items : r.items = some ref) (ok : s.testNamed ref = .ok h)
    (unstopped : s.stops .portChange (.profile (s.currentHandle h)) = false) :
    serveNow r (accepts .profile) (fun ref s => s.requestNamed effect ref) s =
      (effect h (s.beforeEffect (.profile (s.currentHandle h)))).afterAbandon.endWait.answered r.tag .ok [] := by
  have ran : s.released.requestNamed effect ref =
      ((effect h (s.beforeEffect (.profile (s.currentHandle h)))).afterAbandon.endWait, okBody []) := by
    rw [State.requestNamed, State.testNamed_released, ok,
      State.takeChange_released_taken (fun h => .profile (s.released.currentHandle h)) _ _ unstopped]
    rfl
  exact serveNow_answer (run := fun ref s => s.requestNamed effect ref) ready items
    (accepts_of_refProfile (State.refProfile_of_testNamed ok)) ran

end

end Sys2Proof.Machine
end

section
/-! ### REVIVE (R35, R49) -/

namespace Sys2Proof.Machine

variable {s : State} {r : Request RecordRef} {ref : RecordRef} {h : HandleIx}

namespace State

/-- The Handle Table after a REVIVE (R49). -/
def revived (s : State) (h : HandleIx) : Table HandleEntry 255 :=
  if (s.handle h).state = .retiring then s.handles.upd h { s.handle h with state := .live } else s.handles

theorem applyRevive_eq (s : State) (h : HandleIx) : s.applyRevive h = { s with handles := s.revived h } := by
  unfold applyRevive revived
  dsimp only
  cases state : (s.handle h).state <;> rfl

theorem get_revived (inUse : (s.handle h).state ≠ .free) : ((s.revived h).get h).state = .live := by
  unfold revived
  split
  · rw [Table.get_upd_same]
  · next other =>
    show (s.handle h).state = .live
    cases state : (s.handle h).state with
    | live => rfl
    | free => exact absurd state inUse
    | retiring => exact absurd state other

end State

theorem exec_revive_taken (ready : s.ready) (items : r.items = some ref) (ok : s.testNamed ref = .ok h)
    (unstopped : s.stops .portChange (.profile (s.currentHandle h)) = false) (settled : s.poolSettled) :
    exec (.revive r) s = .next { s.observed (.profile (s.currentHandle h)) with
      handles := s.revived h, port := s.portAnswered r.tag .ok [], image := s.endWait.image } := by
  have taken := serveNow_named_taken (fun h s => s.applyRevive h) ready items ok unstopped
  have effect := (s.beforeEffect (.profile (s.currentHandle h))).applyRevive_eq h
  have table : (s.beforeEffect (.profile (s.currentHandle h))).revived h = s.revived h := by
    rw [State.revived, State.beforeEffect_handle, State.beforeEffect_handles, State.revived]
  rw [effect, table] at taken
  have ended := State.answered_settled (s := s) (r := .profile (s.currentHandle h))
    (v := { s.beforeEffect (.profile (s.currentHandle h)) with handles := s.revived h }) r.tag .ok [] rfl
    (State.poolSettled_beforeEffect settled _)
  exact congrArg Host.Outcome.next (taken.trans ended)

/-- Settles O31: the name's tests, a long operation, the watch, and the entry that turns LIVE. -/
theorem reviveReturns : Obligations.ReviveReturns := by
  unfold Obligations.ReviveReturns
  intro s tag ref n h ready resolved cls number e request name
  have formed : accepts .profile ref = true := cls ▸ accepts_of_resolve resolved
  have names := State.refProfile_named resolved cls h (handleIx_some_iff.mp number)
  have fails : ∀ st, s.testNamed ref = .error st → exec request s = .next (s.released.answered tag st []) :=
    fun st bad => (exec_revive_named s _).trans (congrArg _ (serveNow_named_error _ ready rfl formed bad))
  refine ⟨fun free => ?_, fun inUse other => ?_, fun inUse present => ?_⟩
  · exact fails _ (State.testNamed_error (names.trans (if_pos free)))
  · exact fails _
      (State.testNamed_error (names.trans ((if_neg inUse).trans (if_pos other))))
  have named : s.refProfile ref = .ok h := names.trans ((if_neg inUse).trans (if_neg (not_not_intro present)))
  refine ⟨fun st busy => fails _ (State.testNamed_busy named busy), fun free stop =>
    (exec_revive_named s _).trans (congrArg _ (serveNow_named_stopped _ ready rfl (State.testNamed_free named free) stop)),
    fun free unstopped settled => ?_⟩
  have live := s.get_revived inUse
  refine ⟨exec_revive_taken ready rfl (State.testNamed_free named free) unstopped settled, live, ?_, ?_, ?_⟩
  · exact (require_ne_retiring _ _).trans (if_neg (by rw [State.handle]; exact fun e => by cases live.symm.trans e))
  · exact State.watchTest_feeds _ _ _
  · exact State.watchTest_resolver _ _ _

end Sys2Proof.Machine
end

section
/-! ### The move that follows a free (R57, R58, R60, R62; log 20) -/

namespace Sys2Proof.Machine

namespace State

variable {s : State}

theorem afterAbandon_of_still (still : s.pool.move.isSome = true ∨ s.pool.compaction = .idle) : s.afterAbandon = s :=
  still.elim afterAbandon_of_move afterAbandon_of_idle

theorem afterAbandon_of_stopping (move : s.pool.move = none) (stopping : s.pool.compaction = .stopping) :
    s.afterAbandon = { s with pool := { s.pool with compaction := .idle } } := by
  rw [afterAbandon, move, stopping]

theorem afterAbandon_of_running (move : s.pool.move = none) (running : s.pool.compaction = .running) :
    s.afterAbandon = s.nextMove := by
  rw [afterAbandon, move, running]

theorem afterAbandon_completes (move : s.pool.move = none) (running : s.pool.compaction = .running)
    (none : s.chooseMove = none) : s.afterAbandon =
      { s with pool := { s.pool with compaction := .idle }, notices := s.notices.raise .compactionDone } := by
  rw [afterAbandon_of_running move running, nextMove, none]
  rfl

theorem afterAbandon_goesOn (move : s.pool.move = none) (running : s.pool.compaction = .running) {e : Extent}
    {h : HandleIx} (chosen : s.chooseMove = some (e, h)) : s.afterAbandon = s.beginMove e h := by
  have again : ({ s with pool := { s.pool with compaction := .running } } : State) = s := by rw [← running]
  rw [afterAbandon_of_running move running, nextMove, chosen]
  simp only [again]

/-- A profile that is moved has an extent (R58). -/
theorem extent_of_chooseMove {e : Extent} {h : HandleIx} (chosen : s.chooseMove = some (e, h)) :
    (s.handle h).extent ≠ none := by
  obtain ⟨x, -, found⟩ := List.exists_of_findSome?_eq_some chosen
  obtain ⟨g, here, same⟩ := Option.map_eq_some_iff.mp found
  cases same
  unfold handleAt at here
  have above := List.find?_some here
  rw [decide_eq_true_iff] at above
  intro none
  rw [none] at above
  cases above

theorem handle_beginMove_other {g h : HandleIx} (s : State) (e : Extent) (other : g ≠ h) :
    (s.beginMove e h).handle g = s.handle g := Table.get_upd_other _ _ other

/-- A FREE handle stays FREE when the next move begins. -/
theorem handle_afterAbandon {h : HandleIx} (none : (s.handle h).extent = none) :
    s.afterAbandon.handle h = s.handle h := by
  cases move : s.pool.move with
  | some m => rw [afterAbandon_of_move (by rw [move]; rfl)]
  | none =>
    cases compaction : s.pool.compaction with
    | idle => rw [afterAbandon_of_idle compaction]
    | stopping => rw [afterAbandon_of_stopping move compaction]; rfl
    | running =>
      cases chosen : s.chooseMove with
      | none => rw [afterAbandon_completes move compaction chosen]; rfl
      | some x =>
        obtain ⟨e, g⟩ := x
        rw [afterAbandon_goesOn move compaction chosen]
        exact handle_beginMove_other s e fun same => extent_of_chooseMove chosen (same ▸ none)

/-! ### References removed, and the frees they bring about (R33, R34, R62) -/

theorem dropReference_freed {h : HandleIx} (apart : ∀ b, s.baseOf h = some b → b.ix ≠ h)
    (retiring : (s.handle h).state = .retiring) (last : (s.handle h).refCount ≤ 1) :
    HandleFreed s (s.dropReference h) h := by
  rw [s.dropReference_of_last retiring last, freeHandle_lowerCount]
  exact s.freeHandle_freed h apart

/-- A base that keeps a reference, or is LIVE, is not freed with `h` (R34). -/
theorem freedWith_of_stays {h : HandleIx} (stays : s.Stays (s.baseOf h)) : s.freedWith h = [h] := by
  unfold freedWith
  cases base : s.baseOf h with
  | none => rfl
  | some b =>
    refine if_neg ?_
    rintro ⟨retiring, few⟩
    rcases stays b base with live | many
    · cases live.symm.trans retiring
    · omega

end State

/-- A handle freed alone: its base, where it has one, counts one reference less. -/
theorem HandleFreed.handle_of_alone {s u : State} {h : HandleIx} (freed : HandleFreed s u h)
    (alone : s.freedWith h = [h]) {g : HandleIx} (other : g ≠ h) :
    u.handle g = { s.handle g with refCount := (s.handle g).refCount - if namesHandle g (s.baseOf h) then 1 else 0 } := by
  have kept : g ∉ s.freedWith h := by rw [alone, List.mem_singleton]; exact other
  cases named : namesHandle g (s.baseOf h) with
  | false =>
    refine freed.others g kept fun b base same => ?_
    rw [base, ← same] at named
    simp [namesHandle] at named
  | true =>
    obtain ⟨b, base, rfl⟩ := namesHandle_iff.mp named
    exact freed.base b base kept

theorem HandleFreed.pool_of_alone {s u : State} {h : HandleIx} (freed : HandleFreed s u h)
    (alone : s.freedWith h = [h]) : u.pool = { s.pool with
      free := giveBackOptional s.pool.free (s.handle h).extent
      move := if (s.handle h).inMove then none else s.pool.move } := by
  rw [freed.pool, alone]
  simp

/-- A freed handle stays FREE whatever move follows. -/
theorem HandleFreed.handle_afterAbandon {s u : State} {h : HandleIx} (freed : HandleFreed s u h) :
    u.afterAbandon.handle h = ⟨.free, (s.handle h).gen + 1, none, 0, false, none⟩ := by
  have mem : h ∈ s.freedWith h := by
    unfold State.freedWith
    split
    · split <;> exact List.mem_cons_self ..
    · exact List.mem_cons_self ..
  have entry := freed.freed h mem
  rw [State.handle_afterAbandon (by rw [entry]), entry]

/-! ### RETIRE (R33, R34, R47, R62) -/

namespace State

variable {s : State} {h : HandleIx}

theorem applyRetire_referenced (live : (s.handle h).state = .live) (referenced : 0 < (s.handle h).refCount) :
    s.applyRetire h = { s with handles := s.handles.upd h { s.handle h with state := .retiring } } := by
  unfold applyRetire
  simp only [live]
  exact if_neg (by omega)

theorem applyRetire_retiring (retiring : (s.handle h).state = .retiring) : s.applyRetire h = s := by
  unfold applyRetire
  simp only [retiring]

theorem applyRetire_unreferenced (live : (s.handle h).state = .live) (unreferenced : (s.handle h).refCount = 0) :
    s.applyRetire h = s.freeHandle h := by
  unfold applyRetire
  simp only [live]
  exact if_pos unreferenced

/-- The block once a RETIRE has been taken that changed no profile (R47). -/
def retireAnswered (s : State) (h : HandleIx) (tag : Byte) : State :=
  { s.observed (.profile (s.currentHandle h)) with port := s.portAnswered tag .ok [], image := s.endWait.image }

theorem baseOf_observed (s : State) (r : RecordName) (h : HandleIx) : (s.observed r).baseOf h = s.baseOf h := by
  rw [baseOf, handle_observed, baseOf]

/-- A RETIRE that frees: the profiles, pool and notices are those of the free and the move after it. -/
theorem answered_freed (s : State) (h : HandleIx) (tag : Byte) (u : State)
    (free : u = (s.observed (.profile (s.currentHandle h))).freeHandle h) :
    ((s.beforeEffect (.profile (s.currentHandle h))).freeHandle h).afterAbandon.endWait.answered tag .ok [] =
      { s.retireAnswered h tag with
        handles := u.afterAbandon.handles, pool := u.afterAbandon.pool, notices := u.afterAbandon.notices } := by
  obtain ⟨handles, pool, frame⟩ := (s.observed (.profile (s.currentHandle h))).freeHandle_frame h
  have same : (s.beforeEffect (.profile (s.currentHandle h))).freeHandle h =
      u.withFeedsOf (s.beforeEffect (.profile (s.currentHandle h))) := by
    rw [free, ← freeHandle_withFeedsOf, ← beforeEffect_eq]
  rw [same, answered_taken (r := .profile (s.currentHandle h)) tag .ok [] (by rw [free, frame]; rfl),
    afterAbandon_withFeedsOf]
  rfl

end State

end Sys2Proof.Machine
end

section
/-! ### RETIRE: its ends (R33, R34, R47, R62, R145, R146) -/

namespace Sys2Proof.Machine

section

variable {s : State} {r : Request RecordRef} {ref : RecordRef} {h : HandleIx}

theorem exec_retire_error {st : Status} (ready : s.ready) (items : r.items = some ref)
    (formed : accepts .profile ref = true) (bad : s.testNamed ref = .error st) :
    exec (.retire r) s = .next (s.released.answered r.tag st []) :=
  (exec_retire_named s r).trans (congrArg _ (serveNow_named_error _ ready items formed bad))

theorem exec_retire_stopped (ready : s.ready) (items : r.items = some ref) (ok : s.testNamed ref = .ok h)
    (stop : s.stops .portChange (.profile (s.currentHandle h)) = true) : exec (.retire r) s =
      .next ((s.released.observed (.profile (s.currentHandle h))).answered r.tag .watched []) :=
  (exec_retire_named s r).trans (congrArg _ (serveNow_named_stopped _ ready items ok stop))

theorem exec_retire_taken (items : r.items = some ref) (ok : s.testNamed ref = .ok h)
    (may : s.mayChange (.profile (s.currentHandle h))) : exec (.retire r) s = .next
      (((s.beforeEffect (.profile (s.currentHandle h))).applyRetire h).afterAbandon.endWait.answered r.tag .ok []) :=
  (exec_retire_named s r).trans (congrArg _ (serveNow_named_taken _ may.ready items ok may.unstopped))

theorem exec_retire_referenced (items : r.items = some ref) (ok : s.testNamed ref = .ok h)
    (may : s.mayChange (.profile (s.currentHandle h))) (live : (s.handle h).state = .live)
    (referenced : 0 < (s.handle h).refCount) : exec (.retire r) s = .next { s.retireAnswered h r.tag with
      handles := s.handles.upd h { s.handle h with state := .retiring } } := by
  have taken := exec_retire_taken items ok may
  rw [State.applyRetire_referenced (by simpa using live) (by simpa using referenced), State.beforeEffect_handle,
    State.beforeEffect_handles] at taken
  exact taken.trans (congrArg _ (State.answered_settled (s := s) (r := .profile (s.currentHandle h)) r.tag .ok []
    rfl (State.poolSettled_beforeEffect may.settled _)))

theorem exec_retire_retiring (items : r.items = some ref) (ok : s.testNamed ref = .ok h)
    (may : s.mayChange (.profile (s.currentHandle h))) (retiring : (s.handle h).state = .retiring) :
    exec (.retire r) s = .next (s.retireAnswered h r.tag) := by
  have taken := exec_retire_taken items ok may
  rw [State.applyRetire_retiring (by simpa using retiring)] at taken
  exact taken.trans (congrArg _ (State.answered_settled (s := s) (r := .profile (s.currentHandle h)) r.tag .ok []
    rfl (State.poolSettled_beforeEffect may.settled _)))

theorem exec_retire_freed (items : r.items = some ref) (ok : s.testNamed ref = .ok h)
    (may : s.mayChange (.profile (s.currentHandle h))) (live : (s.handle h).state = .live)
    (unreferenced : (s.handle h).refCount = 0) (apart : ∀ b, s.baseOf h = some b → b.ix ≠ h) :
    ∃ u, HandleFreed (s.observed (.profile (s.currentHandle h))) u h ∧ exec (.retire r) s = .next
      { s.retireAnswered h r.tag with
        handles := u.afterAbandon.handles, pool := u.afterAbandon.pool, notices := u.afterAbandon.notices } := by
  have taken := exec_retire_taken items ok may
  rw [State.applyRetire_unreferenced (by simpa using live) (by simpa using unreferenced),
    s.answered_freed h r.tag _ rfl] at taken
  exact ⟨_, State.freeHandle_freed _ h (by rwa [State.baseOf_observed]), taken⟩

end

/-! #### A profile freed alone: its base, if any, stays -/

/-- What a free and the move after it leave of handles, pool and notices (R34, R62). -/
structure FreedAlone (s w : State) (h : HandleIx) (t : State) : Prop where
  still : (s.handle h).inMove = false ∨ s.pool.compaction ≠ .running →
    (∀ g, g ≠ h → t.handle g =
      { s.handle g with refCount := (s.handle g).refCount - if namesHandle g (s.baseOf h) then 1 else 0 }) ∧
    t.notices = w.notices
  unmoved : (s.handle h).inMove = false →
    t.pool = { s.pool with free := giveBackOptional s.pool.free (s.handle h).extent }
  stopping : (s.handle h).inMove = true → s.pool.compaction = .stopping →
    t.pool = ⟨giveBackOptional s.pool.free (s.handle h).extent, .idle, none⟩
  running : (s.handle h).inMove = true → s.pool.compaction = .running →
    (t.pool.compaction = .running ∧ t.pool.move.isSome = true ∧ t.notices = w.notices) ∨
    (t.pool = ⟨giveBackOptional s.pool.free (s.handle h).extent, .idle, none⟩ ∧
      t.notices = w.notices.raise .compactionDone)

theorem HandleFreed.afterAbandon_alone {s u : State} {h : HandleIx} (freed : HandleFreed s u h)
    (alone : s.freedWith h = [h]) (settled : s.poolSettled) : FreedAlone s s h u.afterAbandon := by
  have pool := freed.pool_of_alone alone
  have handles := fun g (other : g ≠ h) => freed.handle_of_alone alone other
  have notices : u.notices = s.notices := by rw [freed.frame]
  have compaction : u.pool.compaction = s.pool.compaction := by rw [pool]
  have kept : (s.handle h).inMove = false → u.pool.move = s.pool.move := fun unmoved => by rw [pool, unmoved]; rfl
  have gone : (s.handle h).inMove = true → u.pool.move = none := fun moved => by rw [pool, moved]; rfl
  have same : (s.handle h).inMove = false → u.afterAbandon = u := fun unmoved =>
    State.afterAbandon_of_settled (State.poolSettled_of_fields (kept unmoved) compaction settled)
  constructor
  case still =>
    intro quiet
    cases moved : (s.handle h).inMove with
    | false =>
      rw [same moved]
      exact ⟨handles, notices⟩
    | true =>
      cases state : s.pool.compaction with
      | idle =>
        rw [State.afterAbandon_of_idle (compaction.trans state)]
        exact ⟨handles, notices⟩
      | stopping =>
        rw [State.afterAbandon_of_stopping (gone moved) (compaction.trans state)]
        exact ⟨handles, notices⟩
      | running => simp [moved, state] at quiet
  case unmoved =>
    intro unmoved
    rw [same unmoved, pool, unmoved]
    rfl
  case stopping =>
    intro moved state
    rw [State.afterAbandon_of_stopping (gone moved) (compaction.trans state), pool, moved]
    rfl
  case running =>
    intro moved state
    have run := compaction.trans state
    cases chosen : u.chooseMove with
    | some x =>
      obtain ⟨e, g⟩ := x
      rw [State.afterAbandon_goesOn (gone moved) run chosen]
      exact .inl ⟨run, rfl, notices⟩
    | none =>
      rw [State.afterAbandon_completes (gone moved) run chosen, pool, moved, notices]
      exact .inr ⟨rfl, rfl⟩

/-- The watch test changes none of what a free reads. -/
theorem FreedAlone.of_observed {s t : State} {r : RecordName} {h : HandleIx}
    (done : FreedAlone (s.observed r) (s.observed r) h t) : FreedAlone s (s.observed r) h t := by
  obtain ⟨still, unmoved, stopping, running⟩ := done
  simp only [State.handle_observed, State.pool_observed, State.baseOf_observed] at still unmoved stopping running
  exact ⟨still, unmoved, stopping, running⟩

/-- Settles O30: the loss of a reference, the move after a free, and the three ends of RETIRE. -/
theorem retireByStateAndCount : Obligations.RetireByStateAndCount := by
  unfold Obligations.RetireByStateAndCount
  refine ⟨fun s h apart => ⟨State.dropReference_of_stays s, State.dropReference_freed apart⟩,
    fun s => ⟨fun h => rfl, rfl, State.afterAbandon_of_still, State.afterAbandon_of_stopping, fun move running =>
      ⟨State.afterAbandon_completes move running, fun e h => State.afterAbandon_goesOn move running⟩⟩,
    fun s tag ref ready formed => ⟨?_, fun h ok stop => exec_retire_stopped ready rfl ok stop, fun h ok may => ?_⟩⟩
  · have fails : ∀ st, s.testNamed ref = .error st →
        exec (.retire ⟨tag, some ref⟩) s = .next (s.released.answered tag st []) :=
      fun st bad => exec_retire_error ready rfl formed bad
    have unnamed : ∀ st, s.refProfile ref = .error st →
        exec (.retire ⟨tag, some ref⟩) s = .next (s.released.answered tag st []) :=
      fun st bad => fails st (State.testNamed_error bad)
    refine ⟨fails, fun st bad => unnamed st (State.refProfile_error bad), fun n resolved =>
      ⟨fun other => unnamed _ ?_, fun cls outside => unnamed _ ?_, fun h cls number => ?_⟩⟩
    · rw [State.refProfile_of_resolve resolved, if_neg other]
    · rw [State.refProfile_of_resolve resolved, if_pos cls, State.nameHandle_outside _ outside]
    have names := State.refProfile_named resolved cls h number
    refine ⟨fun free => unnamed _ (names.trans (if_pos free)),
      fun inUse other => unnamed _ (names.trans ((if_neg inUse).trans (if_pos other))), fun inUse present => ?_⟩
    have named : s.refProfile ref = .ok h := names.trans ((if_neg inUse).trans (if_neg (not_not_intro present)))
    exact ⟨fun st busy => fails st (State.testNamed_busy named busy), fun free => State.testNamed_free named free⟩
  · intro w e answered
    refine ⟨exec_retire_referenced rfl ok may, exec_retire_retiring rfl ok may, fun live unreferenced stays => ?_,
      fun live unreferenced apart => ?_⟩
    · obtain ⟨u, freed, ran⟩ := exec_retire_freed (r := ⟨tag, some ref⟩) rfl ok may live unreferenced
        fun b base => (stays b base).1
      have alone : w.freedWith h = [h] := State.freedWith_of_stays fun b base => by
        rw [State.handle_observed]
        exact (stays b ((s.baseOf_observed _ h).symm.trans base)).2
      have done := (freed.afterAbandon_alone alone (s.poolSettled_observed may.settled _)).of_observed
      have entry := freed.handle_afterAbandon
      rw [State.handle_observed] at entry
      exact ⟨_, ran, entry, ⟨done.still, done.unmoved, done.stopping, done.running⟩, rfl⟩
    · obtain ⟨u, freed, ran⟩ := exec_retire_freed (r := ⟨tag, some ref⟩) rfl ok may live unreferenced apart
      exact ⟨u, _, freed, ran, rfl⟩

end Sys2Proof.Machine
end

section
/-! ### Content edits: the tests they share, and the feeds they queue (R35, R36, R61, R84, R85, R140) -/

namespace Sys2Proof.Machine

namespace State

variable {s : State} {r : RecordName}

/-! #### The feeds that reach a profile (R36, R140) -/

theorem reaches_iff {h : HandleIx} {o : Option Handle} : s.reaches h o = true ↔
    ∃ b, o = some b ∧ (b.ix = h ∨ ∃ c, s.baseOf b.ix = some c ∧ c.ix = h) := by
  cases o <;> simp [reaches]

theorem mem_feedsReaching {h : HandleIx} {f : FeedNo} : f ∈ s.feedsReaching h ↔
    ∃ b, ((s.feed f).binding = some b ∨ (s.feed f).overrideBinding = some b) ∧
      (b.ix = h ∨ ∃ c, s.baseOf b.ix = some c ∧ c.ix = h) := by
  rw [feedsReaching, List.mem_filter, Bool.or_eq_true, reaches_iff, reaches_iff, ← exists_or]
  simp only [allFeeds, List.mem_finRange, true_and, or_and_right]

theorem isOverrideProfile_iff {h : HandleIx} : s.isOverrideProfile h = true ↔
    ∃ f b, (s.feed f).overrideBinding = some b ∧ (b.ix = h ∨ ∃ c, s.baseOf b.ix = some c ∧ c.ix = h) := by
  simp only [isOverrideProfile, allFeeds, List.any_eq_true, List.mem_finRange, true_and, reaches_iff]

theorem nodup_feedsReaching (s : State) (h : HandleIx) : (s.feedsReaching h).Nodup :=
  (List.nodup_finRange 96).filter _

theorem baseOf_congr {t : State} (handles : t.handles = s.handles) (h : HandleIx) : t.baseOf h = s.baseOf h := by
  rw [baseOf, handle, handles, baseOf, handle]

theorem feedsReaching_congr {t : State} (feeds : t.feeds = s.feeds) (handles : t.handles = s.handles) (h : HandleIx) :
    t.feedsReaching h = s.feedsReaching h := by
  have reach : ∀ o, t.reaches h o = s.reaches h o := by
    intro o
    cases o with
    | none => rfl
    | some b => simp only [reaches, baseOf_congr handles]
  simp only [feedsReaching, feed, feeds, reach]

@[simp] theorem beforeEffect_feeds : (s.beforeEffect r).feeds = s.feeds := by simp [beforeEffect, observed]

@[simp] theorem beforeEffect_baseOf (h : HandleIx) : (s.beforeEffect r).baseOf h = s.baseOf h :=
  baseOf_congr beforeEffect_handles h

@[simp] theorem beforeEffect_feedsReaching (h : HandleIx) : (s.beforeEffect r).feedsReaching h = s.feedsReaching h :=
  feedsReaching_congr beforeEffect_feeds beforeEffect_handles h

/-! #### The tests (R35) -/

theorem requireContentFree_bind {α : Type} (s : State) (h : HandleIx) (rest : Unit → Except Status α) :
    (s.requireContentFree h >>= rest) =
      if s.locked = true ∧ s.isOverrideProfile h = true then .error .locked else rest () := by
  rw [requireContentFree, require_bind]
  cases s.locked <;> cases s.isOverrideProfile h <;> rfl

theorem requireNotRetiring_bind {α : Type} (s : State) (h : HandleIx) (rest : Unit → Except Status α) :
    (s.requireNotRetiring h >>= rest) = if (s.handle h).state = .retiring then .error .retiring else rest () := by
  rw [requireNotRetiring, require_ne_retiring]
  split <;> rfl

/-- The tests that the base of a record meets (R28, R30, R41). -/
theorem testBaseOf_eq (s : State) (tier : Tier) (own : Nat) (b : HandleIx) : s.testBaseOf tier own b =
    if (s.baseOf b).isSome = true then .error .tooDeep
    else if 16 < s.ownCount b + own then .error .tooManySections
    else if s.policyToProfile tier b = .refuse then .error .policyRefused
    else .ok () := by
  have limit : decide (s.ownCount b + own ≤ Config.maxComposed) = true ↔ ¬ 16 < s.ownCount b + own :=
    decide_eq_true_iff.trans Nat.not_lt.symm
  simp only [testBaseOf, hasBase, require_bind, require_ne, limit, ite_not]
  cases (s.baseOf b).isSome <;> rfl

/-! #### Several feeds queued (R84, R85) -/

theorem feed_queueFeeds_mem {fs : List FeedNo} (nodup : fs.Nodup) {f : FeedNo} (mem : f ∈ fs) :
    (s.queueFeeds fs).feed f = (s.feed f).queued := by
  induction fs generalizing s with
  | nil => cases mem
  | cons g fs ih =>
    rw [List.nodup_cons] at nodup
    rw [queueFeeds_cons]
    by_cases same : f = g
    · subst same
      rw [feed_queueFeeds_other _ nodup.1, feed_queueFeed]
      rfl
    · rw [ih nodup.2 ((List.mem_cons.mp mem).resolve_left same), feed_queueFeed_other _ same]

theorem queueFeeds_resolver (s : State) (fs : List FeedNo) : (s.queueFeeds fs).resolver = s.queuedAll fs := by
  induction fs generalizing s with
  | nil => rfl
  | cons f fs ih =>
    rw [queueFeeds_cons, ih]
    rfl

theorem queueFeeds_frame (s : State) (fs : List FeedNo) : s.queueFeeds fs =
    { s with feeds := (s.queueFeeds fs).feeds, resolver := (s.queueFeeds fs).resolver } := by
  induction fs generalizing s with
  | nil => rfl
  | cons f fs ih =>
    rw [queueFeeds_cons, ih]
    rfl

theorem queueFeeds_withFeedsOf (c t : State) (fs : List FeedNo) :
    (c.withFeedsOf t).queueFeeds fs = c.withFeedsOf (t.queueFeeds fs) := by
  induction fs generalizing t with
  | nil => rfl
  | cons f fs ih => exact ih (t.queueFeed f)

/-- `t` is the block once a content edit has been taken that queues the feeds `fs` and leaves the profiles as they stand in
`c` after the move that follows a free. -/
structure FeedsQueued (s w c t : State) (fs : List FeedNo) (tag : Byte) : Prop where
  queued : ∀ f, f ∈ fs → t.feed f = (s.feed f).queued
  others : ∀ f, f ∉ fs → t.feed f = s.feed f
  profiles : t.handles = c.afterAbandon.handles ∧ t.pool = c.afterAbandon.pool ∧ t.notices = c.afterAbandon.notices
  resolver : t.resolver = s.queuedAll fs
  port : t.port = s.portAnswered tag .ok []
  frame : t = { w with handles := t.handles, pool := t.pool, notices := t.notices, feeds := t.feeds
                       resolver := t.resolver, port := t.port, image := s.endWait.image }

theorem answered_queued (s c : State) (r : RecordName) {fs : List FeedNo} (nodup : fs.Nodup) (tag : Byte)
    (profiles : c = { s.observed r with handles := c.handles, pool := c.pool, notices := c.notices }) :
    FeedsQueued s (s.observed r) c
      ((c.withFeedsOf ((s.beforeEffect r).queueFeeds fs)).afterAbandon.endWait.answered tag .ok []) fs tag := by
  have feeds : ∀ f, (c.withFeedsOf ((s.beforeEffect r).queueFeeds fs)).feed f =
      ((s.beforeEffect r).queueFeeds fs).feed f := fun f => rfl
  have frame : c.withFeedsOf ((s.beforeEffect r).queueFeeds fs) = { s.beforeEffect r with
      feeds := ((s.beforeEffect r).queueFeeds fs).feeds, handles := c.handles, pool := c.pool
      deps := (s.beforeEffect r).deps, notices := c.notices
      resolver := ((s.beforeEffect r).queueFeeds fs).resolver } := by
    rw [profiles, queueFeeds_frame]
    rfl
  have resolver : (c.withFeedsOf ((s.beforeEffect r).queueFeeds fs)).resolver = s.queuedAll fs := by
    have base : (s.beforeEffect r).queuedAll fs = s.queuedAll fs := by rw [queuedAll, beforeEffect_resolver, queuedAll]
    exact ((s.beforeEffect r).queueFeeds_resolver fs).trans base
  have deps : (c.withFeedsOf ((s.beforeEffect r).queueFeeds fs)).deps = (s.observed r).deps := queueFeeds_deps ..
  rw [answered_taken (r := r) tag .ok [] (by rw [frame]), afterAbandon_withFeedsOf, resolver, deps]
  refine ⟨fun f mem => ?_, fun f out => ?_, ⟨rfl, rfl, rfl⟩, rfl, rfl, rfl⟩
  · exact (feed_queueFeeds_mem nodup mem).trans (by rw [beforeEffect_feed])
  · exact (feed_queueFeeds_other _ out).trans (beforeEffect_feed f)

theorem FeedsQueued.profiles_of_settled {w c t : State} {fs : List FeedNo} {tag : Byte}
    (done : FeedsQueued s w c t fs tag) (settled : c.poolSettled) :
    t.handles = c.handles ∧ t.pool = c.pool ∧ t.notices = c.notices := by
  have := done.profiles
  rwa [afterAbandon_of_settled settled] at this

/-! #### A content edit that does not wait (R61) -/

theorem editOrWait_now {ref : RecordRef} (still : s.editWaits ref = false) (edit : WaitingEdit) {u : State} {a : Answer}
    {now : State × Answer} (ran : now = (u, a)) : s.editOrWait ref edit now = (u, .answered a) := by
  rw [editOrWait, still, ran]
  rfl

end State

section

variable {s u : State} {tag : Byte} {a : Answer}

theorem exec_base_now {i : BaseItems} (ready : s.ready) (profile : accepts .profile i.profile = true)
    (base : accepts .profile i.base = true) (still : s.editWaits i.profile = false)
    (ran : s.released.requestBase i = (u, a)) :
    exec (.base ⟨tag, some i⟩) s = .next (u.answered tag a.status a.body) := by
  have formed : (accepts .profile i.profile && accepts .profile i.base) = true := by rw [profile, base]; rfl
  have served := serve_ready (⟨tag, some i⟩ : Request BaseItems)
    (fun i => accepts .profile i.profile && accepts .profile i.base)
    (fun i s => s.editOrWait i.profile (.base i) (s.requestBase i)) s ready rfl formed
  rw [State.editOrWait_now (s := s.released) still _ ran] at served
  exact congrArg Host.Outcome.next served

theorem exec_editSections_now {i : EditSectionsItems} (ready : s.ready) (profile : accepts .profile i.profile = true)
    (still : s.editWaits i.profile = false) (ran : s.released.requestEditSections i = (u, a)) :
    exec (.editSections ⟨tag, some i⟩) s = .next (u.answered tag a.status a.body) := by
  have served := serve_ready (⟨tag, some i⟩ : Request EditSectionsItems) (fun i => accepts .profile i.profile)
    (fun i s => s.editOrWait i.profile (.sections i) (s.requestEditSections i)) s ready rfl profile
  rw [State.editOrWait_now (s := s.released) still _ ran] at served
  exact congrArg Host.Outcome.next served

end

end Sys2Proof.Machine
end

section
/-! ### BASE: its tests (R28, R30, R35, R41, R42) -/

namespace Sys2Proof.Machine

theorem isNoBase_iff (ref : RecordRef) : isNoBase ref = true ↔ ∃ gen, ref = .numbered .profile 0 gen := by
  constructor
  · intro h
    unfold isNoBase at h
    split at h
    · exact ⟨_, rfl⟩
    · cases h
  · rintro ⟨gen, rfl⟩
    rfl

namespace State

variable {s : State} {i : BaseItems} {h : HandleIx}

theorem refBase_none {ref : RecordRef} (no : isNoBase ref = true) : s.refBase ref = .ok none := by
  rw [refBase, if_pos no]

theorem refBase_some {ref : RecordRef} (other : isNoBase ref = false) :
    s.refBase ref = (s.refProfile ref).map some := by
  rw [refBase, other]
  rfl

theorem isBase_iff : s.isBase h = true ↔ ∃ d, (s.baseOf d).map Handle.ix = some h := by
  rw [isBase, Bool.not_eq_true', List.isEmpty_eq_false_iff_exists_mem]
  simp only [derivedOf, List.mem_filter, allHandles, List.mem_finRange, true_and, decide_eq_true_iff]

/-- The checks that a new base meets, in order (R41). -/
theorem testNewBaseOf_some (s : State) (h x : HandleIx) : s.testNewBaseOf h (some x) =
    if (s.handle x).state = .retiring then .error .retiring
    else if x = h ∨ (∃ d, (s.baseOf d).map Handle.ix = some h) ∨ (s.baseOf x).isSome = true then .error .tooDeep
    else if 16 < s.ownCount x + s.ownCount h then .error .tooManySections
    else if s.policyToProfile (s.tierOf h) x = .refuse then .error .policyRefused
    else .ok () := by
  have plain : (decide (x ≠ h) && !s.isBase h) = true ↔ ¬ (x = h ∨ ∃ d, (s.baseOf d).map Handle.ix = some h) := by
    rw [← isBase_iff]
    simp
  simp only [testNewBaseOf, requireNotRetiring_bind, require_bind, plain, ite_not, testBaseOf_eq, ← or_assoc]
  by_cases deep : x = h ∨ ∃ d, (s.baseOf d).map Handle.ix = some h
  · simp only [deep, if_true, true_or]
  · simp only [deep, if_false, false_or]

theorem testBase_profile {st : Status} (bad : s.refProfile i.profile = .error st) : s.testBase i = .error st := by
  rw [testBase, bad, except_error_bind]

theorem testBase_base {st : Status} (named : s.refProfile i.profile = .ok h) (bad : s.refBase i.base = .error st) :
    s.testBase i = .error st := by
  rw [testBase, named, except_ok_bind, bad, except_error_bind]

variable {b : Option HandleIx}

theorem testBase_busy {st : Status} (named : s.refProfile i.profile = .ok h) (base : s.refBase i.base = .ok b)
    (busy : s.longOperation = some st) : s.testBase i = .error st := by
  rw [testBase, named, except_ok_bind, base, except_ok_bind, requireNoLongOperation_bind, busy]

theorem testBase_idle (named : s.refProfile i.profile = .ok h) (base : s.refBase i.base = .ok b)
    (free : s.longOperation = none) : s.testBase i =
      if s.locked = true ∧ s.isOverrideProfile h = true then .error .locked
      else if (s.handle h).state = .retiring then .error .retiring
      else (s.testNewBaseOf h b).map fun _ => ⟨h, b.map s.currentHandle⟩ := by
  rw [testBase, named, except_ok_bind, base, except_ok_bind, requireNoLongOperation_bind, free]
  simp only [requireContentFree_bind, requireNotRetiring_bind]
  cases s.testNewBaseOf h b <;> rfl

/-! ### BASE: its effect (R33, R36, R41, R42, R69) -/

/-- The Handle Table with the base of `h` written (R41, R42). -/
def baseStored (s : State) (h : HandleIx) (base : Option Handle) : Table HandleEntry 255 :=
  s.handles.upd h { s.handle h with record := (s.handle h).record.map fun r => { r with base := base } }

/-- The same, the new base counted (R33). -/
def baseCounted (s : State) (h : HandleIx) (base : Option Handle) : Table HandleEntry 255 :=
  match base with
  | some b => (s.baseStored h base).upd b.ix
      { (s.baseStored h base).get b.ix with refCount := ((s.baseStored h base).get b.ix).refCount + 1 }
  | none => s.baseStored h base

/-- The notices of `w` once the policy outcome of a new base of `h` has been reported (R69). -/
def baseNoted (s w : State) (h : HandleIx) (base : Option Handle) : Notices :=
  match base with
  | some b => w.noted (s.policyToProfile (s.tierOf h) b.ix) ⟨.profile (s.currentHandle h), .profile b, .base⟩
  | none => w.notices

theorem get_baseStored (s : State) (h : HandleIx) (base : Option Handle) (g : HandleIx) :
    (s.baseStored h base).get g = { s.handle g with
      record := if g = h then (s.handle g).record.map fun r => { r with base := base } else (s.handle g).record } := by
  rw [baseStored, Table.get_upd]
  split
  · next same => rw [same]
  · rfl

theorem get_baseCounted (s : State) (h : HandleIx) (base : Option Handle) (g : HandleIx) :
    (s.baseCounted h base).get g = { s.handle g with
      refCount := (s.handle g).refCount + (if namesHandle g base then 1 else 0)
      record := if g = h then (s.handle g).record.map fun r => { r with base := base } else (s.handle g).record } := by
  cases base with
  | none => exact s.get_baseStored h none g
  | some b =>
    rw [baseCounted, Table.get_upd]
    by_cases same : g = b.ix
    · simp [same, get_baseStored, namesHandle]
    · simp [same, Ne.symm same, get_baseStored, namesHandle]

theorem get_lowered (s : State) (old : Option Handle) (g : HandleIx) : (s.lowered old).get g =
    { s.handle g with refCount := (s.handle g).refCount - if namesHandle g old then 1 else 0 } := by
  cases old with
  | none => rfl
  | some b =>
    rw [lowered, Table.get_upd]
    by_cases same : g = b.ix
    · simp [same, namesHandle]
    · simp [same, Ne.symm same, namesHandle]
      rfl

/-- The outcome of a tier policy reads a profile's tier alone. -/
theorem policyToProfile_eq (s : State) (tier : Tier) (h : HandleIx) : s.policyToProfile tier h =
    (((s.handle h).record.map ProfileRecord.tier).map (s.policyFor tier)).getD .allow := by
  unfold policyToProfile
  cases (s.handle h).record <;> rfl

theorem tierOf_eq (s : State) (h : HandleIx) :
    s.tierOf h = ((s.handle h).record.map ProfileRecord.tier).getD .programme := by
  unfold tierOf
  cases (s.handle h).record <;> rfl

/-- Writing a base changes no tier. -/
theorem tier_storeBase (s : State) (h : HandleIx) (base : Option Handle) (g : HandleIx) :
    ((s.storeBase h base).handle g).record.map ProfileRecord.tier = (s.handle g).record.map ProfileRecord.tier := by
  have entry : (s.storeBase h base).handle g = (s.baseStored h base).get g := rfl
  rw [entry, get_baseStored]
  dsimp only
  split
  · cases (s.handle g).record <;> rfl
  · rfl

theorem currentHandle_storeBase (s : State) (h : HandleIx) (base : Option Handle) :
    (s.storeBase h base).currentHandle h = s.currentHandle h := by
  rw [currentHandle, storeBase, handle_setHandle, currentHandle]

theorem changeBase_eq (s : State) (h : HandleIx) (old base : Option Handle) :
    (s.storeBase h base).changeBaseReference h old base =
      s.droppedFrom (s.baseCounted h base) old (s.baseNoted s h base) := by
  cases base with
  | none => exact dropOptional_eq (s.storeBase h none) old
  | some b =>
    have outcome : (s.storeBase h (some b)).policyToProfile ((s.storeBase h (some b)).tierOf h) b.ix =
        s.policyToProfile (s.tierOf h) b.ix := by
      simp only [policyToProfile_eq, tierOf_eq, tier_storeBase]
      rfl
    have notices : ((s.storeBase h (some b)).replaceReference old b.ix).notices = s.notices :=
      replaceReference_notices ..
    rw [changeBaseReference, outcome, currentHandle_storeBase, notifyPolicy_eq, notices]
    exact replaceReference_eq (s.storeBase h (some b)) old b.ix _

end State

end Sys2Proof.Machine
end

section
/-! ### BASE: its ends (R33, R34, R36, R41, R42, R62, R145, R146) -/

namespace Sys2Proof.Machine

namespace State

variable {s : State} {r : RecordName}

theorem beforeEffect_tierOf (h : HandleIx) : (s.beforeEffect r).tierOf h = s.tierOf h := by
  rw [tierOf_eq, beforeEffect_handle, tierOf_eq]

theorem beforeEffect_baseStored (h : HandleIx) (base : Option Handle) :
    (s.beforeEffect r).baseStored h base = s.baseStored h base := by
  rw [baseStored, beforeEffect_handles, beforeEffect_handle, baseStored]

theorem beforeEffect_baseCounted (h : HandleIx) (base : Option Handle) :
    (s.beforeEffect r).baseCounted h base = s.baseCounted h base := by
  simp only [baseCounted, beforeEffect_baseStored]

theorem beforeEffect_baseNoted (h : HandleIx) (base : Option Handle) :
    (s.beforeEffect r).baseNoted (s.beforeEffect r) h base = s.baseNoted (s.observed r) h base := by
  cases base with
  | none => rfl
  | some b =>
    simp only [baseNoted, beforeEffect_policyToProfile, beforeEffect_tierOf, beforeEffect_currentHandle]
    rfl

/-- The profiles once a BASE has been taken, before the move that may follow (R33, R41, R42). -/
def rebased (s : State) (p : BasePlan) : State :=
  (s.observed (.profile (s.currentHandle p.handle))).droppedFrom (s.baseCounted p.handle p.base) (s.baseOf p.handle)
    (s.baseNoted (s.observed (.profile (s.currentHandle p.handle))) p.handle p.base)

theorem applyBase_beforeEffect (s : State) (p : BasePlan) :
    (s.beforeEffect (.profile (s.currentHandle p.handle))).applyBase p = (s.rebased p).withFeedsOf
      ((s.beforeEffect (.profile (s.currentHandle p.handle))).queueFeeds (s.feedsReaching p.handle)) := by
  have dropped := droppedFrom_withFeedsOf (s.observed (.profile (s.currentHandle p.handle)))
    (s.beforeEffect (.profile (s.currentHandle p.handle))) (s.baseCounted p.handle p.base) (s.baseOf p.handle)
    (s.baseNoted (s.observed (.profile (s.currentHandle p.handle))) p.handle p.base)
  rw [← beforeEffect_eq] at dropped
  rw [applyBase, changeBase_eq, beforeEffect_baseCounted, beforeEffect_baseNoted, beforeEffect_baseOf,
    beforeEffect_feedsReaching, dropped, queueFeeds_withFeedsOf, rebased]

theorem answered_rebased (s : State) (p : BasePlan) (tag : Byte) :
    FeedsQueued s (s.observed (.profile (s.currentHandle p.handle))) (s.rebased p)
      (((s.beforeEffect (.profile (s.currentHandle p.handle))).applyBase p).afterAbandon.endWait.answered tag .ok [])
      (s.feedsReaching p.handle) tag := by
  rw [applyBase_beforeEffect]
  exact s.answered_queued _ _ (s.nodup_feedsReaching p.handle) tag (droppedFrom_frame ..)

theorem get_loweredFrom (w : State) (table : Table HandleEntry 255) (old : Option Handle) (g : HandleIx) :
    (({ w with handles := table } : State).lowered old).get g =
      { table.get g with refCount := (table.get g).refCount - if namesHandle g old then 1 else 0 } :=
  get_lowered { w with handles := table } old g

/-- Where the former base stays, BASE changes the two counts and the record of its profile (R33). -/
theorem rebased_of_stays {p : BasePlan} (stays : s.Stays (s.baseOf p.handle)) :
    (∀ g, (s.rebased p).handle g = { s.handle g with
      refCount := (s.handle g).refCount + (if namesHandle g p.base then 1 else 0) -
        (if namesHandle g (s.baseOf p.handle) then 1 else 0)
      record := if g = p.handle then (s.handle g).record.map fun r => { r with base := p.base }
        else (s.handle g).record }) ∧
    (s.rebased p).pool = s.pool ∧
    (s.rebased p).notices = s.baseNoted (s.observed (.profile (s.currentHandle p.handle))) p.handle p.base := by
  have entry := s.get_baseCounted p.handle p.base
  rw [rebased, droppedFrom_of_stays]
  · refine ⟨fun g => ?_, s.pool_observed _, rfl⟩
    have counts := get_loweredFrom (s.observed (.profile (s.currentHandle p.handle))) (s.baseCounted p.handle p.base)
      (s.baseOf p.handle) g
    rw [entry] at counts
    exact counts
  · intro b former
    show ((s.baseCounted p.handle p.base).get b.ix).state = .live ∨ 2 ≤ ((s.baseCounted p.handle p.base).get b.ix).refCount
    rw [entry]
    exact (stays b former).imp id fun many => Nat.le_add_right_of_le many

end State

section

variable {s : State} {tag : Byte} {i : BaseItems} {p : BasePlan}

theorem requestBase_error {st : Status} (bad : s.testBase i = .error st) :
    s.released.requestBase i = (s.released, refusal st) := by
  rw [State.requestBase, State.testBase_released, bad]
  rfl

theorem requestBase_stopped (ok : s.testBase i = .ok p)
    (stop : s.stops .portChange (.profile (s.currentHandle p.handle)) = true) : s.released.requestBase i =
      (s.released.observed (.profile (s.currentHandle p.handle)), refusal .watched) := by
  rw [State.requestBase, State.testBase_released, ok,
    State.takeChange_released_stopped
      (fun p : BasePlan => .profile (s.released.currentHandle p.handle)) (fun p s => s.applyBase p) p stop]
  rfl

theorem requestBase_taken (ok : s.testBase i = .ok p)
    (unstopped : s.stops .portChange (.profile (s.currentHandle p.handle)) = false) : s.released.requestBase i =
      (((s.beforeEffect (.profile (s.currentHandle p.handle))).applyBase p).afterAbandon.endWait, okBody []) := by
  rw [State.requestBase, State.testBase_released, ok,
    State.takeChange_released_taken
      (fun p : BasePlan => .profile (s.released.currentHandle p.handle)) (fun p s => s.applyBase p) p unstopped]
  rfl

end

/-- Settles O27: the tests of BASE in their order, the watch, and the base and counts that a taken one leaves. -/
theorem baseStored : Obligations.BaseStored := by
  unfold Obligations.BaseStored
  refine ⟨isNoBase_iff, fun s i => ⟨fun st bad => State.testBase_profile bad, fun h named => ⟨fun st other bad => ?_,
    fun b yields => ?_⟩⟩, fun s tag i ready profile base still => ⟨fun st bad => ?_, fun p ok stop => ?_,
    fun p ok may => ?_⟩⟩
  · refine State.testBase_base named ?_
    rw [State.refBase_some other, bad]
    rfl
  · have base : s.refBase i.base = .ok b := by
      rcases yields with ⟨no, rfl⟩ | ⟨other, x, hx, rfl⟩
      · exact State.refBase_none no
      · rw [State.refBase_some other, hx]
        rfl
    refine ⟨fun st busy => State.testBase_busy named base busy, fun free => ?_⟩
    rw [State.testBase_idle named base free]
    cases b with
    | none => rfl
    | some x =>
      simp only [State.testNewBaseOf_some]
      split_ifs <;> rfl
  · exact exec_base_now ready profile base still (requestBase_error bad)
  · exact exec_base_now ready profile base still (requestBase_stopped ok stop)
  · intro w former
    have done := s.answered_rebased p tag
    refine ⟨_, exec_base_now ready profile base still (requestBase_taken ok may.unstopped), fun stays => ?_,
      done.profiles, done.queued, done.others, done.resolver, done.port, done.frame⟩
    obtain ⟨entries, pool, notices⟩ := State.rebased_of_stays (p := p) stays
    obtain ⟨table, kept, noted⟩ := done.profiles_of_settled (State.poolSettled_congr pool may.settled)
    refine ⟨fun g => ?_, kept.trans pool, noted.trans notices⟩
    exact (congrArg (Table.get · g) table).trans (entries g)

end Sys2Proof.Machine
end

section
/-! ### The free extent list, extent by extent (R52, R53, R54, R55) -/

namespace Sys2Proof.Machine

theorem takeAt_none {offset : Nat} (k : Nat) {free : List Extent} (elsewhere : ∀ e ∈ free, e.offset ≠ offset) :
    takeAt offset k free = none := by
  have skipped := takeAt_skip offset k free [] elsewhere
  rwa [List.append_nil] at skipped

/-- Growth in place takes the first words of the extent that begins just above (R55). -/
theorem takeAt_found {offset k : Nat} {before after : List Extent} {e : Extent} (low : ∀ x ∈ before, x.offset ≠ offset)
    (here : e.offset = offset) : takeAt offset k (before ++ e :: after) =
      if k ≤ e.len then some (before ++ (if e.len = k then [] else [⟨offset + k, e.len - k⟩]) ++ after) else none := by
  subst here
  rw [takeAt_skip _ _ _ _ low, takeAt, if_pos rfl]
  by_cases room : k ≤ e.len
  · rw [if_pos room, if_pos room]
    by_cases whole : e.len = k <;> simp [whole]
  · rw [if_neg room, if_neg room]
    rfl

theorem firstFit_none {n : Nat} {free : List Extent} (short : ∀ e ∈ free, e.len < n) : firstFit n free = none := by
  have skipped := firstFit_skip n free [] short
  rwa [List.append_nil] at skipped

/-- First-fit takes the first words of the lowest extent that is long enough (R53). -/
theorem firstFit_found {n : Nat} {before after : List Extent} {e : Extent} (short : ∀ x ∈ before, x.len < n)
    (room : n ≤ e.len) : firstFit n (before ++ e :: after) = some (⟨e.offset, n⟩,
      before ++ (if e.len = n then [] else [⟨e.offset + n, e.len - n⟩]) ++ after) := by
  rw [firstFit_skip _ _ _ short, firstFit, if_pos room]
  by_cases whole : e.len = n <;> simp [whole]

/-! #### The return of an extent (R52) -/

section

variable {x : Extent} {before after : List Extent}

/-- Returned words that adjoin no extent above stand as an extent of their own below it. -/
theorem giveBack_below (apart : ∀ e ∈ after, x.offset + x.len < e.offset) : giveBack x after = x :: after := by
  cases after with
  | nil => rfl
  | cons e high =>
    have gap := apart e (List.mem_cons_self ..)
    rw [giveBack_cons, if_neg (by omega), if_pos (by omega)]

/-- Returned words that end where an extent begins. -/
theorem giveBack_meets_above {e : Extent} (meets : x.offset + x.len = e.offset) (high : List Extent) :
    giveBack x (e :: high) = ⟨x.offset, x.len + e.len⟩ :: high := by
  rw [giveBack_cons, if_pos meets]

/-- Returned words that begin where an extent ends, and adjoin none above. -/
theorem giveBack_meets_below {e : Extent} (nonempty : 1 ≤ x.len) (meets : e.offset + e.len = x.offset)
    (apart : ∀ n ∈ after, x.offset + x.len ≠ n.offset) :
    giveBack x (e :: after) = ⟨e.offset, e.len + x.len⟩ :: after := by
  rw [giveBack_cons, if_neg (by omega), if_neg (by omega), if_pos meets]
  cases after with
  | nil => rfl
  | cons n high => exact if_neg (apart n (List.mem_cons_self ..))

/-- Returned words between two extents that they adjoin. -/
theorem giveBack_meets_both {e n : Extent} (nonempty : 1 ≤ x.len) (below : e.offset + e.len = x.offset)
    (above : x.offset + x.len = n.offset) (high : List Extent) :
    giveBack x (e :: n :: high) = ⟨e.offset, e.len + x.len + n.len⟩ :: high := by
  rw [giveBack_cons, if_neg (by omega), if_neg (by omega), if_pos below]
  exact if_pos above

/-- Extents that end below the returned one, and do not adjoin it, are passed over. -/
theorem giveBack_pass (sound : freeListSound (before ++ after)) (nonempty : 1 ≤ x.len)
    (low : ∀ e ∈ before, e.offset + e.len ≤ x.offset) (apart : ∀ e ∈ before, e.offset + e.len ≠ x.offset)
    (rest : List Extent) : giveBack x (before ++ rest) = before ++ giveBack x rest :=
  giveBack_skip x before rest nonempty fun e mem =>
    ⟨sound.1 e (List.mem_append_left _ mem), lt_of_le_of_ne (low e mem) (apart e mem)⟩

/-- Below an extent that the returned one adjoins, every other ends farther down. -/
theorem apart_of_last {low : List Extent} {e : Extent} (sound : freeListSound ((low ++ [e]) ++ after))
    (meets : e.offset + e.len = x.offset) : ∀ y ∈ low, y.offset + y.len ≠ x.offset := by
  intro y mem
  have order := (List.pairwise_append.mp (List.pairwise_append.mp sound.2).1).2.2 y mem e (List.mem_singleton_self e)
  omega

end

/-! #### The resize of a record (R54, R55) -/

/-- A record has room for `n` words where it lies, just above, or elsewhere. -/
def hasRoom (x : Extent) (n : Nat) (free : List Extent) : Prop :=
  n ≤ x.len ∨ (takeAt (x.offset + x.len) (n - x.len) free).isSome = true ∨ (firstFit n free).isSome = true

theorem resize_of_room {x : Extent} {n : Nat} {free : List Extent} (room : hasRoom x n free) :
    ∃ y, resize x n free = .ok y := by
  unfold resize
  by_cases short : n ≤ x.len
  · exact ⟨_, if_pos short⟩
  rw [if_neg short]
  cases above : takeAt (x.offset + x.len) (n - x.len) free with
  | some rest => exact ⟨_, rfl⟩
  | none =>
    cases fit : firstFit n free with
    | some y => exact ⟨_, rfl⟩
    | none => simp [hasRoom, short, above, fit] at room

theorem resize_of_noRoom {x : Extent} {n : Nat} {free : List Extent} (full : ¬ hasRoom x n free) :
    resize x n free = .error (if (free.map Extent.len).sum < n - x.len then .noSpace else .fragmented) := by
  simp only [hasRoom, not_or, Bool.not_eq_true, Option.isSome_eq_false_iff, Option.isNone_iff_eq_none] at full
  obtain ⟨long, above, fit⟩ := full
  rw [resize, if_neg long, above, fit]
  rfl

/-- Where a resized record lies, and the free list after it. -/
theorem resize_ok {x y : Extent} {n : Nat} {free rest : List Extent} (ok : resize x n free = .ok (y, rest)) :
    (n = x.len → y = x ∧ rest = free) ∧
    (n < x.len → y = ⟨x.offset, n⟩ ∧ rest = giveBack ⟨x.offset + n, x.len - n⟩ free) ∧
    (x.len < n → (y = ⟨x.offset, n⟩ ∧ takeAt (x.offset + x.len) (n - x.len) free = some rest) ∨
      (takeAt (x.offset + x.len) (n - x.len) free = none ∧
        ∃ left, firstFit n free = some (y, left) ∧ rest = giveBack x left)) := by
  unfold resize at ok
  refine ⟨fun same => ?_, fun short => ?_, fun long => ?_⟩
  · subst same
    rw [if_pos le_rfl, if_pos rfl] at ok
    cases ok
    exact ⟨rfl, rfl⟩
  · rw [if_pos short.le, if_neg short.ne] at ok
    cases ok
    exact ⟨rfl, rfl⟩
  · rw [if_neg (Nat.not_le.mpr long)] at ok
    cases above : takeAt (x.offset + x.len) (n - x.len) free with
    | some left =>
      rw [above] at ok
      cases ok
      exact .inl ⟨rfl, rfl⟩
    | none =>
      rw [above] at ok
      cases fit : firstFit n free with
      | some z =>
        obtain ⟨z, left⟩ := z
        rw [fit] at ok
        cases ok
        exact .inr ⟨rfl, left, rfl, rfl⟩
      | none =>
        rw [fit] at ok
        cases ok

end Sys2Proof.Machine
end

section
/-! ### EDIT SECTIONS (R26, R30, R35, R36, R40, R54, R55, R62, R145, R146) -/

namespace Sys2Proof.Machine

/-! #### The tests (R35) -/

/-- The limits of an own list (R26). -/
def SectionsAllowed (es : List EqSection) : Prop :=
  es.length ≤ 12 ∧ ∀ x ∈ es,
    20 ≤ x.frequency ∧ x.frequency ≤ 20000 ∧ -240 ≤ x.gain ∧ x.gain ≤ 120 ∧ 30 ≤ x.width ∧ x.width ≤ 1600

theorem sectionInRange_iff {x : EqSection} : sectionInRange x = true ↔
    20 ≤ x.frequency ∧ x.frequency ≤ 20000 ∧ -240 ≤ x.gain ∧ x.gain ≤ 120 ∧ 30 ≤ x.width ∧ x.width ≤ 1600 := by
  simp only [sectionInRange, inRangeInt, Bool.and_eq_true, decide_eq_true_eq, and_assoc]

theorem sectionsInRange_iff {es : List EqSection} : sectionsInRange es = true ↔ SectionsAllowed es := by
  have limit : decide (es.length ≤ Config.maxOwn) = true ↔ es.length ≤ 12 := decide_eq_true_iff
  rw [sectionsInRange, Bool.and_eq_true, limit, List.all_eq_true]
  simp only [sectionInRange_iff, SectionsAllowed]

namespace State

variable {s : State} {i : EditSectionsItems} {h : HandleIx}

/-- A list of `n` own sections keeps every composed profile that `h` is part of to 16 (R30). -/
def SectionsFit (s : State) (h : HandleIx) (n : Nat) : Prop :=
  (∀ b, s.baseOf h = some b → s.ownCount b.ix + n ≤ 16) ∧
    ∀ d b, s.baseOf d = some b → b.ix = h → n + s.ownCount d ≤ 16

theorem mem_derivedOf {d : HandleIx} : d ∈ s.derivedOf h ↔ ∃ b, s.baseOf d = some b ∧ b.ix = h := by
  simp only [derivedOf, allHandles, List.mem_filter, List.mem_finRange, true_and, decide_eq_true_eq, Option.map_eq_some_iff]

theorem sectionsFit_iff {n : Nat} : s.sectionsFit h n = true ↔ s.SectionsFit h n := by
  have limit : ∀ k, decide (k ≤ Config.maxComposed) = true ↔ k ≤ 16 := fun k => decide_eq_true_iff
  have derived : (s.derivedOf h).all (fun d => n + s.ownCount d ≤ Config.maxComposed) = true ↔
      ∀ d b, s.baseOf d = some b → b.ix = h → n + s.ownCount d ≤ 16 := by
    simp only [List.all_eq_true, limit, mem_derivedOf]
    exact ⟨fun all d b base same => all d ⟨b, base, same⟩, fun all d ⟨b, base, same⟩ => all d b base same⟩
  rw [sectionsFit, Bool.and_eq_true, derived, SectionsFit]
  cases s.baseOf h with
  | none => simp
  | some b => simp [limit]

theorem testEditSections_badValue (bad : ¬ SectionsAllowed i.sections) : s.testEditSections i = .error .badValue := by
  rw [testEditSections, require_bind, if_neg (mt sectionsInRange_iff.mp bad)]

theorem testEditSections_profile {st : Status} (allowed : SectionsAllowed i.sections)
    (bad : s.refProfile i.profile = .error st) : s.testEditSections i = .error st := by
  rw [testEditSections, require_bind, if_pos (sectionsInRange_iff.mpr allowed), bad, except_error_bind]

theorem testEditSections_busy {st : Status} (allowed : SectionsAllowed i.sections)
    (named : s.refProfile i.profile = .ok h) (busy : s.longOperation = some st) :
    s.testEditSections i = .error st := by
  rw [testEditSections, require_bind, if_pos (sectionsInRange_iff.mpr allowed), named, except_ok_bind,
    requireNoLongOperation_bind, busy]

/-- The plan of an EDIT SECTIONS of `h` whose record would lie as `words` says. -/
def editPlan (h : HandleIx) (words : Except Status (Extent × List Extent)) : Except Status EditPlan :=
  words.map fun w => ⟨h, w.1, w.2⟩

theorem testEditSections_idle (allowed : SectionsAllowed i.sections) (named : s.refProfile i.profile = .ok h)
    (idle : s.longOperation = none) : s.testEditSections i =
      if s.locked = true ∧ s.isOverrideProfile h = true then .error .locked
      else if (s.handle h).state = .retiring then .error .retiring
      else if s.sectionsFit h i.sections.length = true then
        editPlan h (resize ((s.handle h).extent.getD ⟨0, 0⟩) (4 + 2 * i.sections.length) s.pool.free)
      else .error .tooManySections := by
  rw [testEditSections, require_bind, if_pos (sectionsInRange_iff.mpr allowed), named, except_ok_bind,
    requireNoLongOperation_bind, idle]
  simp only [requireContentFree_bind, requireNotRetiring_bind, require_bind]
  rfl

/-- What a tested EDIT SECTIONS would store (R40, R54, R55). -/
theorem testEditSections_ok {p : EditPlan} (ok : s.testEditSections i = .ok p) :
    resize ((s.handle p.handle).extent.getD ⟨0, 0⟩) (4 + 2 * i.sections.length) s.pool.free =
      .ok (p.extent, p.free) := by
  simp only [testEditSections, except_bind_ok] at ok
  obtain ⟨-, -, h, -, -, -, -, -, -, -, -, -, ⟨x, free⟩, words, made⟩ := ok
  cases made
  exact words

/-! #### What a taken one leaves (R36, R40) -/

/-- The profiles once an EDIT SECTIONS has been taken (R40). -/
def sectionsEdited (s : State) (sections : List EqSection) (p : EditPlan) : State :=
  { s.observed (.profile (s.currentHandle p.handle)) with
    handles := s.handles.upd p.handle
      { s.handle p.handle with
        extent := some p.extent
        record := (s.handle p.handle).record.map fun r => { r with sections := sections } }
    pool := { s.pool with free := p.free } }

theorem applyEditSections_beforeEffect (s : State) (sections : List EqSection) (p : EditPlan) :
    (s.beforeEffect (.profile (s.currentHandle p.handle))).applyEditSections sections p =
      (s.sectionsEdited sections p).withFeedsOf
        ((s.beforeEffect (.profile (s.currentHandle p.handle))).queueFeeds (s.feedsReaching p.handle)) := by
  rw [applyEditSections, beforeEffect_handle, beforeEffect_feedsReaching, ← queueFeeds_withFeedsOf]
  congr 1
  rw [beforeEffect_eq]
  simp only [setHandle, sectionsEdited, withFeedsOf, handles_observed, pool_observed]

theorem answered_sectionsEdited (s : State) (sections : List EqSection) (p : EditPlan) (tag : Byte) :
    FeedsQueued s (s.observed (.profile (s.currentHandle p.handle))) (s.sectionsEdited sections p)
      (((s.beforeEffect (.profile (s.currentHandle p.handle))).applyEditSections sections p).afterAbandon.endWait.answered
        tag .ok []) (s.feedsReaching p.handle) tag := by
  rw [applyEditSections_beforeEffect]
  exact s.answered_queued _ _ (s.nodup_feedsReaching p.handle) tag rfl

end State

section

variable {s : State} {tag : Byte} {i : EditSectionsItems} {p : EditPlan}

theorem requestEditSections_error {st : Status} (bad : s.testEditSections i = .error st) :
    s.released.requestEditSections i = (s.released, refusal st) := by
  rw [State.requestEditSections, State.testEditSections_released, bad]
  rfl

theorem requestEditSections_stopped (ok : s.testEditSections i = .ok p)
    (stop : s.stops .portChange (.profile (s.currentHandle p.handle)) = true) : s.released.requestEditSections i =
      (s.released.observed (.profile (s.currentHandle p.handle)), refusal .watched) := by
  rw [State.requestEditSections, State.testEditSections_released, ok,
    State.takeChange_released_stopped (fun p : EditPlan => .profile (s.released.currentHandle p.handle))
      (fun p s => s.applyEditSections i.sections p) p stop]
  rfl

theorem requestEditSections_taken (ok : s.testEditSections i = .ok p)
    (unstopped : s.stops .portChange (.profile (s.currentHandle p.handle)) = false) :
    s.released.requestEditSections i =
      (((s.beforeEffect (.profile (s.currentHandle p.handle))).applyEditSections i.sections p).afterAbandon.endWait,
        okBody []) := by
  rw [State.requestEditSections, State.testEditSections_released, ok,
    State.takeChange_released_taken (fun p : EditPlan => .profile (s.released.currentHandle p.handle))
      (fun p s => s.applyEditSections i.sections p) p unstopped]
  rfl

end

/-- Settles O26: the free list's rules, the tests of EDIT SECTIONS in their order, the watch, and the list, extent and
queued feeds that a taken one leaves. -/
theorem sectionsReplaced : Obligations.SectionsReplaced := by
  unfold Obligations.SectionsReplaced
  refine ⟨fun offset k free => ⟨takeAt_none k, ?_⟩, fun x before after sound nonempty below above => ⟨?_, ?_, ?_, ?_⟩,
    fun s h => ⟨State.isOverrideProfile_iff, fun f => State.mem_feedsReaching⟩,
    fun s i => ⟨State.testEditSections_badValue, fun allowed st => State.testEditSections_profile allowed,
      fun allowed h named => ⟨fun st => State.testEditSections_busy allowed named, fun idle => ?_⟩⟩,
    fun s tag i ready profile still => ⟨fun st bad => ?_, fun p ok stop => ?_, fun p ok may => ⟨?_, ?_⟩⟩⟩
  · rintro before e after rfl low here
    exact takeAt_found low here
  · intro noneBelow noneAbove
    rw [giveBack_pass sound nonempty below noneBelow,
      giveBack_below fun e mem => lt_of_le_of_ne (above e mem) (noneAbove e mem)]
  · rintro low e rfl meets noneAbove
    have passed := giveBack_pass (x := x) (before := low) (after := e :: after) (by simpa using sound) nonempty
      (fun y mem => below y (List.mem_append_left _ mem)) (apart_of_last sound meets) (e :: after)
    rw [List.append_assoc, List.singleton_append, passed, giveBack_meets_below nonempty meets noneAbove]
  · rintro e high rfl noneBelow meets
    rw [giveBack_pass sound nonempty below noneBelow, giveBack_meets_above meets]
  · rintro low e e' high rfl rfl meets meets'
    have passed := giveBack_pass (x := x) (before := low) (after := e :: e' :: high) (by simpa using sound) nonempty
      (fun y mem => below y (List.mem_append_left _ mem)) (apart_of_last sound meets) (e :: e' :: high)
    rw [List.append_assoc, List.singleton_append, passed, giveBack_meets_both nonempty meets meets']
  · rw [State.testEditSections_idle allowed named idle]
    refine ⟨fun locked guarded => if_pos ⟨locked, guarded⟩, fun content => ?_⟩
    have unlocked : ¬ (s.locked = true ∧ s.isOverrideProfile h = true) := by
      rintro ⟨locked, guarded⟩
      rcases content with off | off
      · exact Bool.noConfusion (locked.symm.trans off)
      · exact Bool.noConfusion (guarded.symm.trans off)
    rw [if_neg unlocked]
    refine ⟨fun retiring => if_pos retiring, fun present => ?_⟩
    rw [if_neg present]
    refine ⟨fun many => if_neg (mt State.sectionsFit_iff.mp many), fun fits x extent => ?_⟩
    rw [if_pos (State.sectionsFit_iff.mpr fits), extent]
    refine ⟨fun room => ?_, fun full => ?_⟩
    · obtain ⟨y, ok⟩ := resize_of_room room
      exact ⟨_, congrArg (State.editPlan h) ok, rfl⟩
    · exact congrArg (State.editPlan h) (resize_of_noRoom full)
  · exact exec_editSections_now ready profile still (requestEditSections_error bad)
  · exact exec_editSections_now ready profile still (requestEditSections_stopped ok stop)
  · intro x extent
    have words := State.testEditSections_ok ok
    rw [extent] at words
    exact resize_ok words
  · have done := s.answered_sectionsEdited i.sections p tag
    have ran := exec_editSections_now (tag := tag) ready profile still (requestEditSections_taken ok may.unstopped)
    obtain ⟨table, pool, notices⟩ := done.profiles_of_settled (State.poolSettled_of_fields rfl rfl may.settled)
    refine ⟨_, ran, ?_, fun g other => ?_, pool, done.queued, done.others, done.resolver, done.port, ?_⟩
    · exact (congrArg (Table.get · p.handle) table).trans (Table.get_upd_same ..)
    · exact (congrArg (Table.get · g) table).trans (Table.get_upd_other _ _ other)
    · exact done.frame.trans (by rw [notices]; rfl)

end Sys2Proof.Machine
end

section
/-! ### CREATE PROFILE and CLONE: their tests (R25, R26, R27, R35, R37, R38, R53) -/

namespace Sys2Proof.Machine

/-- The limits of a profile's content (R25, R26, R27). -/
def ContentAllowed (c : ProfileContent) : Prop :=
  (∀ x, c.latencyTrim = some x → 0 ≤ x ∧ x ≤ 7680) ∧ -600 ≤ c.gainTrim ∧ c.gainTrim ≤ 120 ∧ SectionsAllowed c.sections

theorem trimInRange_iff {trim : Option Int} : trimInRange trim = true ↔ ∀ x, trim = some x → 0 ≤ x ∧ x ≤ 7680 := by
  cases trim <;> simp [trimInRange, inRangeInt]

theorem contentInRange_iff {c : ProfileContent} : contentInRange c = true ↔ ContentAllowed c := by
  simp only [contentInRange, gainTrimInRange, inRangeInt, Bool.and_eq_true, trimInRange_iff, sectionsInRange_iff,
    decide_eq_true_eq, and_assoc, ContentAllowed]

/-- The record that a content makes, with its base (R37). -/
def newRecord (c : ProfileContent) (base : Option Handle) : ProfileRecord :=
  { label := c.label, tier := c.tier, base := base, latencyTrim := c.latencyTrim, gainTrim := c.gainTrim
    polarity := c.polarity, sections := c.sections }

theorem allocate_eq (n : Nat) (free : List Extent) : allocate n free = match firstFit n free with
    | some words => .ok words
    | none => .error (if (free.map Extent.len).sum < n then .noSpace else .fragmented) := rfl

theorem allocate_ok {n : Nat} {free : List Extent} {words : Extent × List Extent} (ok : allocate n free = .ok words) :
    firstFit n free = some words := by
  rw [allocate_eq] at ok
  cases fit : firstFit n free with
  | none =>
    rw [fit] at ok
    cases ok
  | some found =>
    rw [fit] at ok
    cases ok
    rfl

namespace State

variable {s : State}

/-! #### The lowest FREE handle (R37) -/

theorem lowestFree_eq_none (full : ∀ h, (s.handle h).state ≠ .free) : s.lowestFree = none := by
  rw [lowestFree, List.find?_eq_none]
  intro h _
  simpa using full h

theorem lowestFree_eq_some {h : HandleIx} : s.lowestFree = some h ↔
    (s.handle h).state = .free ∧ ∀ g, g < h → (s.handle g).state ≠ .free := by
  simp only [lowestFree, allHandles, List.find?_eq_some_iff_getElem, decide_eq_true_eq, List.getElem_finRange,
    List.length_finRange, Bool.not_eq_true', decide_eq_false_iff_not]
  refine and_congr_right fun _ => ⟨?_, fun below => ⟨h.val, h.isLt, rfl, fun j lt => below ⟨j, _⟩ lt⟩⟩
  rintro ⟨n, bound, rfl, below⟩ g lt
  exact below g.val lt

/-! #### The tests of a new record (R37) -/

/-- What refuses the base of a new record, in order (R28, R30, R37). -/
def newBaseRefusal (s : State) (r : ProfileRecord) : Option Status :=
  r.base.bind fun b =>
    if (s.handle b.ix).state = .retiring then some .retiring
    else if (s.baseOf b.ix).isSome = true then some .tooDeep
    else if 16 < s.ownCount b.ix + r.sections.length then some .tooManySections
    else if s.policyToProfile r.tier b.ix = .refuse then some .policyRefused
    else none

theorem testNewBase_eq (s : State) (r : ProfileRecord) :
    s.testNewBase r = (s.newBaseRefusal r).elim (.ok ()) .error := by
  unfold testNewBase newBaseRefusal
  cases r.base with
  | none => rfl
  | some b =>
    simp only [requireNotRetiring_bind, testBaseOf_eq, Option.bind_some]
    split_ifs <;> rfl

theorem testNewRecord_refused {r : ProfileRecord} {st : Status} (refused : s.newBaseRefusal r = some st) :
    s.testNewRecord r = .error st := by
  rw [testNewRecord, testNewBase_eq, refused]
  rfl

theorem testNewRecord_noHandle {r : ProfileRecord} (based : s.newBaseRefusal r = none) (full : s.lowestFree = none) :
    s.testNewRecord r = .error .noHandle := by
  rw [testNewRecord, testNewBase_eq, based, full]
  rfl

theorem testNewRecord_at {r : ProfileRecord} {h : HandleIx} (based : s.newBaseRefusal r = none)
    (lowest : s.lowestFree = some h) : s.testNewRecord r =
      (allocate (4 + 2 * r.sections.length) s.pool.free).map fun words => ⟨h, words.1, words.2, r⟩ := by
  rw [testNewRecord, testNewBase_eq, based, lowest]
  rfl

/-- The handle, the words and the record of a plan. -/
theorem testNewRecord_plan {r : ProfileRecord} {p : CreatePlan} (ok : s.testNewRecord r = .ok p) :
    s.lowestFree = some p.handle ∧ firstFit (4 + 2 * r.sections.length) s.pool.free = some (p.extent, p.free) ∧
      p.record = r := by
  simp only [testNewRecord, except_bind_ok] at ok
  obtain ⟨-, -, ok⟩ := ok
  cases lowest : s.lowestFree with
  | none =>
    rw [lowest] at ok
    cases ok
  | some h =>
    simp only [lowest, except_bind_ok] at ok
    obtain ⟨words, found, made⟩ := ok
    cases made
    exact ⟨rfl, allocate_ok found, rfl⟩

/-! #### The base that a CREATE PROFILE names (R32) -/

theorem nameBase_error {b : RawHandle} {st : Status} (bad : s.nameHandle b.number b.generation = .error st) :
    s.nameBase (some b) = .error st := by
  rw [nameBase, bad]
  rfl

/-- A base that exists, named by its number and its generation. -/
theorem nameBase_raw {base : Option Handle}
    (names : ∀ b, base = some b → (s.handle b.ix).state ≠ .free ∧ (s.handle b.ix).gen = b.gen) :
    s.nameBase (base.map Handle.raw) = .ok base := by
  cases base with
  | none => rfl
  | some b =>
    obtain ⟨inUse, gen⟩ := names b rfl
    have named : s.nameHandle (handleNumber b.ix) b.gen.val = .ok b.ix := by
      rw [nameHandle_eq, if_neg inUse, if_neg (not_not_intro (congrArg Fin.val gen))]
    show (s.nameHandle (handleNumber b.ix) b.gen.val).map (fun h => some (s.currentHandle h)) = .ok (some b)
    rw [named, ← show s.currentHandle b.ix = b from congrArg (Handle.mk b.ix) gen]
    rfl

theorem raw_of_nameBase {raw : Option RawHandle} {base : Option Handle} (ok : s.nameBase raw = .ok base) :
    base.map Handle.raw = raw := by
  cases raw with
  | none =>
    cases ok
    rfl
  | some b =>
    unfold nameBase at ok
    dsimp only at ok
    cases named : s.nameHandle b.number b.generation with
    | error st =>
      rw [named] at ok
      cases ok
    | ok h =>
      rw [named] at ok
      cases ok
      obtain ⟨-, gen, number⟩ := nameHandle_ok named
      exact congrArg some (congrArg₂ RawHandle.mk (handleIx_some_iff.mp number).symm gen)

/-! #### CREATE PROFILE (R35, R37) -/

variable {c : ProfileContent}

theorem testCreate_badValue (bad : ¬ ContentAllowed c) : s.testCreate c = .error .badValue := by
  rw [testCreate, require_bind, if_neg (mt contentInRange_iff.mp bad)]

theorem testCreate_base {st : Status} (allowed : ContentAllowed c) (bad : s.nameBase c.base = .error st) :
    s.testCreate c = .error st := by
  rw [testCreate, require_bind, if_pos (contentInRange_iff.mpr allowed), bad, except_error_bind]

theorem testCreate_busy {base : Option Handle} {st : Status} (allowed : ContentAllowed c)
    (named : s.nameBase c.base = .ok base) (busy : s.longOperation = some st) : s.testCreate c = .error st := by
  rw [testCreate, require_bind, if_pos (contentInRange_iff.mpr allowed), named, except_ok_bind,
    requireNoLongOperation_bind, busy]

theorem testCreate_idle {base : Option Handle} (allowed : ContentAllowed c) (named : s.nameBase c.base = .ok base)
    (idle : s.longOperation = none) : s.testCreate c = s.testNewRecord (newRecord c base) := by
  rw [testCreate, require_bind, if_pos (contentInRange_iff.mpr allowed), named, except_ok_bind,
    requireNoLongOperation_bind, idle]
  rfl

/-- A tested CREATE PROFILE names its base as sent, and would make a record of its content. -/
theorem testCreate_ok {p : CreatePlan} (ok : s.testCreate c = .ok p) :
    ∃ base : Option Handle, base.map Handle.raw = c.base ∧ s.testNewRecord (newRecord c base) = .ok p := by
  simp only [testCreate, except_bind_ok] at ok
  obtain ⟨-, -, base, named, -, -, made⟩ := ok
  exact ⟨base, raw_of_nameBase named, made⟩

/-! #### CLONE (R35, R38) -/

variable {ref : RecordRef} {h : HandleIx}

theorem testClone_error {st : Status} (bad : s.refProfile ref = .error st) : s.testClone ref = .error st := by
  rw [testClone, bad, except_error_bind]

theorem testClone_busy {st : Status} (named : s.refProfile ref = .ok h) (busy : s.longOperation = some st) :
    s.testClone ref = .error st := by
  rw [testClone, named, except_ok_bind, requireNoLongOperation_bind, busy]

theorem testClone_idle {r : ProfileRecord} (named : s.refProfile ref = .ok h) (record : (s.handle h).record = some r)
    (idle : s.longOperation = none) : s.testClone ref = s.testNewRecord r := by
  rw [testClone, named, except_ok_bind, requireNoLongOperation_bind, idle]
  simp only [record]

/-- A tested CLONE names a profile and would copy its record. -/
theorem testClone_ok {p : CreatePlan} (ok : s.testClone ref = .ok p) :
    ∃ h r, s.refProfile ref = .ok h ∧ (s.handle h).record = some r ∧ s.testNewRecord r = .ok p := by
  simp only [testClone, except_bind_ok] at ok
  obtain ⟨h, named, -, -, ok⟩ := ok
  cases record : (s.handle h).record with
  | none =>
    rw [record] at ok
    cases ok
  | some r =>
    rw [record] at ok
    exact ⟨h, r, named, record, ok⟩

end State

end Sys2Proof.Machine
end

section
/-! ### CREATE PROFILE and CLONE: their ends (R33, R35, R37, R38, R69, R145, R146) -/

namespace Sys2Proof.Machine

/-! #### What a taken one leaves (R37) -/

/-- A Handle Table in which one more record names the base (R33). -/
def baseRaised (table : Table HandleEntry 255) : Option Handle → Table HandleEntry 255
  | none => table
  | some b => table.upd b.ix { table.get b.ix with refCount := (table.get b.ix).refCount + 1 }

theorem get_baseRaised (table : Table HandleEntry 255) (base : Option Handle) (g : HandleIx) :
    (baseRaised table base).get g =
      { table.get g with refCount := (table.get g).refCount + if namesHandle g base then 1 else 0 } := by
  cases base with
  | none => rfl
  | some b =>
    rw [baseRaised, Table.get_upd]
    by_cases same : g = b.ix
    · simp [same, namesHandle]
    · simp [same, Ne.symm same, namesHandle]

namespace State

variable {s : State} {p : CreatePlan}

/-- The Handle Table with the new handle LIVE (R37). -/
def handleMade (s : State) (p : CreatePlan) : Table HandleEntry 255 :=
  s.handles.upd p.handle ⟨.live, (s.handle p.handle).gen, some p.extent, 0, false, some p.record⟩

/-- The notices of `w` once the policy outcome of a new record's base has been reported (R37, R69). -/
def createNoted (s w : State) (p : CreatePlan) : Notices :=
  match p.record.base with
  | some b => w.noted (s.policyToProfile p.record.tier b.ix) ⟨.profile (s.newHandle p), .profile b, .base⟩
  | none => w.notices

theorem handleMade_new (s : State) (p : CreatePlan) : (s.handleMade p).get p.handle =
    ⟨.live, (s.handle p.handle).gen, some p.extent, 0, false, some p.record⟩ := Table.get_upd_same ..

theorem handleMade_other (s : State) {g : HandleIx} (other : g ≠ p.handle) :
    (s.handleMade p).get g = s.handle g := Table.get_upd_other _ _ other

/-- A new record's base is counted and its policy outcome reported (R33, R69). -/
theorem referToBase_eq (s : State) (h : Handle) (r : ProfileRecord) : s.referToBase h r = { s with
    handles := baseRaised s.handles r.base
    notices := match r.base with
      | some b => s.noted (s.policyToProfile r.tier b.ix) ⟨.profile h, .profile b, .base⟩
      | none => s.notices } := by
  unfold referToBase
  cases r.base with
  | none => rfl
  | some b => exact notifyPolicy_eq ..

/-- The new handle's entry bears on no other profile's policy outcome. -/
theorem policyToProfile_handleMade {t : State} (policy : t.policy = s.policy) (handles : t.handles = s.handleMade p)
    (tier : Tier) {h : HandleIx} (other : h ≠ p.handle) : t.policyToProfile tier h = s.policyToProfile tier h := by
  have entry : t.handle h = s.handle h := (congrArg (Table.get · h) handles).trans (s.handleMade_other other)
  have outcomes : t.policyFor tier = s.policyFor tier := by
    funext referred
    rw [policyFor, policy, policyFor]
  rw [policyToProfile_eq, policyToProfile_eq, entry, outcomes]

/-- CREATE PROFILE and CLONE write the new entry, the free list, the base's count, the notices and the cursor. -/
theorem applyCreate_eq (s : State) (p : CreatePlan) (other : ∀ b, p.record.base = some b → b.ix ≠ p.handle) :
    s.applyCreate p = { s with
      handles := baseRaised (s.handleMade p) p.record.base
      pool := { s.pool with free := p.free }
      notices := s.createNoted s p
      port := { s.port with cursor := .profile (s.newHandle p) } } := by
  rw [applyCreate, referToBase_eq, createNoted]
  cases base : p.record.base with
  | none => rfl
  | some b =>
    dsimp only
    rw [policyToProfile_handleMade (s := s) (p := p) ?policy ?handles _ (other b base)]
    · rfl
    case policy => rfl
    case handles => rfl

theorem beforeEffect_createNoted {r : RecordName} (s : State) (p : CreatePlan) :
    (s.beforeEffect r).createNoted (s.beforeEffect r) p = s.createNoted (s.observed r) p := by
  unfold createNoted newHandle
  cases p.record.base with
  | none => rfl
  | some b =>
    simp only [beforeEffect_policyToProfile, beforeEffect_currentHandle]
    rfl

theorem beforeEffect_handleMade {r : RecordName} (s : State) (p : CreatePlan) :
    (s.beforeEffect r).handleMade p = s.handleMade p := by
  rw [handleMade, beforeEffect_handles, beforeEffect_handle, handleMade]

/-- The block once a CREATE PROFILE or CLONE has been taken (R37, R38). -/
theorem answered_created (s : State) (p : CreatePlan) (tag : Byte) (body : List Byte)
    (other : ∀ b, p.record.base = some b → b.ix ≠ p.handle) (settled : s.poolSettled) :
    ((s.beforeEffect (.profile (s.newHandle p))).applyCreate p).afterAbandon.endWait.answered tag .ok body =
      { s.observed (.profile (s.newHandle p)) with
        handles := baseRaised (s.handleMade p) p.record.base
        pool := { s.pool with free := p.free }
        notices := s.createNoted (s.observed (.profile (s.newHandle p))) p
        port := s.portAnsweredAt (.profile (s.newHandle p)) tag .ok body
        image := s.endWait.image } := by
  have cursor : (s.beforeEffect (.profile (s.newHandle p))).newHandle p = s.newHandle p :=
    beforeEffect_currentHandle p.handle
  rw [applyCreate_eq _ _ other, beforeEffect_createNoted, beforeEffect_handleMade, beforeEffect_pool, cursor]
  exact answered_settled (s := s) (r := .profile (s.newHandle p)) tag .ok body rfl
    (poolSettled_of_fields (s := s) rfl rfl settled)

end State

/-! #### The ends of a request (R35, R37, R38, R145, R146) -/

section

variable {s : State} {p : CreatePlan}

theorem requestNew_error {st : Status} : s.released.requestNew (.error st) = (s.released, refusal st) := rfl

theorem requestNew_stopped (stop : s.stops .portChange (.profile (s.newHandle p)) = true) :
    s.released.requestNew (.ok p) = (s.released.observed (.profile (s.newHandle p)), refusal .watched) := by
  rw [State.requestNew, State.takeChange_released_stopped
    (fun p : CreatePlan => .profile (s.released.newHandle p)) (fun p s => s.applyCreate p) p stop]
  rfl

theorem requestNew_taken (unstopped : s.stops .portChange (.profile (s.newHandle p)) = false) :
    s.released.requestNew (.ok p) =
      (((s.beforeEffect (.profile (s.newHandle p))).applyCreate p).afterAbandon.endWait,
        newHandleReply (s.newHandle p)) := by
  rw [State.requestNew, State.takeChange_released_taken
    (fun p : CreatePlan => .profile (s.released.newHandle p)) (fun p s => s.applyCreate p) p unstopped]
  rfl

variable {u : State} {a : Answer} {tag : Byte} {tested : Except Status CreatePlan}

theorem exec_createProfile_ran {c : ProfileContent} (ready : s.ready) (result : s.testCreate c = tested)
    (ran : s.released.requestNew tested = (u, a)) :
    exec (.createProfile ⟨tag, some c⟩) s = .next (u.answered tag a.status a.body) := by
  rw [← result, ← State.testCreate_released] at ran
  exact congrArg Host.Outcome.next
    (serveNow_answer (run := fun c s => s.requestNew (s.testCreate c)) (formed := anyItems) ready rfl rfl ran)

theorem exec_clone_ran {ref : RecordRef} (ready : s.ready) (profile : accepts .profile ref = true)
    (result : s.testClone ref = tested) (ran : s.released.requestNew tested = (u, a)) :
    exec (.clone ⟨tag, some ref⟩) s = .next (u.answered tag a.status a.body) := by
  rw [← result, ← State.testClone_released] at ran
  exact congrArg Host.Outcome.next
    (serveNow_answer (run := fun ref s => s.requestNew (s.testClone ref)) (formed := accepts .profile) ready rfl profile ran)

/-- A CREATE PROFILE or a CLONE with the plan of its tests. -/
def Makes (s : State) (tag : Byte) (p : CreatePlan) (c : Instr) : Prop :=
  (∃ content, c = .createProfile ⟨tag, some content⟩ ∧ s.testCreate content = .ok p) ∨
    ∃ ref, c = .clone ⟨tag, some ref⟩ ∧ s.testClone ref = .ok p

variable {c : Instr}

theorem exec_makes (ready : s.ready) (makes : Makes s tag p c) (ran : s.released.requestNew (.ok p) = (u, a)) :
    exec c s = .next (u.answered tag a.status a.body) := by
  rcases makes with ⟨content, rfl, ok⟩ | ⟨ref, rfl, ok⟩
  · exact exec_createProfile_ran ready ok ran
  · obtain ⟨h, r, named, -, -⟩ := State.testClone_ok ok
    exact exec_clone_ran ready (accepts_of_refProfile named) ok ran

theorem testNewRecord_of_makes (makes : Makes s tag p c) : s.testNewRecord p.record = .ok p := by
  have made : ∃ r, s.testNewRecord r = .ok p := by
    rcases makes with ⟨content, -, ok⟩ | ⟨ref, -, ok⟩
    · obtain ⟨base, -, made⟩ := State.testCreate_ok ok
      exact ⟨_, made⟩
    · obtain ⟨h, r, -, -, made⟩ := State.testClone_ok ok
      exact ⟨r, made⟩
  obtain ⟨r, made⟩ := made
  obtain ⟨-, -, rfl⟩ := State.testNewRecord_plan made
  exact made

end

/-- Settles O25: first-fit, the tests of CREATE PROFILE and CLONE in their order, the watch, and the handle, record, words
and base count that a taken one leaves. -/
theorem profileCreated : Obligations.ProfileCreated := by
  unfold Obligations.ProfileCreated
  refine ⟨fun n free => ⟨firstFit_none, ?_⟩,
    fun s c => ⟨State.testCreate_badValue, fun allowed b named => ⟨fun outside => ?_, fun h number => ?_⟩,
      fun allowed base raw names => ?_⟩,
    fun s ref => ⟨fun st => State.testClone_error, fun h r named record =>
      ⟨fun st => State.testClone_busy named, State.testClone_idle named record⟩⟩,
    fun s r => ⟨fun st => State.testNewRecord_refused, fun based => ⟨fun full => ?_, fun h free lowest => ?_⟩⟩,
    fun s tag ready => ⟨fun c => ⟨fun st bad => ?_, fun p ok => ?_⟩, fun ref st profile bad => ?_, fun ref p ok => ?_,
      fun p c makes => ⟨fun stop => ?_, fun may based => ?_⟩⟩⟩
  · rintro before e after rfl short room
    exact firstFit_found short room
  · exact State.testCreate_base allowed (named ▸ State.nameBase_error (State.nameHandle_outside _ outside))
  · have entry := s.nameHandle_eq h b.generation
    rw [← handleIx_some_iff.mp number] at entry
    refine ⟨fun free => ?_, fun inUse other => ?_⟩
    · exact State.testCreate_base allowed (named ▸ State.nameBase_error (entry.trans (if_pos free)))
    · exact State.testCreate_base allowed
        (named ▸ State.nameBase_error (entry.trans ((if_neg inUse).trans (if_pos other))))
  · have named : s.nameBase c.base = .ok base := raw ▸ State.nameBase_raw names
    exact ⟨fun st => State.testCreate_busy allowed named, State.testCreate_idle allowed named⟩
  · exact State.testNewRecord_noHandle based (State.lowestFree_eq_none full)
  · rw [State.testNewRecord_at based (State.lowestFree_eq_some.mpr ⟨free, lowest⟩), allocate_eq]
    cases firstFit (4 + 2 * r.sections.length) s.pool.free <;> rfl
  · exact exec_createProfile_ran ready bad requestNew_error
  · obtain ⟨base, raw, made⟩ := State.testCreate_ok ok
    obtain ⟨-, -, record⟩ := State.testNewRecord_plan made
    rw [record]
    exact ⟨rfl, rfl, rfl, rfl, rfl, rfl, raw⟩
  · exact exec_clone_ran ready profile bad requestNew_error
  · obtain ⟨h, r, named, record, made⟩ := State.testClone_ok ok
    obtain ⟨-, -, rfl⟩ := State.testNewRecord_plan made
    exact ⟨h, named, record⟩
  · exact exec_makes ready makes (requestNew_stopped stop)
  · obtain ⟨lowest, words, -⟩ := State.testNewRecord_plan (testNewRecord_of_makes makes)
    obtain ⟨free, below⟩ := State.lowestFree_eq_some.mp lowest
    have other : ∀ b, p.record.base = some b → b.ix ≠ p.handle := fun b base same => based b base (same ▸ free)
    have ran := exec_makes ready makes (requestNew_taken may.unstopped)
    have ended := s.answered_created p tag (newHandleReply (s.newHandle p)).body other may.settled
    refine ⟨free, below, words, _, ran.trans (congrArg Host.Outcome.next ended), ?_, fun g away => ?_, rfl, ?_, rfl, rfl⟩
    · refine (get_baseRaised ..).trans ?_
      have unnamed : namesHandle p.handle p.record.base = false := by
        cases base : p.record.base with
        | none => rfl
        | some b => simpa [namesHandle] using other b base
      rw [s.handleMade_new, unnamed]
      rfl
    · refine (get_baseRaised ..).trans ?_
      rw [s.handleMade_other away]
    · show s.createNoted _ p = _
      unfold State.createNoted State.noted
      cases p.record.base <;> rfl

end Sys2Proof.Machine
end

section
/-! ### SET of profiles: its plan and its tests (R27, R35, R39, R156, R160) -/

namespace Sys2Proof.Machine

/-! #### The change that a field and a value name (R27, R39, R160) -/

theorem wordOf_none_iff {v : Int} : wordOf v = none ↔ v < 0 ∨ 65535 < v := by
  unfold wordOf inRangeInt
  split
  · next low => simp at low ⊢; omega
  · next out => simp at out ⊢; omega

theorem enumOf_none_iff {α : Type} {all : List α} {v : Int} : enumOf all v = none ↔ v < 0 ∨ (all.length : Int) ≤ v := by
  unfold enumOf
  split
  · rw [List.getElem?_eq_none_iff]
    omega
  · simp
    omega

/-- SET knows no change for a value outside its field's range, and for a field beyond the list (R27, log 43). -/
theorem profileChange_none_iff (field : Nat) (v : Int) :
    field = 0 ∧ (v < 0 ∨ 65535 < v) ∨ field = 1 ∧ (v < 0 ∨ 3 < v) ∨ field = 2 ∧ (v < -1 ∨ 7680 < v) ∨
      field = 3 ∧ (v < -600 ∨ 120 < v) ∨ field = 4 ∧ (v < 0 ∨ 1 < v) ∨ 5 ≤ field ↔ profileChange field v = none := by
  match field with
  | 0 => simp [profileChange, wordOf_none_iff]
  | 1 =>
    simp [profileChange, enumOf_none_iff, Tier.all]
    omega
  | 2 =>
    by_cases absent : v = -1
    · simp [profileChange, absent]
    · simp [profileChange, inRangeInt, absent]
      omega
  | 3 =>
    simp [profileChange, gainTrimInRange, inRangeInt]
    omega
  | 4 =>
    simp [profileChange, enumOf_none_iff, Polarity.all]
    omega
  | k + 5 => simp [profileChange]

theorem profileChange_label {v : Int} (low : 0 ≤ v) (high : v ≤ 65535) :
    profileChange 0 v = some (.label (BitVec.ofInt 16 v)) := by
  have word : BitVec.ofNat 16 v.toNat = BitVec.ofInt 16 v := by
    apply BitVec.eq_of_toNat_eq
    rw [BitVec.toNat_ofNat, BitVec.toNat_ofInt]
    omega
  simp [profileChange, wordOf, inRangeInt, low, high, word]

theorem profileChange_tier (t : Tier) : profileChange 1 t.code = some (.tier t) := by cases t <;> rfl

theorem profileChange_trim {v : Int} (low : 0 ≤ v) (high : v ≤ 7680) :
    profileChange 2 v = some (.latencyTrim (some v)) := by
  have present : v ≠ -1 := by omega
  simp [profileChange, inRangeInt, present, low, high]

theorem profileChange_gain {v : Int} (low : -600 ≤ v) (high : v ≤ 120) : profileChange 3 v = some (.gainTrim v) := by
  simp [profileChange, gainTrimInRange, inRangeInt, low, high]

/-- The fields after label and tier are content (R36). -/
theorem isContent_of_profileChange {field : Nat} {v : Int} {c : ProfileChange} (change : profileChange field v = some c) :
    c.isContent = !decide (field = 0 ∨ field = 1) := by
  match field with
  | 0 =>
    obtain ⟨x, -, rfl⟩ := Option.map_eq_some_iff.mp (change : (wordOf v).map _ = _)
    rfl
  | 1 =>
    obtain ⟨x, -, rfl⟩ := Option.map_eq_some_iff.mp (change : (enumOf Tier.all v).map _ = _)
    rfl
  | 2 =>
    simp only [profileChange] at change
    split_ifs at change <;> cases change <;> rfl
  | 3 =>
    simp only [profileChange] at change
    split_ifs at change
    cases change
    rfl
  | 4 =>
    obtain ⟨x, -, rfl⟩ := Option.map_eq_some_iff.mp (change : (enumOf Polarity.all v).map _ = _)
    rfl
  | k + 5 => cases change

theorem contentField_iff {field : Nat} : contentField field = true ↔ field = 2 ∨ field = 3 ∨ field = 4 := by
  simp [contentField, or_assoc]

namespace State

variable {s : State} {h : HandleIx} {number gen field : Nat} {v : Int} {c : ProfileChange}

/-! #### The tests of one record (R35, R39) -/

/-- A profile that exists, named at the generation it holds. -/
theorem nameHandle_present (inUse : (s.handle h).state ≠ .free) :
    s.nameHandle (handleNumber h) (s.handle h).gen.val = .ok h := by
  rw [nameHandle_eq, if_neg inUse, if_neg (not_not_intro rfl)]

theorem testSetProfile_busy {st : Status} (change : profileChange field v = some c) (named : s.nameHandle number gen = .ok h)
    (busy : s.longOperation = some st) : s.testSetProfile number gen field v = .error st := by
  simp only [testSetProfile, change, named, except_ok_bind, requireNoLongOperation_bind, busy]

/-- The field's own tests, once the name and the long operations have been tested (R39). -/
def testProfileField (s : State) (h : HandleIx) (c : ProfileChange) : Except Status (HandleIx × ProfileChange) :=
  match c with
  | .label _ => .ok (h, c)
  | .tier _ =>
    if (s.handle h).state = .retiring then .error .retiring
    else if 0 < (s.handle h).refCount ∨ (s.baseOf h).isSome = true then .error .inUse
    else .ok (h, c)
  | .latencyTrim _ | .gainTrim _ | .polarity _ =>
    if s.locked = true ∧ s.isOverrideProfile h = true then .error .locked
    else if (s.handle h).state = .retiring then .error .retiring
    else .ok (h, c)

theorem testSetProfile_idle (change : profileChange field v = some c) (named : s.nameHandle number gen = .ok h)
    (idle : s.longOperation = none) : s.testSetProfile number gen field v = s.testProfileField h c := by
  have unused : ((s.handle h).refCount = 0 && !s.hasBase h) = true ↔
      ¬ (0 < (s.handle h).refCount ∨ (s.baseOf h).isSome = true) := by
    rw [not_or, hasBase]
    simp
  simp only [testSetProfile, change, named, except_ok_bind, requireNoLongOperation_bind, idle]
  cases c with
  | label x => rfl
  | tier x =>
    simp only [requireNotRetiring_bind, require_bind, unused, testProfileField, ite_not]
    rfl
  | latencyTrim x | gainTrim x | polarity x =>
    simp only [requireContentFree_bind, requireNotRetiring_bind, testProfileField]
    rfl

theorem testProfileField_ok {p : HandleIx × ProfileChange} (ok : s.testProfileField h c = .ok p) : p = (h, c) := by
  cases c <;> simp only [testProfileField] at ok
  case label => exact (Except.ok.inj ok).symm
  all_goals
    split_ifs at ok
    exact (Except.ok.inj ok).symm

theorem testSetProfile_ok {p : HandleIx × ProfileChange} (ok : s.testSetProfile number gen field v = .ok p) :
    profileChange field v = some p.2 ∧ s.nameHandle number gen = .ok p.1 := by
  cases change : profileChange field v with
  | none =>
    rw [testSetProfile, change] at ok
    cases ok
  | some c =>
    cases named : s.nameHandle number gen with
    | error st =>
      simp only [testSetProfile, change, named, except_error_bind] at ok
      cases ok
    | ok h =>
      cases busy : s.longOperation with
      | some st =>
        rw [testSetProfile_busy change named busy] at ok
        cases ok
      | none =>
        rw [testSetProfile_idle change named busy] at ok
        rw [testProfileField_ok ok]
        exact ⟨rfl, rfl⟩

/-! #### The plan of a SET whose reference yields a profile (R27, R160) -/

variable {ref : RecordRef}

/-- What a reference to a profile yields. -/
theorem refProfile_target (named : s.refProfile ref = .ok h) :
    s.resolve ref = .ok ⟨.profile, handleNumber h, (s.handle h).gen.val⟩ ∧ (s.handle h).state ≠ .free := by
  simp only [refProfile, requireClass, except_bind_ok, require_ok] at named
  obtain ⟨⟨cls, number, gen⟩, resolved, -, profile, name⟩ := named
  obtain ⟨inUse, present, ix⟩ := nameHandle_ok name
  cases of_decide_eq_true profile
  dsimp only at present ix
  rw [present, ← handleIx_some_iff.mp ix]
  exact ⟨resolved, inUse⟩

/-- A reference that yields a profile is of the class PROFILE. -/
theorem refClass_of_refProfile (named : s.refProfile ref = .ok h) : s.refClass ref = some .profile := by
  obtain ⟨resolved, -⟩ := refProfile_target named
  have cls : ∀ t, s.resolve ref = .ok t → t.cls = .profile := fun t other =>
    congrArg Target.cls (Except.ok.inj (other.symm.trans resolved))
  cases ref with
  | numbered c number generation => exact congrArg some (cls _ rfl)
  | current => exact congrArg some (cls _ rfl)
  | next =>
    simp only [resolve] at resolved
    split_ifs at resolved
    exact congrArg (fun t => some t.cls) (Except.ok.inj resolved)
  | previous =>
    simp only [resolve] at resolved
    split_ifs at resolved
    exact congrArg (fun t => some t.cls) (Except.ok.inj resolved)
  | referred =>
    unfold resolve at resolved
    unfold refClass
    cases cursor : s.port.cursor with
    | feed f => rfl
    | profile h => rfl
    | sensor n =>
      simp only [cursor] at resolved
      have found := referredTo_ok resolved
      simp at found
    | sector n =>
      simp only [cursor] at resolved
      cases resolved

theorem setRange_of_refProfile (named : s.refProfile ref = .ok h) (field : Nat) (v : Int) (count step : Nat) :
    s.setRange ⟨ref, field, v, count, step⟩ =
      if count = 0 ∨ 16 < count ∨ step = 0 ∨ 16 < step then .error .badValue
      else if 255 < handleNumber h + (count - 1) * step then .error .outOfRange
      else .ok (⟨.profile, handleNumber h, (s.handle h).gen.val⟩, recordNumbers (handleNumber h) count step) := by
  obtain ⟨resolved, -⟩ := refProfile_target named
  have small : (oneToSixteen count && oneToSixteen step) = true ↔ ¬ (count = 0 ∨ 16 < count ∨ step = 0 ∨ 16 < step) := by
    simp only [oneToSixteen, Bool.and_eq_true, decide_eq_true_iff]
    omega
  simp only [setRange, require_bind, small, resolved, except_ok_bind]
  by_cases big : count = 0 ∨ 16 < count ∨ step = 0 ∨ 16 < step
  · rw [if_pos big, if_neg (not_not_intro big)]
  have all : (recordNumbers (handleNumber h) count step).all (inClass .profile) = true ↔
      ¬ 255 < handleNumber h + (count - 1) * step := by
    rw [not_lt, ← recordNumbers_le (by omega), List.all_eq_true]
    refine forall₂_congr fun n mem => ?_
    obtain ⟨j, -, rfl⟩ := mem_recordNumbers.mp mem
    have first : 1 ≤ handleNumber h + j * step := by
      rw [handleNumber]
      omega
    rw [inClass, Bool.and_eq_true, decide_eq_true_iff, decide_eq_true_iff]
    exact and_iff_right first
  rw [if_neg big, if_pos big]
  simp only [reduceCtorEq, decide_false, decide_true, Bool.or_true, if_true, all, ite_not]
  rfl

/-- SET of a content field of a profile in move waits (R61). -/
theorem setWaits_named (named : s.refProfile ref = .ok h) (field : Nat) :
    s.setWaits field (handleNumber h) (s.handle h).gen.val = (contentField field && (s.handle h).inMove) := by
  obtain ⟨-, inUse⟩ := refProfile_target named
  rw [setWaits, nameHandle_present inUse]

/-- The plan of a SET of profiles: the content of one that does not wait, then count and step, then the range (R27, R160). -/
theorem setPlan_of_refProfile (named : s.refProfile ref = .ok h) (field : Nat) (v : Int) (count step : Nat) :
    s.setPlan ⟨ref, field, v, count, step⟩ =
      if profileChange field v = none ∧ s.setFirstWaits ⟨ref, field, v, count, step⟩ = false then .error .badValue
      else s.setRange ⟨ref, field, v, count, step⟩ := by
  have content : (!s.setContentBad ⟨ref, field, v, count, step⟩) = true ↔
      ¬ (profileChange field v = none ∧ s.setFirstWaits ⟨ref, field, v, count, step⟩ = false) := by
    rw [setContentBad, refClass_of_refProfile named]
    cases profileChange field v <;> simp
  simp only [setPlan, require_bind, content, ite_not]

end State

end Sys2Proof.Machine
end

section
/-! ### SET of profiles: its loop and its request (R36, R39, R61, R145, R160) -/

namespace Sys2Proof.Machine

/-- A work that has been answered and names no refused record. -/
def Work.Whole (w : Work) : Prop := ∃ a : Answer, w = .answered a ∧ a.body.length = 1

theorem length_recordNumbers (first count step : Nat) : (recordNumbers first count step).length = count := by
  simp [recordNumbers]

namespace State

variable {s : State} {h : HandleIx} {n field gen : Nat} {v : Int} {c : ProfileChange}

/-! #### One record -/

theorem setOneProfile_error {st : Status} (bad : s.testSetProfile n gen field v = .error st) :
    s.setOneProfile n gen field v = (s, .error st) := by
  rw [setOneProfile, bad, takeChange_error]

theorem setOneProfile_stopped (ok : s.testSetProfile n gen field v = .ok (h, c))
    (stop : s.stops .portChange (.profile (s.currentHandle h)) = true) :
    s.setOneProfile n gen field v = (s.observed (.profile (s.currentHandle h)), .error .watched) := by
  rw [setOneProfile, ok]
  exact takeChange_stopped s (fun p : HandleIx × ProfileChange => .profile (s.currentHandle p.1))
    (fun p s => s.applyProfileChange p.1 p.2) (h, c) stop

theorem setOneProfile_taken (ok : s.testSetProfile n gen field v = .ok (h, c))
    (unstopped : s.stops .portChange (.profile (s.currentHandle h)) = false) : s.setOneProfile n gen field v =
      (((s.observed (.profile (s.currentHandle h))).applyProfileChange h c).afterAbandon.endWait, .ok (h, c)) := by
  rw [setOneProfile, ok]
  exact takeChange_taken s (fun p : HandleIx × ProfileChange => .profile (s.currentHandle p.1))
    (fun p s => s.applyProfileChange p.1 p.2) (h, c) unstopped

/-! #### The loop over the records -/

/-- The generation that names the next record: the one given, or the present one (R160). -/
def namedGen (s : State) (named : Option Nat) (n : Nat) : Nat := named.getD (s.presentGen .profile n)

variable {named : Option Nat}

theorem setProfilesLoop_waits (waits : s.setWaits field n (s.namedGen named n) = true) (rest : List Nat) (done : Nat) :
    setProfilesLoop field v (n :: rest) named done s = (s, .waiting (.set ⟨n :: rest, named, field, v, done⟩)) := by
  rw [setProfilesLoop]
  exact if_pos waits

theorem setProfilesLoop_error {st : Status} {t : State} (still : s.setWaits field n (s.namedGen named n) = false)
    (refused : s.setOneProfile n (s.namedGen named n) field v = (t, .error st)) (rest : List Nat) (done : Nat) :
    setProfilesLoop field v (n :: rest) named done s =
      (t, .answered ⟨st, byte1 done ++ (profileRef n (s.namedGen named n)).bytes⟩) := by
  rw [namedGen] at *
  rw [setProfilesLoop, still, refused]
  rfl

theorem setProfilesLoop_ok {t : State} (still : s.setWaits field n (s.namedGen named n) = false)
    (taken : s.setOneProfile n (s.namedGen named n) field v = (t, .ok (h, c))) (rest : List Nat) (done : Nat) :
    setProfilesLoop field v (n :: rest) named done s =
      setProfilesLoop field v rest none (done + 1) (t.setCursor (.profile (t.currentHandle h))) := by
  rw [namedGen] at *
  rw [setProfilesLoop, still, taken]
  rfl

/-- A loop that ends whole has taken all its records, and goes on with the records after them. -/
theorem setProfilesLoop_append (ns ms : List Nat) (named : Option Nat) (done : Nat) (s : State)
    (whole : (setProfilesLoop field v ns named done s).2.Whole) :
    setProfilesLoop field v (ns ++ ms) named done s = setProfilesLoop field v ms (if ns = [] then named else none)
      (done + ns.length) (setProfilesLoop field v ns named done s).1 := by
  induction ns generalizing named done s with
  | nil => rfl
  | cons n ns ih =>
    cases waits : s.setWaits field n (s.namedGen named n) with
    | true =>
      rw [setProfilesLoop_waits waits] at whole
      obtain ⟨a, other, -⟩ := whole
      cases other
    | false =>
      cases one : s.setOneProfile n (s.namedGen named n) field v with
      | mk t r =>
        cases r with
        | error st =>
          rw [setProfilesLoop_error waits one] at whole
          obtain ⟨a, same, short⟩ := whole
          cases same
          simp [byte1, profileRef, RecordRef.bytes] at short
        | ok p =>
          obtain ⟨h, c⟩ := p
          rw [setProfilesLoop_ok waits one] at whole ⊢
          rw [List.cons_append, setProfilesLoop_ok waits one, ih _ _ _ whole, ite_self, List.length_cons,
            if_neg (List.cons_ne_nil n ns), Nat.add_assoc, Nat.add_comm 1]

end State

/-! #### The request -/

section

variable {s : State} {ref : RecordRef} {h : HandleIx} {field : Nat} {v : Int} {count step : Nat}

theorem exec_set_named (r : Request SetItems) {i : SetItems} (ready : s.ready) (items : r.items = some i)
    (named : s.refProfile i.ref = .ok h) : exec (.set r) s =
      .next ((s.released.requestSet i).1.setInProgress r.tag (s.released.requestSet i).2) := by
  have formed : (accepts .feed i.ref || accepts .profile i.ref) = true := by
    rw [accepts_of_refProfile named, Bool.or_true]
  exact congrArg Host.Outcome.next (serve_ready r (fun i => accepts .feed i.ref || accepts .profile i.ref)
    (fun i s => s.requestSet i) s ready items formed)

theorem exec_setProfile_refused {st : Status} (r : Request SetItems) {i : SetItems} (ready : s.ready)
    (items : r.items = some i) (named : s.refProfile i.ref = .ok h) (bad : s.setPlan i = .error st) :
    exec (.set r) s = .next (s.released.answered r.tag st []) := by
  have run : s.released.requestSet i = (s.released, .answered (refusal st)) := by
    rw [State.requestSet, State.setPlan_released, bad]
  rw [exec_set_named r ready items named, run]
  rfl

/-- The loop of a SET that names profiles, over the block as it has taken the request. -/
def State.profilesSet (s : State) (h : HandleIx) (field : Nat) (v : Int) (ns : List Nat) : State × Work :=
  setProfilesLoop field v ns (some (s.handle h).gen.val) 0 s.released

theorem exec_set_planned (r : Request SetItems) (ready : s.ready) (items : r.items = some ⟨ref, field, v, count, step⟩)
    (named : s.refProfile ref = .ok h) {ns : List Nat}
    (plan : s.setPlan ⟨ref, field, v, count, step⟩ = .ok (⟨.profile, handleNumber h, (s.handle h).gen.val⟩, ns)) :
    exec (.set r) s = .next ((s.profilesSet h field v ns).1.setInProgress r.tag (s.profilesSet h field v ns).2) := by
  have run : s.released.requestSet ⟨ref, field, v, count, step⟩ = s.profilesSet h field v ns := by
    rw [State.requestSet, State.setPlan_released, plan]
    rfl
  rw [exec_set_named r ready items named, run]

/-- Within the ranges of R160, a SET waits at its first record whatever its count (R61). -/
theorem State.setFirstWaits_named (named : s.refProfile ref = .ok h)
    (small : 1 ≤ count ∧ count ≤ 16 ∧ 1 ≤ step ∧ step ≤ 16) (range : handleNumber h + (count - 1) * step ≤ 255) :
    s.setFirstWaits ⟨ref, field, v, count, step⟩ = (contentField field && (s.handle h).inMove) := by
  rw [setFirstWaits, setRange_of_refProfile named, if_neg (by omega), if_neg (by omega), ← setWaits_named named]
  rfl

/-- The plan of a SET within the ranges of R160. -/
theorem State.setPlan_ranged (named : s.refProfile ref = .ok h) (field : Nat) (v : Int)
    (small : 1 ≤ count ∧ count ≤ 16 ∧ 1 ≤ step ∧ step ≤ 16) (range : handleNumber h + (count - 1) * step ≤ 255) :
    s.setPlan ⟨ref, field, v, count, step⟩ =
      if profileChange field v = none ∧ (contentField field && (s.handle h).inMove) = false then .error .badValue
      else .ok (⟨.profile, handleNumber h, (s.handle h).gen.val⟩, recordNumbers (handleNumber h) count step) := by
  rw [setPlan_of_refProfile named, setFirstWaits_named named small range, setRange_of_refProfile named,
    if_neg (by omega : ¬ (count = 0 ∨ 16 < count ∨ step = 0 ∨ 16 < step)), if_neg (by omega : ¬ 255 < _)]

theorem handleNumber_le (h : HandleIx) : handleNumber h ≤ 255 := by
  rw [handleNumber]
  omega

/-- A SET of a change that SET knows goes through the profiles it names, one at a time. -/
theorem exec_set_profiles {c : ProfileChange} (r : Request SetItems) (ready : s.ready)
    (items : r.items = some ⟨ref, field, v, count, step⟩) (named : s.refProfile ref = .ok h)
    (change : profileChange field v = some c) (small : 1 ≤ count ∧ count ≤ 16 ∧ 1 ≤ step ∧ step ≤ 16)
    (range : handleNumber h + (count - 1) * step ≤ 255) : exec (.set r) s =
      .next ((s.profilesSet h field v (recordNumbers (handleNumber h) count step)).1.setInProgress r.tag
        (s.profilesSet h field v (recordNumbers (handleNumber h) count step)).2) := by
  refine exec_set_planned r ready items named ((State.setPlan_ranged named field v small range).trans (if_neg ?_))
  rintro ⟨unknown, -⟩
  cases change.symm.trans unknown

/-! #### A later record -/

/-- The records of a SET before and from the one at place `done` on. -/
theorem recordNumbers_later {g : HandleIx} {done : Nat} (less : done ≤ count) (place : g.val = h.val + done * step) :
    recordNumbers (handleNumber h) count step =
      recordNumbers (handleNumber h) done step ++ recordNumbers (handleNumber g) (count - done) step := by
  rw [handleNumber, handleNumber, place, Nat.add_right_comm, ← recordNumbers_add, Nat.add_sub_cancel' less]

/-- A SET of the first `done` records, taken whole, tells how the longer SET goes on. -/
theorem exec_set_later {u : State} {tag : Byte} {g : HandleIx} {done : Nat} (ready : s.ready)
    (named : s.refProfile ref = .ok h) (small : 1 ≤ done ∧ done < count ∧ count ≤ 16 ∧ 1 ≤ step ∧ step ≤ 16)
    (range : handleNumber h + (count - 1) * step ≤ 255) (place : g.val = h.val + done * step)
    (before : exec (.set ⟨tag, some ⟨ref, field, v, done, step⟩⟩) s = .next u)
    (whole : u.port.inProgress = some ⟨tag, .answered ⟨.ok, byte1 done⟩⟩) :
    ∃ t : State, u = t.answered tag .ok (byte1 done) ∧
      exec (.set ⟨tag, some ⟨ref, field, v, count, step⟩⟩) s = .next
        ((setProfilesLoop field v (recordNumbers (handleNumber g) (count - done) step) none done t).1.setInProgress tag
          (setProfilesLoop field v (recordNumbers (handleNumber g) (count - done) step) none done t).2) := by
  obtain ⟨pos, less, most, step1, step16⟩ := small
  have shorter : handleNumber h + (done - 1) * step ≤ 255 := by
    have : (done - 1) * step ≤ (count - 1) * step := Nat.mul_le_mul_right step (by omega)
    omega
  have plan := State.setPlan_ranged named field v ⟨pos, by omega, step1, step16⟩ shorter
  have plan' := State.setPlan_ranged named field v (count := count) ⟨by omega, most, step1, step16⟩ range
  by_cases bad : profileChange field v = none ∧ (contentField field && (s.handle h).inMove) = false
  · rw [if_pos bad] at plan
    rw [exec_setProfile_refused _ ready rfl named plan] at before
    cases Host.Outcome.next.inj before
    cases Option.some.inj whole
  rw [if_neg bad] at plan plan'
  rw [exec_set_planned _ ready rfl named plan] at before
  cases loop : s.profilesSet h field v (recordNumbers (handleNumber h) done step) with
  | mk t w =>
    rw [loop] at before
    have after : t.setInProgress tag w = u := Host.Outcome.next.inj before
    subst after
    cases Option.some.inj whole
    refine ⟨t, rfl, ?_⟩
    have split := recordNumbers_later less.le place
    have nonempty : recordNumbers (handleNumber h) done step ≠ [] := by
      obtain ⟨n, rfl⟩ : ∃ n, done = n + 1 := ⟨done - 1, by omega⟩
      rw [recordNumbers_succ]
      exact List.cons_ne_nil _ _
    have long := State.setProfilesLoop_append (field := field) (v := v) (recordNumbers (handleNumber h) done step)
      (recordNumbers (handleNumber g) (count - done) step) (some (s.handle h).gen.val) 0 s.released
    rw [State.profilesSet] at loop
    rw [loop, if_neg nonempty, ← split, length_recordNumbers, Nat.zero_add] at long
    rw [exec_set_planned _ ready rfl named plan', State.profilesSet, long ⟨_, rfl, rfl⟩]

end

end Sys2Proof.Machine
end

section
/-! ### SET of profiles: the effect of one record, and labels over a range (R36, R39, R160) -/

namespace Sys2Proof.Machine

namespace State

variable {s : State} {h : HandleIx} {c : ProfileChange}

/-! #### The effect of one record -/

/-- The Handle Table with one field of a profile changed (R39). -/
def fieldChanged (s : State) (h : HandleIx) (c : ProfileChange) : Table HandleEntry 255 :=
  s.handles.upd h { s.handle h with record := (s.handle h).record.map fun r => r.change c }

/-- The feeds that a change of a field queues (R36). -/
def changeReaches (s : State) (h : HandleIx) (c : ProfileChange) : List FeedNo :=
  if c.isContent then s.feedsReaching h else []

theorem applyProfileChange_eq (s : State) (h : HandleIx) (c : ProfileChange) :
    s.applyProfileChange h c = ({ s with handles := s.fieldChanged h c } : State).queueFeeds (s.changeReaches h c) := by
  unfold applyProfileChange changeReaches
  cases c <;> rfl

theorem nodup_changeReaches (s : State) (h : HandleIx) (c : ProfileChange) : (s.changeReaches h c).Nodup := by
  unfold changeReaches
  split
  · exact s.nodup_feedsReaching h
  · exact List.nodup_nil

theorem get_fieldChanged (s : State) (h : HandleIx) (c : ProfileChange) (g : HandleIx) : (s.fieldChanged h c).get g =
    { s.handle g with record :=
        if g = h then (s.handle g).record.map fun r => r.change c else (s.handle g).record } := by
  rw [fieldChanged, Table.get_upd]
  split
  · next same => rw [same]
  · rfl

/-- A change of a field leaves the names of all profiles. -/
theorem currentHandle_of_fieldChanged {t : State} (handles : t.handles = s.fieldChanged h c) (g : HandleIx) :
    t.currentHandle g = s.currentHandle g := by
  have entry : t.handle g = _ := (congrArg (Table.get · g) handles).trans (s.get_fieldChanged h c g)
  rw [currentHandle, entry, currentHandle]

theorem applyProfileChange_beforeEffect {r : RecordName} (s : State) (h : HandleIx) (c : ProfileChange) :
    (s.beforeEffect r).applyProfileChange h c =
      ({ s.observed r with handles := s.fieldChanged h c } : State).withFeedsOf
        ((s.beforeEffect r).queueFeeds (s.changeReaches h c)) := by
  have changed : (s.beforeEffect r).fieldChanged h c = s.fieldChanged h c := by
    rw [fieldChanged, beforeEffect_handles, beforeEffect_handle, fieldChanged]
  have reaches : (s.beforeEffect r).changeReaches h c = s.changeReaches h c := by
    rw [changeReaches, beforeEffect_feedsReaching, changeReaches]
  rw [applyProfileChange_eq, changed, reaches, ← queueFeeds_withFeedsOf]
  rfl

end State

/-! #### One record of a SET -/

theorem recordNumbers_one (n step : Nat) : recordNumbers n 1 step = [n] := by simp [recordNumbers]

section

variable {s : State} {tag : Byte} {ref : RecordRef} {h : HandleIx} {field : Nat} {v : Int}

/-- A SET of one profile that does not wait ends as its one record does. -/
theorem exec_setProfile_one {c : ProfileChange} (ready : s.ready) (named : s.refProfile ref = .ok h)
    (change : profileChange field v = some c) : exec (.set ⟨tag, some ⟨ref, field, v, 1, 1⟩⟩) s =
      .next ((s.profilesSet h field v [handleNumber h]).1.setInProgress tag (s.profilesSet h field v [handleNumber h]).2) := by
  have run := exec_set_profiles ⟨tag, some ⟨ref, field, v, 1, 1⟩⟩ ready rfl named change (by omega)
    (by have := handleNumber_le h; omega)
  rwa [recordNumbers_one] at run

/-- A first record refused. -/
theorem exec_setProfile_error {c : ProfileChange} {t : State} {st : Status} (ready : s.ready)
    (named : s.refProfile ref = .ok h) (change : profileChange field v = some c)
    (still : s.setWaits field (handleNumber h) (s.handle h).gen.val = false)
    (refused : s.released.setOneProfile (handleNumber h) (s.handle h).gen.val field v = (t, .error st)) :
    exec (.set ⟨tag, some ⟨ref, field, v, 1, 1⟩⟩) s = .next (t.answered tag st
      (byte1 0 ++ (RecordRef.numbered .profile (handleNumber h) (s.handle h).gen.val).bytes)) := by
  rw [exec_setProfile_one ready named change, State.profilesSet,
    State.setProfilesLoop_error (s := s.released) (named := some (s.handle h).gen.val) still refused]
  rfl

/-- `t` is the block once a SET has changed one field of profile `h`. -/
structure ProfileSet (s t : State) (h : HandleIx) (c : ProfileChange) (tag : Byte) : Prop where
  handles : t.handles = s.fieldChanged h c
  queued : ∀ f, f ∈ s.changeReaches h c → t.feed f = (s.feed f).queued
  others : ∀ f, f ∉ s.changeReaches h c → t.feed f = s.feed f
  resolver : t.resolver = s.queuedAll (s.changeReaches h c)
  port : t.port = s.portAnsweredAt (.profile (s.currentHandle h)) tag .ok (byte1 1)
  frame : t = { s.observed (.profile (s.currentHandle h)) with
    handles := t.handles, feeds := t.feeds, resolver := t.resolver, port := t.port, image := s.endWait.image }

/-- A first record taken. -/
theorem exec_setProfile_taken {c : ProfileChange} (named : s.refProfile ref = .ok h)
    (still : s.setWaits field (handleNumber h) (s.handle h).gen.val = false)
    (ok : s.testSetProfile (handleNumber h) (s.handle h).gen.val field v = .ok (h, c))
    (may : s.mayChange (.profile (s.currentHandle h))) :
    ∃ t, exec (.set ⟨tag, some ⟨ref, field, v, 1, 1⟩⟩) s = .next t ∧ ProfileSet s t h c tag := by
  obtain ⟨change, -⟩ := State.testSetProfile_ok ok
  have one : s.released.setOneProfile (handleNumber h) (s.handle h).gen.val field v =
      (((s.beforeEffect (.profile (s.currentHandle h))).applyProfileChange h c).afterAbandon.endWait, .ok (h, c)) := by
    have before : s.released.observed (.profile (s.currentHandle h)) = s.beforeEffect (.profile (s.currentHandle h)) :=
      State.observed_released s _
    rw [← before]
    exact State.setOneProfile_taken (s := s.released) ok may.unstopped
  have ran := exec_setProfile_one (tag := tag) may.ready named change
  rw [State.profilesSet, State.setProfilesLoop_ok (s := s.released) (named := some (s.handle h).gen.val) still one] at ran
  have done := s.answered_queued { s.observed (.profile (s.currentHandle h)) with handles := s.fieldChanged h c }
    (.profile (s.currentHandle h)) (s.nodup_changeReaches h c) tag rfl
  rw [← State.applyProfileChange_beforeEffect] at done
  obtain ⟨handles, pool, notices⟩ := done.profiles_of_settled
    (State.poolSettled_congr (s.pool_observed (.profile (s.currentHandle h))) may.settled)
  refine ⟨_, ran, handles, done.queued, done.others, done.resolver, ?_, ?_⟩
  all_goals
    generalize ((s.beforeEffect (.profile (s.currentHandle h))).applyProfileChange h c).afterAbandon.endWait = u
      at done handles pool notices ⊢
  · have cursor : u.currentHandle h = s.currentHandle h := State.currentHandle_of_fieldChanged handles h
    show { (u.answered tag .ok []).port with
      cursor := .profile (u.currentHandle h), inProgress := some ⟨tag, .answered ⟨.ok, byte1 1⟩⟩ } = _
    rw [done.port, cursor]
    rfl
  · have frame := done.frame
    rw [pool, notices] at frame
    exact congrArg (fun t : State => { t with port := { (u.answered tag .ok []).port with
      cursor := .profile (u.currentHandle h), inProgress := some ⟨tag, .answered ⟨.ok, byte1 1⟩⟩ } }) frame

end

/-! #### Labels reach every record (R160) -/

/-- What a change of an unwatched profile asks of the block. -/
structure State.ProfilesQuiet (s : State) : Prop where
  free : s.longOperation = none
  settled : s.poolSettled
  unwatched : ∀ g : Handle, s.unwatched .portChange (.profile g)

/-- A profile's entry with another label. -/
def HandleEntry.relabelled (e : HandleEntry) (x : BitVec 16) : HandleEntry :=
  { e with record := e.record.map fun r => { r with label := x } }

theorem HandleEntry.relabelled_relabelled (e : HandleEntry) (x : BitVec 16) :
    (e.relabelled x).relabelled x = e.relabelled x := by
  simp only [relabelled, Option.map_map, Function.comp_def]

/-- The profiles `hs`, one after another, have taken the label `x`. -/
structure ProfilesLabelled (x : BitVec 16) (hs : List HandleIx) (s t : State) : Prop where
  named : ∀ g ∈ hs, t.handle g = (s.handle g).relabelled x
  others : ∀ g, g ∉ hs → t.handle g = s.handle g
  cursor : t.port.cursor = (hs.getLast?.map fun g => .profile (s.currentHandle g)).getD s.port.cursor
  image : t.image = if hs = [] then s.image else s.endWait.image
  frame : t = { s with handles := t.handles, port := { s.port with cursor := t.port.cursor }, image := t.image }

namespace State

variable {s : State}

/-- The block after one label (R39, R160, R171). -/
def profileLabelled (s : State) (h : HandleIx) (x : BitVec 16) : State :=
  { s with handles := s.fieldChanged h (.label x), port := { s.port with cursor := .profile (s.currentHandle h) }
           image := s.endWait.image }

theorem handle_profileLabelled (s : State) (h g : HandleIx) (x : BitVec 16) : (s.profileLabelled h x).handle g =
    if g = h then (s.handle g).relabelled x else s.handle g := by
  refine (s.get_fieldChanged h (.label x) g).trans ?_
  split <;> rfl

theorem currentHandle_profileLabelled (s : State) (h g : HandleIx) (x : BitVec 16) :
    (s.profileLabelled h x).currentHandle g = s.currentHandle g := currentHandle_of_fieldChanged rfl g

theorem state_profileLabelled (s : State) (h g : HandleIx) (x : BitVec 16) :
    ((s.profileLabelled h x).handle g).state = (s.handle g).state := by
  rw [handle_profileLabelled]
  split <;> rfl

theorem endWait_image_profileLabelled (s : State) (h : HandleIx) (x : BitVec 16) :
    (s.profileLabelled h x).endWait.image = s.endWait.image :=
  (endWait_image_congr (t := s.profileLabelled h x) (s := s.endWait) rfl).trans (congrArg image s.endWait_endWait)

theorem ProfilesQuiet.profileLabelled (quiet : s.ProfilesQuiet) (h : HandleIx) (x : BitVec 16) :
    (s.profileLabelled h x).ProfilesQuiet where
  free := s.longOperation_endWait.trans quiet.free
  settled := quiet.settled
  unwatched := quiet.unwatched

theorem setOneProfile_label (quiet : s.ProfilesQuiet) {h : HandleIx} (inUse : (s.handle h).state ≠ .free) {v : Int}
    (low : 0 ≤ v) (high : v ≤ 65535) : s.setOneProfile (handleNumber h) (s.handle h).gen.val 0 v =
      (({ s with handles := s.fieldChanged h (.label (BitVec.ofInt 16 v)) } : State).endWait,
        .ok (h, .label (BitVec.ofInt 16 v))) := by
  have ok : s.testSetProfile (handleNumber h) (s.handle h).gen.val 0 v = .ok (h, .label (BitVec.ofInt 16 v)) :=
    testSetProfile_idle (profileChange_label low high) (nameHandle_present inUse) quiet.free
  rw [setOneProfile_taken ok (stops_of_unwatched (quiet.unwatched _)), observed_of_unwatched (quiet.unwatched _)]
  exact congrArg (fun t : State => (t.endWait, _)) (afterAbandon_of_settled quiet.settled)

theorem profileLabelled_eq (s : State) (h : HandleIx) (x : BitVec 16) :
    let t := ({ s with handles := s.fieldChanged h (.label x) } : State).endWait
    t.setCursor (.profile (t.currentHandle h)) = s.profileLabelled h x := by
  intro t
  have image : t.image = s.endWait.image := endWait_image_congr rfl
  have frame : t = { s with handles := s.fieldChanged h (.label x), image := t.image } := endWait_frame _
  have cursor : t.currentHandle h = s.currentHandle h := currentHandle_of_fieldChanged (by rw [frame]) h
  rw [cursor, frame, image]
  rfl

end State

theorem ProfilesLabelled.cons {x : BitVec 16} {h : HandleIx} {hs : List HandleIx} {s t : State}
    (rest : ProfilesLabelled x hs (s.profileLabelled h x) t) : ProfilesLabelled x (h :: hs) s t where
  named g hg := by
    by_cases again : g ∈ hs
    · rw [rest.named g again, State.handle_profileLabelled]
      split
      · exact HandleEntry.relabelled_relabelled ..
      · rfl
    · obtain rfl : g = h := by simpa [again] using hg
      rw [rest.others g again, State.handle_profileLabelled, if_pos rfl]
  others g hg := by
    obtain ⟨other, tail⟩ := not_or.mp (mt List.mem_cons.mpr hg)
    rw [rest.others g tail, State.handle_profileLabelled, if_neg other]
  cursor := by
    rw [rest.cursor, List.getLast?_cons]
    simp only [State.currentHandle_profileLabelled]
    cases hs.getLast? <;> rfl
  image := by
    rw [rest.image, State.endWait_image_profileLabelled, if_neg (List.cons_ne_nil h hs)]
    exact ite_id _
  frame := rest.frame

theorem State.namedGen_none (s : State) (h : HandleIx) : s.namedGen none (handleNumber h) = (s.handle h).gen.val := by
  rw [State.namedGen, Option.getD_none, State.presentGen, handleIx_handleNumber]

theorem setProfilesLoop_labels {s : State} {v : Int} (low : 0 ≤ v) (high : v ≤ 65535) (hs : List HandleIx)
    (named : Option Nat) (done : Nat) (quiet : s.ProfilesQuiet) (inUse : ∀ g ∈ hs, (s.handle g).state ≠ .free)
    (first : ∀ g ∈ hs.head?, s.namedGen named (handleNumber g) = (s.handle g).gen.val) :
    ∃ t, setProfilesLoop 0 v (hs.map handleNumber) named done s = (t, .answered (okBody (byte1 (done + hs.length)))) ∧
      ProfilesLabelled (BitVec.ofInt 16 v) hs s t := by
  induction hs generalizing s named done with
  | nil => exact ⟨s, rfl, nofun, fun _ _ => rfl, rfl, rfl, rfl⟩
  | cons h hs ih =>
    have head := first h rfl
    have one := State.setOneProfile_label quiet (inUse h (List.mem_cons_self ..)) low high
    rw [← head] at one
    obtain ⟨t, loop, set⟩ := ih none (done + 1) (quiet.profileLabelled h (BitVec.ofInt 16 v))
      (fun g mem => by
        rw [State.state_profileLabelled]
        exact inUse g (List.mem_cons_of_mem h mem))
      fun g _ => State.namedGen_none _ g
    refine ⟨t, ?_, set.cons⟩
    rw [List.map_cons, State.setProfilesLoop_ok rfl one, State.profileLabelled_eq, List.length_cons, ← Nat.add_assoc,
      Nat.add_right_comm]
    exact loop

/-! #### The profiles that a SET names -/

/-- The profiles that a SET names: `count` of them from `h` on, `step` apart. -/
def namedHandles (h : HandleIx) (count step : Nat) : List HandleIx :=
  (recordNumbers (handleNumber h) count step).filterMap handleIx

theorem handleNumber_injective : Function.Injective handleNumber := fun _ _ same =>
  Fin.ext (Nat.succ.inj same)

theorem mem_namedHandles {h g : HandleIx} {count step : Nat} :
    g ∈ namedHandles h count step ↔ ∃ j, j < count ∧ g.val = h.val + j * step := by
  simp only [namedHandles, List.mem_filterMap, handleIx_some_iff, exists_eq_right, mem_recordNumbers, handleNumber]
  exact exists_congr fun j => and_congr_right fun _ => by omega

/-- Within the class, the records of a SET are all profiles. -/
theorem map_namedHandles {h : HandleIx} {count step : Nat} (range : handleNumber h + (count - 1) * step ≤ 255)
    (pos : 1 ≤ count) : (namedHandles h count step).map handleNumber = recordNumbers (handleNumber h) count step := by
  have low := (recordNumbers_le pos).mpr range
  have number : ∀ n ∈ recordNumbers (handleNumber h) count step, (handleIx n).map handleNumber = some n := by
    intro n mem
    have bound := low n mem
    obtain ⟨j, -, rfl⟩ := mem_recordNumbers.mp mem
    cases ix : handleIx (handleNumber h + j * step) with
    | none =>
      have outside := handleIx_none_iff.mp ix
      rw [handleNumber] at outside bound
      omega
    | some g => exact congrArg some (handleIx_some_iff.mp ix).symm
  rw [namedHandles, List.map_filterMap, List.filterMap_congr number, List.filterMap_some]

theorem length_namedHandles {h : HandleIx} {count step : Nat} (range : handleNumber h + (count - 1) * step ≤ 255)
    (pos : 1 ≤ count) : (namedHandles h count step).length = count := by
  rw [← List.length_map handleNumber, map_namedHandles range pos, length_recordNumbers]

theorem namedHandles_head (h : HandleIx) (n step : Nat) : (namedHandles h (n + 1) step).head? = some h := by
  rw [namedHandles, recordNumbers_succ, List.filterMap_cons, handleIx_handleNumber]
  rfl

theorem namedHandles_last {h last : HandleIx} {count step : Nat} (pos : 1 ≤ count)
    (place : last.val = h.val + (count - 1) * step) : (namedHandles h count step).getLast? = some last := by
  obtain ⟨n, rfl⟩ : ∃ n, count = n + 1 := ⟨count - 1, by omega⟩
  have number : handleNumber h + n * step = handleNumber last := by
    rw [Nat.add_sub_cancel] at place
    rw [handleNumber, handleNumber, place, Nat.add_right_comm]
  rw [namedHandles, recordNumbers_add, number, recordNumbers_one, List.filterMap_append, List.filterMap_cons,
    handleIx_handleNumber]
  exact List.getLast?_concat

/-- A SET of labels over a quiet block, once its records are known (R160). -/
theorem setProfileLabels {s : State} {tag : Byte} {ref : RecordRef} {h : HandleIx} {v : Int} {count step : Nat}
    (ready : s.ready) (named : s.refProfile ref = .ok h) (small : 1 ≤ count ∧ count ≤ 16 ∧ 1 ≤ step ∧ step ≤ 16)
    (range : handleNumber h + (count - 1) * step ≤ 255) (low : 0 ≤ v) (high : v ≤ 65535) (quiet : s.ProfilesQuiet)
    (inUse : ∀ g ∈ namedHandles h count step, (s.handle g).state ≠ .free) :
    ∃ t, exec (.set ⟨tag, some ⟨ref, 0, v, count, step⟩⟩) s = .next (t.answered tag .ok (byte1 count)) ∧
      ProfilesLabelled (BitVec.ofInt 16 v) (namedHandles h count step) s.released t := by
  have released : s.released.ProfilesQuiet := ⟨quiet.free, quiet.settled, quiet.unwatched⟩
  have first : ∀ g ∈ (namedHandles h count step).head?,
      s.released.namedGen (some (s.handle h).gen.val) (handleNumber g) = (s.released.handle g).gen.val := by
    obtain ⟨n, rfl⟩ : ∃ n, count = n + 1 := ⟨count - 1, by omega⟩
    rintro g head
    rw [namedHandles_head] at head
    cases head
    rfl
  obtain ⟨t, loop, set⟩ := setProfilesLoop_labels low high (namedHandles h count step) (some (s.handle h).gen.val) 0
    released inUse first
  rw [map_namedHandles range small.1, length_namedHandles range small.1, Nat.zero_add] at loop
  refine ⟨t, ?_, set⟩
  rw [exec_set_profiles _ ready rfl named (profileChange_label low high) small range, State.profilesSet, loop]
  rfl

end Sys2Proof.Machine
end

section
/-! ### SET of profiles: the obligation (R27, R35, R36, R39, R61, R145, R160) -/

namespace Sys2Proof.Machine

section

variable {s : State} {h : HandleIx} {field : Nat} {v : Int} {ref : RecordRef}

/-- A SET of one profile whose content is bad, and that does not wait (R27). -/
theorem exec_setProfile_badValue {tag : Byte} (ready : s.ready) (named : s.refProfile ref = .ok h)
    (bad : profileChange field v = none) (still : (contentField field && (s.handle h).inMove) = false) :
    exec (.set ⟨tag, some ⟨ref, field, v, 1, 1⟩⟩) s = .next (s.released.answered tag .badValue []) := by
  have plan := State.setPlan_ranged (count := 1) (step := 1) named field v (by omega) (by have := handleNumber_le h; omega)
  exact exec_setProfile_refused _ ready rfl named (plan.trans (if_pos ⟨bad, still⟩))

/-- A count or step outside its range, and then records beyond the class, refuse the SET; bad content does so first (R27,
R160). -/
theorem exec_setProfile_outside {tag : Byte} {count step : Nat} {st : Status} (ready : s.ready)
    (named : s.refProfile ref = .ok h) (range : s.setRange ⟨ref, field, v, count, step⟩ = .error st) :
    exec (.set ⟨tag, some ⟨ref, field, v, count, step⟩⟩) s =
      .next (s.released.answered tag (if profileChange field v = none then .badValue else st) []) := by
  have still : s.setFirstWaits ⟨ref, field, v, count, step⟩ = false := by rw [State.setFirstWaits, range]
  have plan := State.setPlan_of_refProfile named field v count step
  refine exec_setProfile_refused _ ready rfl named (plan.trans ?_)
  rw [range, still]
  by_cases bad : profileChange field v = none <;> simp [bad]

/-- A record of a SET does not wait where its profile is not in move or its field is no content (R61). -/
theorem State.setWaits_still (still : (s.handle h).inMove = false ∨ contentField field = false) (gen : Nat) :
    s.setWaits field (handleNumber h) gen = false := by
  rw [setWaits]
  rcases still with unmoved | plain
  · cases name : s.nameHandle (handleNumber h) gen with
    | error st => exact Bool.and_false _
    | ok g =>
      obtain ⟨-, -, number⟩ := nameHandle_ok name
      rw [handleIx_handleNumber] at number
      cases number
      show (contentField field && (s.handle h).inMove) = false
      rw [unmoved, Bool.and_false]
  · rw [plain, Bool.false_and]

/-- The feeds that a change of a field queues, by its field (R36). -/
theorem State.changeReaches_eq {c : ProfileChange} (change : profileChange field v = some c) :
    s.changeReaches h c = if field = 0 ∨ field = 1 then [] else s.feedsReaching h := by
  rw [changeReaches, isContent_of_profileChange change]
  by_cases plain : field = 0 ∨ field = 1 <;> simp [plain]

variable {t u : State} {g : HandleIx} {n step done : Nat}

/-- A later record, under its present generation, refused (R160). -/
theorem setProfilesLoop_later_error {st : Status} (still : (t.handle g).inMove = false ∨ contentField field = false)
    (refused : t.setOneProfile (handleNumber g) (t.handle g).gen.val field v = (u, .error st)) (pos : 1 ≤ n) :
    setProfilesLoop field v (recordNumbers (handleNumber g) n step) none done t = (u, .answered ⟨st,
      byte1 done ++ (RecordRef.numbered .profile (handleNumber g) (t.handle g).gen.val).bytes⟩) := by
  obtain ⟨m, rfl⟩ : ∃ m, n = m + 1 := ⟨n - 1, by omega⟩
  have gen := t.namedGen_none g
  rw [← gen] at refused
  rw [recordNumbers_succ, State.setProfilesLoop_error (State.setWaits_still still _) refused, gen]
  rfl

/-- A later content edit of a profile in move waits, with the records from there on (R61, R160). -/
theorem setProfilesLoop_later_waits (inUse : (t.handle g).state ≠ .free) (moves : (t.handle g).inMove = true)
    (content : contentField field = true) (pos : 1 ≤ n) :
    setProfilesLoop field v (recordNumbers (handleNumber g) n step) none done t =
      (t, .waiting (.set ⟨recordNumbers (handleNumber g) n step, none, field, v, done⟩)) := by
  obtain ⟨m, rfl⟩ : ∃ m, n = m + 1 := ⟨n - 1, by omega⟩
  have waits : t.setWaits field (handleNumber g) (t.namedGen none (handleNumber g)) = true := by
    rw [State.namedGen_none, State.setWaits, State.nameHandle_present inUse, content]
    exact moves
  rw [recordNumbers_succ, State.setProfilesLoop_waits waits]

end

/-- Settles O28: the tests of SET of a profile field in their order, its ends at the first record and at a later one, the
wait of a later content edit, and labels over a range. -/
theorem profileFieldSet : Obligations.ProfileFieldSet := by
  unfold Obligations.ProfileFieldSet
  refine ⟨fun s tag ref h field v ready named => ?_,
    fun s u tag ref h g field v done count step ready named pos less most step1 step16 range place before whole => ?_,
    fun s tag ref h last v count step ready named pos most step1 step16 place low high free settled unwatched => ?_⟩
  · intro request tested
    obtain ⟨-, inUse⟩ := State.refProfile_target named
    have present := State.nameHandle_present inUse
    have idle : ∀ {c}, profileChange field v = some c → s.longOperation = none → tested = s.testProfileField h c :=
      fun change free => State.testSetProfile_idle change present free
    have waits : (s.handle h).inMove = false ∨ field = 0 ∨ field = 1 →
        s.setWaits field (handleNumber h) (s.handle h).gen.val = false := by
      refine fun still => State.setWaits_still (still.imp id fun plain => ?_) _
      rcases plain with rfl | rfl <;> rfl
    refine ⟨fun bad still => ?_, profileChange_none_iff field v, fun st known busy => ?_,
      fun free => ⟨?_, ?_, ?_, ?_, ?_, ?_, ?_⟩, fun count step => ⟨fun bad => ?_, fun pos most step1 step16 far => ?_⟩,
      fun still => ⟨fun st known bad => ?_, fun c ok stop => ?_, fun c ok may => ?_⟩⟩
    · refine exec_setProfile_badValue ready named bad ?_
      rcases still with unmoved | ⟨two, three, four⟩
      · rw [unmoved, Bool.and_false]
      · simp [contentField, two, three, four]
    · obtain ⟨c, change⟩ := Option.ne_none_iff_exists'.mp known
      exact State.testSetProfile_busy change present busy
    · rintro rfl low high
      exact idle (profileChange_label low high) free
    · rintro tier rfl rfl
      exact idle (profileChange_tier tier) free
    · rintro rfl rfl
      exact idle rfl free
    · rintro rfl low high
      exact idle (profileChange_trim low high) free
    · rintro rfl low high
      exact idle (profileChange_gain low high) free
    · rintro rfl rfl
      exact idle rfl free
    · rintro rfl rfl
      exact idle rfl free
    · have refused := exec_setProfile_outside (tag := tag) (v := v) ready named
        ((State.setRange_of_refProfile named field v count step).trans (if_pos bad))
      rwa [ite_self] at refused
    · exact exec_setProfile_outside ready named
        ((State.setRange_of_refProfile named field v count step).trans ((if_neg (by omega)).trans (if_pos far)))
    · obtain ⟨c, change⟩ := Option.ne_none_iff_exists'.mp known
      exact exec_setProfile_error ready named change (waits still) (State.setOneProfile_error (s := s.released) bad)
    · obtain ⟨change, -⟩ := State.testSetProfile_ok ok
      exact exec_setProfile_error ready named change (waits still) (State.setOneProfile_stopped (s := s.released) ok stop)
    · obtain ⟨change, -⟩ := State.testSetProfile_ok ok
      obtain ⟨t, ran, done⟩ := exec_setProfile_taken (tag := tag) named (waits still) ok may
      have entry : ∀ g, t.handle g = _ := fun g =>
        (congrArg (Table.get · g) done.handles).trans (s.get_fieldChanged h c g)
      obtain ⟨-, queued, others, resolver, port, frame⟩ := done
      rw [State.changeReaches_eq change] at queued others resolver
      refine ⟨t, ran, ?_, fun g other => ?_, ⟨queued, others, resolver⟩, port, frame⟩
      · rw [entry, if_pos rfl]
        cases c <;> rfl
      · rw [entry, if_neg other]
  · intro request tested content refused ended
    obtain ⟨t, rfl, run⟩ :=
      exec_set_later ready named ⟨pos, less, most, step1, step16⟩ range place before whole
    have pos : 1 ≤ count - done := by omega
    refine ⟨fun still => ?_, fun inUse moves holds => ?_⟩
    · have still : (t.handle g).inMove = false ∨ contentField field = false :=
        still.imp id fun plain => by rwa [← Bool.not_eq_true, contentField_iff]
      refine ⟨fun st bad => ?_, fun c ok stop => ?_⟩
      · rw [setProfilesLoop_later_error still (State.setOneProfile_error bad) pos] at run
        exact run
      · obtain ⟨x, c⟩ := c
        obtain ⟨-, name⟩ := State.testSetProfile_ok ok
        obtain ⟨-, -, number⟩ := State.nameHandle_ok name
        rw [handleIx_handleNumber] at number
        obtain rfl : g = x := Option.some.inj number
        rw [setProfilesLoop_later_error still (State.setOneProfile_stopped (s := t) ok stop) pos] at run
        rw [run]
        show _ = Host.Outcome.next (ended ((t.answered tag .ok (byte1 done)).watchTest .portChange
          (.profile (t.currentHandle g))).1 .watched)
        rw [State.observed_answered]
        rfl
    · rw [setProfilesLoop_later_waits (t := t) inUse moves (contentField_iff.mpr holds) pos] at run
      exact run
  · intro holds inUse
    have bound : handleNumber h + (count - 1) * step ≤ 255 := by
      have := last.isLt
      rw [handleNumber]
      omega
    obtain ⟨t, ran, set⟩ := setProfileLabels (tag := tag) ready named ⟨pos, most, step1, step16⟩ bound low high
      ⟨free, settled, fun g => unwatched g⟩ fun g mem => inUse g (mem_namedHandles.mp mem)
    refine ⟨_, ran, fun g holds => set.named g (mem_namedHandles.mpr holds),
      fun g other => set.others g (mt mem_namedHandles.mp other), ?_⟩
    have frame := set.frame
    have nonempty : namedHandles h count step ≠ [] :=
      List.ne_nil_of_mem (mem_namedHandles.mpr ⟨0, pos, by omega⟩ : h ∈ namedHandles h count step)
    rw [set.cursor, set.image, namedHandles_last pos place, if_neg nonempty,
      State.endWait_image_congr (t := s.released) (s := s) rfl] at frame
    exact congrArg (State.answered · tag .ok (byte1 count)) frame

end Sys2Proof.Machine
end

section
/-! ### The words of the pool, and the moves between them (R31, R50, R51, R56) -/

namespace Sys2Proof.Machine

/-- Word `w` lies in the extent, where there is one. -/
def heldBy (o : Option Extent) (w : Nat) : Prop := ∃ x, o = some x ∧ x.holds w

@[simp] theorem not_heldBy_none (w : Nat) : ¬ heldBy none w := nofun

@[simp] theorem heldBy_some (x : Extent) (w : Nat) : heldBy (some x) w ↔ x.holds w := by simp [heldBy]

/-- What `PoolSound` says of the words, but for the moves: the extents of the handles and the free list part the pool. -/
structure PoolParted (s : State) : Prop where
  listSound : freeListSound s.pool.free
  inside : ∀ w, (s.freeWord w ∨ ∃ h, s.ownsWord h w) ↔ w < Config.poolWords
  freeApart : ∀ h w, s.ownsWord h w → ¬ s.freeWord w
  handlesApart : ∀ h h' w, s.ownsWord h w → s.ownsWord h' w → h = h'
  placed : ∀ h, (s.handle h).state = .free ↔ (s.handle h).extent = none
  recorded : ∀ h, (s.handle h).state = .free ↔ (s.handle h).record = none
  nonempty : ∀ h x, (s.handle h).extent = some x → 1 ≤ x.len
  heldImage : s.heldImageValid

/-- What `PoolSound` says of the moves. Once `settled`, the handle of the move in flight holds its own words again, and
the move record only waits for the end of the step to go (R60). -/
structure MovesSound (settled : Bool) (s : State) : Prop where
  wholeLength : ∀ h x r, (s.handle h).inMove = false → (s.handle h).extent = some x →
    (s.handle h).record = some r → x.len = recordWords r.sections.length
  inMove : ∀ h, (s.handle h).inMove = true ↔ settled = false ∧ ∃ m, s.pool.move = some m ∧ m.handle = h
  moveSpan : settled = false → ∀ m, s.pool.move = some m →
    (s.handle m.handle).extent = some ⟨m.spanStart, m.spanLen⟩ ∧ m.recordLen < m.spanLen ∧
    ∃ r, (s.handle m.handle).record = some r ∧ m.recordLen = recordWords r.sections.length
  running : s.pool.move.isSome = true → s.pool.compaction ≠ .idle
  settling : settled = true → s.pool.move.isSome = true

/-- The invariant between the effect of a change and the move that follows it (R62). -/
structure PoolHeld (settled : Bool) (s : State) : Prop where
  parted : PoolParted s
  moves : MovesSound settled s

/-- The invariant between the changes of a step. -/
structure PoolKept (settled : Bool) (s : State) : Prop extends PoolHeld settled s where
  settles : s.poolSettled

theorem recordWords_pos (n : Nat) : 1 ≤ recordWords n := by
  unfold recordWords Config.headerWords
  omega

theorem poolKept_iff {s : State} : PoolKept false s ↔ PoolSound s := by
  constructor
  · intro k
    obtain ⟨⟨p, m⟩, settles⟩ := k
    exact ⟨p.listSound, p.inside, p.freeApart, p.handlesApart, p.placed, p.recorded, m.wholeLength,
      fun h => (m.inMove h).trans (and_iff_right rfl), m.moveSpan rfl, settles, p.heldImage⟩
  · intro k
    refine ⟨⟨⟨k.listSound, k.inside, k.freeApart, k.handlesApart, k.placed, k.recorded, fun h x hx => ?_, k.heldImage⟩,
      ⟨k.wholeLength, fun h => (k.inMove h).trans (and_iff_right rfl).symm, fun _ => k.moveSpan, k.running.mp, nofun⟩⟩,
      k.running⟩
    cases moving : (s.handle h).inMove with
    | true =>
      obtain ⟨m, hm, rfl⟩ := (k.inMove h).mp moving
      obtain ⟨span, longer, -⟩ := k.moveSpan m hm
      cases hx.symm.trans span
      exact Nat.one_le_of_lt longer
    | false =>
      have used : (s.handle h).record ≠ none := fun n => by
        rw [(k.placed h).mp ((k.recorded h).mpr n)] at hx
        cases hx
      obtain ⟨r, hr⟩ := Option.ne_none_iff_exists'.mp used
      rw [k.wholeLength h x r moving hx hr]
      exact recordWords_pos _

/-! #### Changes that the storage does not see -/

/-- `t` holds the words of `s`: the extents, the lengths of the records and the pool. -/
structure SameStorage (s t : State) : Prop where
  free : ∀ h, (t.handle h).state = .free ↔ (s.handle h).state = .free
  extent : ∀ h, (t.handle h).extent = (s.handle h).extent
  inMove : ∀ h, (t.handle h).inMove = (s.handle h).inMove
  sections : ∀ h, (t.handle h).record.map (fun r => r.sections.length) =
    (s.handle h).record.map (fun r => r.sections.length)
  pool : t.pool = s.pool
  image : t.heldImageValid ∨ t.image = s.image

namespace SameStorage

variable {s t u : State}

theorem refl (s : State) : SameStorage s s :=
  ⟨fun _ => Iff.rfl, fun _ => rfl, fun _ => rfl, fun _ => rfl, rfl, .inr rfl⟩

theorem trans (a : SameStorage s t) (b : SameStorage t u) : SameStorage s u where
  free h := (b.free h).trans (a.free h)
  extent h := (b.extent h).trans (a.extent h)
  inMove h := (b.inMove h).trans (a.inMove h)
  sections h := (b.sections h).trans (a.sections h)
  pool := b.pool.trans a.pool
  image := by
    rcases b.image with valid | eq
    · exact .inl valid
    · exact a.image.imp (fun valid => by unfold State.heldImageValid; rw [eq]; exact valid) eq.trans

/-- A change of neither the handles nor the pool, with the image status as it was. -/
theorem of_eq (handles : t.handles = s.handles) (pool : t.pool = s.pool) (image : t.image = s.image) :
    SameStorage s t := by
  constructor <;> simp [State.handle, handles, pool, image]

/-- A change of neither the handles nor the pool, with an image that waits valid. -/
theorem of_eq_valid (handles : t.handles = s.handles) (pool : t.pool = s.pool) (valid : t.heldImageValid) :
    SameStorage s t := by
  refine ⟨?_, ?_, ?_, ?_, pool, .inl valid⟩ <;> simp [State.handle, handles]

/-- A change of neither the handles nor the pool, after which no image waits for the override. -/
theorem of_eq_unheld (handles : t.handles = s.handles) (pool : t.pool = s.pool)
    (image : ∀ g, t.image ≠ .loading (.held g)) : SameStorage s t :=
  of_eq_valid handles pool fun g hg => absurd hg (image g)

/-- One handle rewritten in its place, with a record of the length it had. -/
theorem of_handle {h : HandleIx} {e : HandleEntry} (handles : t.handles = s.handles.upd h e) (pool : t.pool = s.pool)
    (image : t.image = s.image) (free : e.state = .free ↔ (s.handle h).state = .free)
    (extent : e.extent = (s.handle h).extent) (inMove : e.inMove = (s.handle h).inMove)
    (sections : e.record.map (fun r => r.sections.length) = (s.handle h).record.map (fun r => r.sections.length)) :
    SameStorage s t := by
  have handle : ∀ g, t.handle g = if g = h then e else s.handle g := fun g => by
    rw [State.handle, handles, Table.get_upd]
    rfl
  refine ⟨?_, ?_, ?_, ?_, pool, .inr image⟩
  all_goals
    intro g
    rw [handle]
    split
    · next same => subst same; assumption
    · rfl

theorem ownsWord (same : SameStorage s t) (h : HandleIx) (w : Nat) : t.ownsWord h w ↔ s.ownsWord h w := by
  unfold State.ownsWord
  rw [same.extent]

theorem freeWord (same : SameStorage s t) (w : Nat) : t.freeWord w ↔ s.freeWord w := by
  unfold State.freeWord
  rw [same.pool]

theorem record_none (same : SameStorage s t) (h : HandleIx) :
    (t.handle h).record = none ↔ (s.handle h).record = none := by
  rw [← Option.map_eq_none_iff (f := fun r : ProfileRecord => r.sections.length), same.sections,
    Option.map_eq_none_iff]

/-- A record of `t` has the length of one of `s`. -/
theorem record_some (same : SameStorage s t) {h : HandleIx} {r : ProfileRecord} (hr : (t.handle h).record = some r) :
    ∃ q, (s.handle h).record = some q ∧ q.sections.length = r.sections.length := by
  have := same.sections h
  rw [hr, Option.map_some] at this
  exact Option.map_eq_some_iff.mp this.symm

theorem symm_sections (same : SameStorage s t) {h : HandleIx} {r : ProfileRecord} (hr : (s.handle h).record = some r) :
    ∃ q, (t.handle h).record = some q ∧ q.sections.length = r.sections.length := by
  have := same.sections h
  rw [hr, Option.map_some] at this
  exact Option.map_eq_some_iff.mp this

end SameStorage

theorem PoolParted.of_same {s t : State} (p : PoolParted s) (same : SameStorage s t) : PoolParted t where
  listSound := by rw [same.pool]; exact p.listSound
  inside w := by simp only [same.freeWord, same.ownsWord]; exact p.inside w
  freeApart h w := by rw [same.freeWord, same.ownsWord]; exact p.freeApart h w
  handlesApart h h' w := by rw [same.ownsWord, same.ownsWord]; exact p.handlesApart h h' w
  placed h := by rw [same.free, same.extent]; exact p.placed h
  recorded h := by rw [same.free, same.record_none]; exact p.recorded h
  nonempty h x := by rw [same.extent]; exact p.nonempty h x
  heldImage := by
    rcases same.image with valid | eq
    · exact valid
    · unfold State.heldImageValid
      rw [eq]
      exact p.heldImage

theorem MovesSound.of_same {settled : Bool} {s t : State} (m : MovesSound settled s) (same : SameStorage s t) :
    MovesSound settled t where
  wholeLength h x r still hx hr := by
    obtain ⟨q, hq, length⟩ := same.record_some hr
    rw [← length]
    exact m.wholeLength h x q (same.inMove h ▸ still) (same.extent h ▸ hx) hq
  inMove h := by rw [same.inMove, same.pool]; exact m.inMove h
  moveSpan unsettled n hn := by
    rw [same.pool] at hn
    rw [same.extent]
    obtain ⟨span, longer, r, hr, length⟩ := m.moveSpan unsettled n hn
    obtain ⟨q, hq, eq⟩ := same.symm_sections hr
    exact ⟨span, longer, q, hq, by rw [eq, length]⟩
  running := by rw [same.pool]; exact m.running
  settling := by rw [same.pool]; exact m.settling

theorem PoolHeld.of_same {settled : Bool} {s t : State} (b : PoolHeld settled s) (same : SameStorage s t) :
    PoolHeld settled t := ⟨b.parted.of_same same, b.moves.of_same same⟩

theorem PoolKept.of_same {settled : Bool} {s t : State} (k : PoolKept settled s) (same : SameStorage s t) :
    PoolKept settled t :=
  ⟨k.toPoolHeld.of_same same, by unfold State.poolSettled; rw [same.pool]; exact k.settles⟩

/-! #### One handle's words exchanged -/

/-- One handle's words exchanged with the free list: what the two held together they hold together again, apart. -/
theorem PoolParted.exchange {s t : State} (p : PoolParted s) {h : HandleIx} {e : HandleEntry}
    (entry : ∀ g, t.handle g = if g = h then e else s.handle g) (sound : freeListSound t.pool.free)
    (words : ∀ w, heldBy e.extent w ∨ covered t.pool.free w ↔ s.ownsWord h w ∨ s.freeWord w)
    (apart : ∀ w, heldBy e.extent w → ¬ covered t.pool.free w) (placed : e.state = .free ↔ e.extent = none)
    (recorded : e.state = .free ↔ e.record = none) (nonempty : ∀ x, e.extent = some x → 1 ≤ x.len)
    (image : t.image = s.image) : PoolParted t := by
  have own : ∀ w, t.ownsWord h w ↔ heldBy e.extent w := fun w => by
    unfold State.ownsWord heldBy
    rw [entry, if_pos rfl]
  have other : ∀ g, g ≠ h → ∀ w, t.ownsWord g w ↔ s.ownsWord g w := fun g hg w => by
    unfold State.ownsWord
    rw [entry, if_neg hg]
  have free : ∀ w, t.freeWord w ↔ covered t.pool.free w := fun w => Iff.rfl
  /- The words of the other handles are neither the changed handle's nor free, before and after. -/
  have elsewhere : ∀ g, g ≠ h → ∀ w, s.ownsWord g w → ¬ t.ownsWord h w ∧ ¬ t.freeWord w := fun g hg w hw => by
    have : ¬ (s.ownsWord h w ∨ s.freeWord w) := by
      rintro (mine | free)
      · exact hg (p.handlesApart g h w hw mine)
      · exact p.freeApart g w hw free
    rw [← words, not_or] at this
    exact ⟨fun mine => this.1 ((own w).mp mine), this.2⟩
  refine ⟨sound, fun w => ?_, fun g w hw => ?_, fun g g' w hw hw' => ?_, fun g => ?_, fun g => ?_, fun g x => ?_, ?_⟩
  · rw [← p.inside w]
    have apartFrom : ∀ u : State, (∃ g, u.ownsWord g w) ↔ u.ownsWord h w ∨ ∃ g, g ≠ h ∧ u.ownsWord g w := fun u => by
      constructor
      · rintro ⟨g, hg⟩
        by_cases same : g = h
        · exact .inl (same ▸ hg)
        · exact .inr ⟨g, same, hg⟩
      · rintro (mine | ⟨g, -, hg⟩)
        · exact ⟨h, mine⟩
        · exact ⟨g, hg⟩
    have others : (∃ g, g ≠ h ∧ t.ownsWord g w) ↔ ∃ g, g ≠ h ∧ s.ownsWord g w :=
      exists_congr fun g => and_congr_right fun hg => other g hg w
    have both := words w
    rw [← own, ← free] at both
    rw [apartFrom t, apartFrom s, others]
    tauto
  · by_cases same : g = h
    · subst same
      exact apart w ((own w).mp hw)
    · exact (elsewhere g same w ((other g same w).mp hw)).2
  · by_cases same : g = h
    · subst same
      by_contra ne
      exact (elsewhere g' (Ne.symm ne) w ((other g' (Ne.symm ne) w).mp hw')).1 hw
    · have old := (other g same w).mp hw
      by_cases same' : g' = h
      · subst same'
        exact absurd hw' (elsewhere g same w old).1
      · exact p.handlesApart g g' w old ((other g' same' w).mp hw')
  · rw [entry]
    split
    · exact placed
    · exact p.placed g
  · rw [entry]
    split
    · exact recorded
    · exact p.recorded g
  · rw [entry]
    split
    · exact nonempty x
    · exact p.nonempty g x
  · unfold State.heldImageValid
    rw [image]
    exact p.heldImage

/-- A handle that is in no move rewritten, with a record of its own length. -/
theorem MovesSound.rewrite {settled : Bool} {s t : State} (m : MovesSound settled s) {h : HandleIx} {e : HandleEntry}
    (still : (s.handle h).inMove = false) (entry : ∀ g, t.handle g = if g = h then e else s.handle g)
    (inMove : e.inMove = false)
    (whole : ∀ x r, e.extent = some x → e.record = some r → x.len = recordWords r.sections.length)
    (move : t.pool.move = s.pool.move) (compaction : t.pool.compaction = s.pool.compaction) :
    MovesSound settled t where
  wholeLength g x r hg hx hr := by
    rw [entry] at hg hx hr
    split at hx
    · next same =>
      rw [if_pos same] at hr
      exact whole x r hx hr
    · next ne =>
      rw [if_neg ne] at hg hr
      exact m.wholeLength g x r hg hx hr
  inMove g := by
    rw [entry, move, ← m.inMove]
    split
    · next same => rw [same, inMove, still]
    · rfl
  moveSpan unsettled n hn := by
    rw [move] at hn
    have other : n.handle ≠ h := fun same => by
      rw [(m.inMove h).mpr ⟨unsettled, n, hn, same⟩] at still
      cases still
    rw [entry, if_neg other]
    exact m.moveSpan unsettled n hn
  running := by rw [move, compaction]; exact m.running
  settling := by rw [move]; exact m.settling

/-- With no move in flight no handle is in move. -/
theorem MovesSound.still {settled : Bool} {s : State} (m : MovesSound settled s) (idle : s.pool.move = none)
    (h : HandleIx) : (s.handle h).inMove = false := by
  rw [Bool.eq_false_iff, Ne, m.inMove]
  rintro ⟨-, n, hn, -⟩
  rw [idle] at hn
  cases hn

/-- The extent of a handle shares no word with the free list. -/
theorem PoolParted.apartFrom {s : State} (p : PoolParted s) {h : HandleIx} {x : Extent}
    (hx : (s.handle h).extent = some x) : Machine.apartFrom x s.pool.free :=
  apartFrom_of_words (p.nonempty h x hx) p.listSound.1 fun w hw => p.freeApart h w ⟨x, hx, hw⟩

end Sys2Proof.Machine
end

section
/-! ### Freeing, moves and changes of a record keep the pool sound (R34, R52, R53, R55, R58, R60) -/

namespace Sys2Proof.Machine

/-- Words given back, where there are any: the list keeps its form and covers them too (R52). -/
theorem giveBackOptional_spec {o : Option Extent} {free : List Extent} (nonempty : ∀ x, o = some x → 1 ≤ x.len)
    (sound : freeListSound free) (apart : ∀ x, o = some x → apartFrom x free) :
    freeListSound (giveBackOptional free o) ∧ ∀ w, covered (giveBackOptional free o) w ↔ heldBy o w ∨ covered free w := by
  cases o with
  | none => exact ⟨sound, fun w => by simp [giveBackOptional]⟩
  | some x =>
    obtain ⟨still, -, words⟩ := giveBack_spec x free (nonempty x rfl) sound (apart x rfl)
    exact ⟨still, fun w => by rw [heldBy_some]; exact words w⟩

theorem giveBackOptional_eq (free : List Extent) (o : Option Extent) :
    (match o with
      | some x => giveBack x free
      | none => free) = giveBackOptional free o := by
  cases o <;> rfl

theorem State.freeOne_pool (s : State) (h : HandleIx) : (s.freeOne h).pool =
    { s.pool with
      free := giveBackOptional s.pool.free (s.handle h).extent
      move := if (s.handle h).inMove then none else s.pool.move } := by
  rw [← giveBackOptional_eq]
  rfl

namespace PoolHeld

variable {settled : Bool} {s : State}

/-! #### Counts and frees (R33, R34) -/

/-- A handle freed, whether in use or not, gives its words back; a move of it is abandoned. -/
theorem freeOne (b : PoolHeld settled s) (h : HandleIx) : PoolHeld settled (s.freeOne h) := by
  have entry := s.freeOne_handle h
  obtain ⟨sound, words⟩ := giveBackOptional_spec (b.parted.nonempty h) b.parted.listSound fun x hx => b.parted.apartFrom hx
  have pool := s.freeOne_pool h
  refine ⟨b.parted.exchange entry (by rw [pool]; exact sound) (fun w => ?_) (fun w hw => absurd hw (not_heldBy_none w))
    (by simp) (by simp) nofun rfl, ?_⟩
  · rw [pool, words]
    simp only [not_heldBy_none, false_or]
    rfl
  cases moving : (s.handle h).inMove with
  | false => exact b.moves.rewrite moving entry rfl nofun (by rw [pool, moving]; rfl) (by rw [pool])
  | true =>
    obtain ⟨unsettled, m, hm, rfl⟩ := (b.moves.inMove h).mp moving
    have gone : (s.freeOne m.handle).pool.move = none := by rw [pool, moving]; rfl
    have still : ∀ g, g ≠ m.handle → (s.handle g).inMove = false := fun g hg => by
      rw [Bool.eq_false_iff, Ne, b.moves.inMove]
      rintro ⟨-, n, hn, rfl⟩
      cases hn.symm.trans hm
      exact hg rfl
    constructor
    case wholeLength =>
      intro g x r _ hx hr
      rw [entry] at hx hr
      split at hx
      · cases hx
      · next ne =>
        rw [if_neg ne] at hr
        exact b.moves.wholeLength g x r (still g ne) hx hr
    case inMove =>
      intro g
      rw [entry, gone]
      split
      · simp
      · next ne => simp [still g ne]
    case moveSpan => intro _ n hn; rw [gone] at hn; cases hn
    case running => rw [gone]; nofun
    case settling => rw [unsettled]; nofun

theorem recount (b : PoolHeld settled s) (h : HandleIx) (count : Nat) :
    PoolHeld settled (s.setHandle h { s.handle h with refCount := count }) :=
  b.of_same (.of_handle rfl rfl rfl Iff.rfl rfl rfl rfl)

theorem raiseCount (b : PoolHeld settled s) (h : HandleIx) : PoolHeld settled (s.raiseCount h) := b.recount h _

theorem lowerCount (b : PoolHeld settled s) (h : HandleIx) : PoolHeld settled (s.lowerCount h) := b.recount h _

theorem dropBase (b : PoolHeld settled s) (h : HandleIx) : PoolHeld settled (s.dropBase h) := by
  rw [State.dropBase_eq]
  split
  · exact (b.lowerCount h).freeOne h
  · exact b.lowerCount h

theorem freeHandle (b : PoolHeld settled s) (h : HandleIx) : PoolHeld settled (s.freeHandle h) := by
  unfold State.freeHandle
  split
  · exact (b.freeOne h).dropBase _
  · exact b.freeOne h

theorem dropReference (b : PoolHeld settled s) (h : HandleIx) : PoolHeld settled (s.dropReference h) := by
  unfold State.dropReference
  dsimp only
  split
  · exact (b.lowerCount h).freeHandle h
  · exact b.lowerCount h

theorem dropOptional (b : PoolHeld settled s) (o : Option Handle) : PoolHeld settled (s.dropOptional o) := by
  cases o with
  | none => exact b
  | some x => exact b.dropReference x.ix

theorem replaceReference (b : PoolHeld settled s) (old : Option Handle) (new : HandleIx) :
    PoolHeld settled (s.replaceReference old new) := (b.raiseCount new).dropOptional old

/-! #### A record placed or resized (R37, R40, R53, R55) -/

/-- A handle that is in no move takes new words, and with them a record of that length. -/
theorem place (b : PoolHeld settled s) {h : HandleIx} {e : HandleEntry} {y : Extent} {free : List Extent}
    {r : ProfileRecord} (still : (s.handle h).inMove = false) (inUse : e.state ≠ .free) (extent : e.extent = some y)
    (inMove : e.inMove = false) (record : e.record = some r) (length : y.len = recordWords r.sections.length)
    (sound : freeListSound free) (words : ∀ w, y.holds w ∨ covered free w ↔ s.ownsWord h w ∨ s.freeWord w)
    (apart : ∀ w, y.holds w → ¬ covered free w) :
    PoolHeld settled { s.setHandle h e with pool := { s.pool with free := free } } := by
  have entry : ∀ g, (s.setHandle h e).handle g = if g = h then e else s.handle g := fun g => s.handle_setHandle_eq h g e
  refine ⟨b.parted.exchange entry sound ?_ ?_ ?_ ?_ ?_ rfl, b.moves.rewrite still entry inMove ?_ rfl rfl⟩
  · simpa only [extent, heldBy_some] using words
  · simpa only [extent, heldBy_some] using apart
  · simp [inUse, extent]
  · simp [inUse, record]
  · intro x hx
    cases extent.symm.trans hx
    rw [length]
    exact recordWords_pos _
  · intro x q hx hq
    cases extent.symm.trans hx
    cases record.symm.trans hq
    exact length

/-- A FREE handle is in no move. -/
theorem still_of_free (b : PoolHeld settled s) {h : HandleIx} (unused : (s.handle h).state = .free) :
    (s.handle h).inMove = false := by
  have none := (b.parted.placed h).mp unused
  rw [Bool.eq_false_iff, Ne, b.moves.inMove]
  rintro ⟨unsettled, m, hm, rfl⟩
  rw [(b.moves.moveSpan unsettled m hm).1] at none
  cases none

/-- A new record in words of the free list. -/
theorem allocated (b : PoolHeld settled s) {h : HandleIx} {e : HandleEntry} {y : Extent} {free : List Extent}
    {r : ProfileRecord} (unused : (s.handle h).state = .free) (inUse : e.state ≠ .free) (extent : e.extent = some y)
    (inMove : e.inMove = false) (record : e.record = some r)
    (room : allocate (recordWords r.sections.length) s.pool.free = .ok (y, free)) :
    PoolHeld settled { s.setHandle h e with pool := { s.pool with free := free } } := by
  have fit : firstFit (recordWords r.sections.length) s.pool.free = some (y, free) := by
    unfold allocate at room
    split at room
    · next found => rw [found, Except.ok.inj room]
    · cases room
  obtain ⟨length, sound, -, words, apart⟩ := firstFit_spec (recordWords_pos _) fit b.parted.listSound
  have none := (b.parted.placed h).mp unused
  refine b.place (b.still_of_free unused) inUse extent inMove record length sound (fun w => ?_) apart
  have unowned : ¬ s.ownsWord h w := by
    rintro ⟨x, hx, -⟩
    cases none.symm.trans hx
  exact (words w).symm.trans (or_iff_right unowned).symm

/-- A record resized. -/
theorem resized (b : PoolHeld settled s) {h : HandleIx} {y : Extent} {free : List Extent}
    (inUse : (s.handle h).state ≠ .free) (still : (s.handle h).inMove = false) (sections : List EqSection)
    (room : resize ((s.handle h).extent.getD ⟨0, 0⟩) (recordWords sections.length) s.pool.free = .ok (y, free)) :
    PoolHeld settled { s.setHandle h { s.handle h with
      extent := some y, record := (s.handle h).record.map fun r => { r with sections := sections } } with
      pool := { s.pool with free := free } } := by
  obtain ⟨x, hx⟩ := Option.ne_none_iff_exists'.mp fun none => inUse ((b.parted.placed h).mpr none)
  obtain ⟨r, hr⟩ := Option.ne_none_iff_exists'.mp fun none => inUse ((b.parted.recorded h).mpr none)
  rw [hx, Option.getD_some] at room
  obtain ⟨length, sound, words, apart⟩ := resize_spec (b.parted.nonempty h x hx) (recordWords_pos _) b.parted.listSound
    (fun w hw => b.parted.freeApart h w ⟨x, hx, hw⟩) room
  have own : ∀ w, s.ownsWord h w ↔ x.holds w := fun w => by simp [State.ownsWord, hx]
  exact b.place (r := { r with sections := sections }) still inUse rfl still (by simp [hr]) length sound
    (fun w => by rw [own]; exact words w) apart

end PoolHeld

/-! #### Moves (R58, R60) -/

/-- The extent and the handle of the next move: the record lies directly above the extent (R58). -/
theorem State.chooseMove_some {s : State} {e : Extent} {h : HandleIx} (chosen : s.chooseMove = some (e, h)) :
    e ∈ s.pool.free ∧ ∃ x, (s.handle h).extent = some x ∧ x.offset = e.offset + e.len := by
  obtain ⟨f, mem, found⟩ := List.exists_of_findSome?_eq_some chosen
  obtain ⟨g, here, same⟩ := Option.map_eq_some_iff.mp found
  cases same
  have above := List.find?_some here
  rw [decide_eq_true_iff] at above
  obtain ⟨x, hx, offset⟩ := Option.map_eq_some_iff.mp above
  exact ⟨mem, x, hx, offset⟩

/-- A move begun: the handle holds the free extent and its record as one span. -/
theorem State.beginMove_eq {s : State} {h : HandleIx} {x : Extent} (here : (s.handle h).extent = some x) (e : Extent) :
    s.beginMove e h = { s with
      handles := s.handles.upd h { s.handle h with extent := some ⟨e.offset, e.len + x.len⟩, inMove := true }
      pool := ⟨s.pool.free.filter fun x => x.offset != e.offset, s.pool.compaction,
        some ⟨h, e.offset, x.len, e.len + x.len⟩⟩ } := by
  rw [State.beginMove, here]
  rfl

/-- Of two extents of the list, one ends below the other. -/
theorem freeListSound.apart {free : List Extent} (sound : freeListSound free) {a b : Extent} (ha : a ∈ free)
    (hb : b ∈ free) : a = b ∨ a.offset + a.len < b.offset ∨ b.offset + b.len < a.offset := by
  induction free with
  | nil => cases ha
  | cons e es ih =>
    rw [freeListSound_cons] at sound
    obtain ⟨-, above, sound⟩ := sound
    rcases List.mem_cons.mp ha with rfl | inA <;> rcases List.mem_cons.mp hb with rfl | inB
    · exact .inl rfl
    · exact .inr (.inl (above b inB))
    · exact .inr (.inr (above a inA))
    · exact ih sound inA inB

/-- Two extents of the list that begin together are one. -/
theorem freeListSound.eq_of_offset {free : List Extent} (sound : freeListSound free) {a b : Extent} (ha : a ∈ free)
    (hb : b ∈ free) (same : a.offset = b.offset) : a = b := by
  rcases sound.apart ha hb with eq | low | high
  · exact eq
  all_goals omega

/-- Taking an extent off the list, which covers its words no longer. -/
theorem freeListSound.remove {free : List Extent} (sound : freeListSound free) {e : Extent} (mem : e ∈ free) :
    freeListSound (free.filter fun x => x.offset != e.offset) ∧
      ∀ w, covered (free.filter fun x => x.offset != e.offset) w ↔ covered free w ∧ ¬ e.holds w := by
  refine ⟨⟨fun x hx => sound.1 x (List.mem_filter.mp hx).1, sound.2.sublist List.filter_sublist⟩, fun w => ?_⟩
  constructor
  · rintro ⟨x, hx, hw⟩
    obtain ⟨hx, other⟩ := List.mem_filter.mp hx
    refine ⟨⟨x, hx, hw⟩, fun here => ?_⟩
    obtain ⟨low, high⟩ := hw
    obtain ⟨low', high'⟩ := here
    rcases sound.apart hx mem with rfl | below | above
    · simp at other
    all_goals omega
  · rintro ⟨⟨x, hx, hw⟩, out⟩
    refine ⟨x, List.mem_filter.mpr ⟨hx, ?_⟩, hw⟩
    simp only [bne_iff_ne, ne_eq]
    intro same
    exact out (sound.eq_of_offset hx mem same ▸ hw)

/-- A span of words below those of a record, and both together. -/
theorem Extent.holds_join {e x : Extent} (adjoins : x.offset = e.offset + e.len) (w : Nat) :
    Extent.holds ⟨e.offset, e.len + x.len⟩ w ↔ e.holds w ∨ x.holds w := by
  unfold Extent.holds
  dsimp only
  omega

namespace PoolHeld

variable {settled : Bool} {s : State}

/-- A move begins: its handle takes the free extent below its record as well (R58). -/
theorem beginMove (b : PoolHeld false s) (idle : s.pool.move = none) (running : s.pool.compaction ≠ .idle) {e : Extent}
    {h : HandleIx} (chosen : s.chooseMove = some (e, h)) : PoolKept false (s.beginMove e h) := by
  obtain ⟨mem, x, hx, adjoins⟩ := State.chooseMove_some chosen
  obtain ⟨r, hr⟩ := Option.ne_none_iff_exists'.mp fun none => by
    rw [(b.parted.placed h).mp ((b.parted.recorded h).mpr none)] at hx
    cases hx
  have still := b.moves.still idle
  have room := b.parted.listSound.1 e mem
  have length := b.moves.wholeLength h x r (still h) hx hr
  obtain ⟨sound, words⟩ := b.parted.listSound.remove mem
  rw [State.beginMove_eq hx]
  have entry : ∀ g, _ = if g = h then
      { s.handle h with extent := some ⟨e.offset, e.len + x.len⟩, inMove := true } else s.handle g :=
    fun g => Table.get_upd s.handles h g _
  have inUse : (s.handle h).state ≠ .free := fun free => by
    rw [(b.parted.placed h).mp free] at hx
    cases hx
  have own : ∀ w, s.ownsWord h w ↔ x.holds w := fun w => by simp [State.ownsWord, hx]
  have mine : ∀ w, s.ownsWord h w → ¬ covered s.pool.free w := b.parted.freeApart h
  have below : ∀ w, e.holds w → covered s.pool.free w := fun w hw => ⟨e, mem, hw⟩
  refine ⟨⟨b.parted.exchange entry sound (fun w => ?_) (fun w => ?_) ?_ ?_ ?_ rfl, ?_⟩, ?_⟩
  · have := below w
    rw [words, heldBy_some, Extent.holds_join adjoins, own]
    show _ ↔ _ ∨ covered s.pool.free w
    tauto
  · have := mine w
    rw [words, heldBy_some, Extent.holds_join adjoins, ← own]
    tauto
  · simp [inUse]
  · simp [inUse, hr]
  · intro y hy
    cases hy
    exact Nat.le_add_right_of_le room
  · constructor
    case wholeLength =>
      intro g y q hg hy hq
      rw [State.handle, entry] at hg hy hq
      split at hg
      · cases hg
      · next ne =>
        rw [if_neg ne] at hy hq
        exact b.moves.wholeLength g y q hg hy hq
    case inMove =>
      intro g
      rw [State.handle, entry]
      split
      · next same => simp [same]
      · next ne => simp [still g, Ne.symm ne]
    case moveSpan =>
      intro _ m hm
      cases hm
      rw [State.handle, entry, if_pos rfl]
      exact ⟨rfl, Nat.lt_add_of_pos_left room, r, hr, length⟩
    case running => exact fun _ => running
    case settling => nofun
  · exact ⟨fun _ => running, fun _ => rfl⟩

/-- With no move in flight, compaction may stand in any state. -/
theorem setCompaction (b : PoolHeld false s) (idle : s.pool.move = none) (c : CompactionState) :
    PoolHeld false { s with pool := { s.pool with compaction := c } } := by
  obtain ⟨p, m⟩ := b
  refine ⟨⟨p.listSound, p.inside, p.freeApart, p.handlesApart, p.placed, p.recorded, p.nonempty, p.heldImage⟩,
    ⟨m.wholeLength, m.inMove, m.moveSpan, ?_, nofun⟩⟩
  dsimp only
  rw [idle]
  nofun

/-- Compaction that has ended. -/
theorem endCompaction (b : PoolHeld false s) (idle : s.pool.move = none) :
    PoolKept false { s with pool := { s.pool with compaction := .idle } } :=
  ⟨b.setCompaction idle .idle, by simp [State.poolSettled, idle]⟩

/-- The next move begins, or compaction completes (R57, R60, R62). -/
theorem nextMove (b : PoolHeld false s) (idle : s.pool.move = none) : PoolKept false s.nextMove := by
  unfold State.nextMove
  split
  · next e h chosen => exact (b.setCompaction idle .running).beginMove idle nofun chosen
  · exact (b.endCompaction idle).of_same (.of_eq rfl rfl rfl)

/-- The end of a freeing step (R62). -/
theorem afterAbandon (b : PoolHeld settled s) : PoolKept settled s.afterAbandon := by
  cases move : s.pool.move with
  | some m =>
    have flight : s.pool.move.isSome = true := by rw [move]; rfl
    rw [State.afterAbandon_of_move flight]
    exact ⟨b, fun _ => b.moves.running flight, fun _ => flight⟩
  | none =>
    cases settled with
    | true =>
      have := b.moves.settling rfl
      rw [move] at this
      cases this
    | false =>
      cases compaction : s.pool.compaction with
      | idle =>
        rw [State.afterAbandon_of_idle compaction]
        exact ⟨b, by simp [State.poolSettled, move, compaction]⟩
      | running =>
        rw [State.afterAbandon_of_running move compaction]
        exact b.nextMove move
      | stopping =>
        rw [State.afterAbandon_of_stopping move compaction]
        exact b.endCompaction move

end PoolHeld

/-- The record in move comes to rest at the start of its span, and the rest of the span is free (R60). -/
theorem PoolKept.settleMove {s : State} (k : PoolKept false s) {m : MoveRecord} (flight : s.pool.move = some m) :
    PoolKept true (s.settleMove m) := by
  obtain ⟨span, longer, r, hr, length⟩ := k.moves.moveSpan rfl m flight
  have entry : ∀ g, (s.settleMove m).handle g = if g = m.handle then
      { s.handle m.handle with extent := some ⟨m.spanStart, m.recordLen⟩, inMove := false } else s.handle g := fun g => by
    rw [State.settleMove, State.handle, Table.get_upd]
    rfl
  have inUse : (s.handle m.handle).state ≠ .free := fun free => by
    rw [(k.parted.placed m.handle).mp free] at span
    cases span
  have pos : 1 ≤ m.recordLen := length ▸ recordWords_pos _
  have apart := k.parted.apartFrom span
  obtain ⟨sound, -, words⟩ := giveBack_spec ⟨m.spanStart + m.recordLen, m.spanLen - m.recordLen⟩ s.pool.free
    (by dsimp only; omega) k.parted.listSound fun e he => by have := apart e he; dsimp only at this ⊢; omega
  have split : ∀ w, Extent.holds ⟨m.spanStart, m.spanLen⟩ w ↔ Extent.holds ⟨m.spanStart, m.recordLen⟩ w ∨
      Extent.holds ⟨m.spanStart + m.recordLen, m.spanLen - m.recordLen⟩ w := fun w => by
    unfold Extent.holds
    dsimp only
    omega
  have own : ∀ w, s.ownsWord m.handle w ↔ Extent.holds ⟨m.spanStart, m.spanLen⟩ w := fun w => by
    simp [State.ownsWord, span]
  refine ⟨⟨k.parted.exchange entry sound (fun w => ?_) (fun w hw => ?_) (by simp [inUse]) (by simp [inUse, hr]) ?_ rfl,
    ?_⟩, k.settles⟩
  · rw [heldBy_some, own, split, or_assoc]
    exact or_congr_right (words w)
  · rw [heldBy_some] at hw
    show ¬ covered (giveBack _ _) w
    rw [words]
    rintro (rest | free)
    · obtain ⟨-, high⟩ := hw
      obtain ⟨low, -⟩ := rest
      dsimp only at high low
      omega
    · exact k.parted.freeApart m.handle w ((own w).mpr ((split w).mpr (.inl hw))) free
  · intro x hx
    cases hx
    exact pos
  have others : ∀ g, g ≠ m.handle → (s.handle g).inMove = false := fun g hg => by
    rw [Bool.eq_false_iff, Ne, k.moves.inMove]
    rintro ⟨-, n, hn, rfl⟩
    cases hn.symm.trans flight
    exact hg rfl
  constructor
  case wholeLength =>
    intro g x q hg hx hq
    rw [entry] at hg hx hq
    split at hx
    · next same =>
      rw [if_pos same] at hq
      cases hx
      cases hr.symm.trans hq
      exact length
    · next ne =>
      rw [if_neg ne] at hg hq
      exact k.moves.wholeLength g x q hg hx hq
  case inMove =>
    intro g
    rw [entry]
    split
    · simp
    · next ne => simp [others g ne]
  case moveSpan => nofun
  case running => exact k.moves.running
  case settling =>
    intro _
    show s.pool.move.isSome = true
    rw [flight]
    rfl

/-- The move record goes, and compaction goes on, completes or ends (R60). -/
theorem PoolKept.endMove {s : State} (k : PoolKept true s) : PoolKept false s.endMove := by
  obtain ⟨p, m⟩ := k.toPoolHeld
  have still : ∀ h, (s.handle h).inMove = false := fun h => by
    rw [Bool.eq_false_iff, Ne, m.inMove]
    rintro ⟨unsettled, -⟩
    cases unsettled
  have ended : PoolHeld false { s with pool := { s.pool with move := none } } := by
    refine ⟨⟨p.listSound, p.inside, p.freeApart, p.handlesApart, p.placed, p.recorded, p.nonempty, p.heldImage⟩,
      ⟨m.wholeLength, fun h => ?_, nofun, nofun, nofun⟩⟩
    show (s.handle h).inMove = true ↔ _
    simp [still h]
  unfold State.endMove
  dsimp only
  split
  · exact ended.endCompaction rfl
  · exact ended.nextMove rfl

end Sys2Proof.Machine
end

section
/-! ### The change requests keep the pool sound (R33 to R62) -/

namespace Sys2Proof.Machine

namespace SameStorage

variable {s : State}

/-! #### Operations of a change request that touch no words -/

theorem setFeed (s : State) (f : FeedNo) (e : FeedEntry) : SameStorage s (s.setFeed f e) := .of_eq rfl rfl rfl

theorem queueFeed (s : State) (f : FeedNo) : SameStorage s (s.queueFeed f) := .of_eq rfl rfl rfl

theorem queueFeeds (s : State) (fs : List FeedNo) : SameStorage s (s.queueFeeds fs) :=
  .of_eq (by simp) (by simp) (by simp)

theorem watchTest (s : State) (a : Access) (r : RecordName) : SameStorage s (s.watchTest a r).1 :=
  .of_eq (by simp) (by simp) (by simp)

theorem notifyPolicy (s : State) (c : PolicyOutcome) (d : PolicyDetail) : SameStorage s (s.notifyPolicy c d) :=
  .of_eq (by simp) (by simp) (by simp)

theorem raise (s : State) (o : Notice) : SameStorage s (s.raise o) := .of_eq rfl rfl rfl

theorem setPort (s : State) (p : Port) : SameStorage s { s with port := p } := .of_eq rfl rfl rfl

theorem setCursor (s : State) (r : RecordName) : SameStorage s (s.setCursor r) := .of_eq rfl rfl rfl

theorem endWait (s : State) : SameStorage s s.endWait := by
  unfold State.endWait
  split
  · exact .of_eq_unheld rfl rfl nofun
  all_goals exact .refl s

/-- A handle that changes its state, and stays in use. -/
theorem setState (s : State) {h : HandleIx} {st : HandleState} (inUse : (s.handle h).state ≠ .free) (still : st ≠ .free) :
    SameStorage s (s.setHandle h { s.handle h with state := st }) :=
  .of_handle rfl rfl rfl (iff_of_false still inUse) rfl rfl rfl

/-- A record rewritten with the sections it has. -/
theorem mapRecord (s : State) (h : HandleIx) (f : ProfileRecord → ProfileRecord)
    (sections : ∀ r, (f r).sections = r.sections) :
    SameStorage s (s.setHandle h { s.handle h with record := (s.handle h).record.map f }) :=
  .of_handle rfl rfl rfl Iff.rfl rfl rfl (by simp [Function.comp_def, sections])

theorem applyFeedChange (s : State) (f : FeedNo) (c : FeedChange) : SameStorage s (s.applyFeedChange f c) := by
  cases c with
  | label v => exact setFeed s f _
  | tier v => exact setFeed s f _
  | sector v => exact (setFeed s f _).trans (queueFeed _ f)
  | bus v => exact (setFeed s f _).trans (queueFeed _ f)
  | path v => exact (setFeed s f _).trans (queueFeed _ f)
  | action v => exact setFeed s f _

theorem applyLead (s : State) (p : LeadPlan) : SameStorage s (s.applyLead p) := by
  have stored : SameStorage s (s.storeLead p.follower p.lead) := by
    unfold State.storeLead
    refine (setFeed s p.follower { s.feed p.follower with lead := p.lead }).trans ?_
    unfold State.updateDependency
    dsimp only
    split
    · exact .of_eq rfl rfl rfl
    · split <;> exact .of_eq rfl rfl rfl
  have noted : ∀ u : State, SameStorage u (u.notifyOptLead p.follower p.lead) := by
    intro u
    unfold State.notifyOptLead
    split
    · exact (notifyPolicy _ _ _).trans (notifyPolicy _ _ _)
    · exact .refl u
  exact (stored.trans (noted _)).trans (queueFeed _ _)

theorem applyProfileChange (s : State) (h : HandleIx) (c : ProfileChange) :
    SameStorage s (s.applyProfileChange h c) := by
  have written := mapRecord s h (fun r => r.change c) fun r => by cases c <;> rfl
  unfold State.applyProfileChange
  dsimp only
  split
  · exact written.trans (queueFeeds _ _)
  · exact written

theorem applyRevive (s : State) (h : HandleIx) : SameStorage s (s.applyRevive h) := by
  unfold State.applyRevive
  dsimp only
  split
  · next retiring => exact setState s (by simp [retiring]) nofun
  all_goals exact .refl s

end SameStorage

namespace PoolHeld

variable {settled : Bool} {s : State}

/-! #### The effects of the change requests -/

theorem applyClearFeed (b : PoolHeld settled s) (f : FeedNo) : PoolHeld settled (s.applyClearFeed f) := by
  have cleared : PoolHeld settled { s.setFeed f { s.feed f with
      bus := 0, binding := none, overrideBinding := none, overrideAction := .keep, lead := none
      excessPath := 0, geomDelay := none } with deps := s.deps.remove f } := b.of_same (.of_eq rfl rfl rfl)
  exact ((cleared.dropOptional _).dropOptional _).of_same (.queueFeed _ f)

theorem applyBind (b : PoolHeld settled s) (p : BindPlan) : PoolHeld settled (s.applyBind p) :=
  (((b.of_same (.setFeed s p.feed _)).replaceReference _ _).of_same (.notifyPolicy _ _ _)).of_same (.queueFeed _ _)

theorem applyUnbind (b : PoolHeld settled s) (f : FeedNo) : PoolHeld settled (s.applyUnbind f) :=
  ((b.of_same (.setFeed s f _)).dropOptional _).of_same (.queueFeed _ f)

theorem applyBindOverride (b : PoolHeld settled s) (p : BindPlan) : PoolHeld settled (s.applyBindOverride p) :=
  (((b.of_same (.setFeed s p.feed _)).replaceReference _ _).of_same (.notifyPolicy _ _ _)).of_same (.queueFeed _ _)

theorem applyUnbindOverride (b : PoolHeld settled s) (f : FeedNo) : PoolHeld settled (s.applyUnbindOverride f) :=
  ((b.of_same (.setFeed s f _)).dropOptional _).of_same (.queueFeed _ f)

theorem applyRetire (b : PoolHeld settled s) (h : HandleIx) : PoolHeld settled (s.applyRetire h) := by
  unfold State.applyRetire
  dsimp only
  split
  · next live =>
    split
    · exact b.freeHandle h
    · exact b.of_same (.setState s (by simp [live]) nofun)
  all_goals exact b

theorem applyBase (b : PoolHeld settled s) (p : BasePlan) : PoolHeld settled (s.applyBase p) := by
  have stored : PoolHeld settled (s.storeBase p.handle p.base) := b.of_same (.mapRecord s p.handle _ fun _ => rfl)
  refine of_same ?_ (.queueFeeds _ _)
  unfold State.changeBaseReference
  split
  · exact stored.dropOptional _
  · exact (stored.replaceReference _ _).of_same (.notifyPolicy _ _ _)

/-- What the tests of a new record tell of the handle and the words it takes (R37). -/
theorem testNewRecord_ok {q : ProfileRecord} {p : CreatePlan} (ok : s.testNewRecord q = .ok p) :
    (s.handle p.handle).state = .free ∧
      allocate (recordWords p.record.sections.length) s.pool.free = .ok (p.extent, p.free) := by
  simp only [State.testNewRecord, except_bind_ok] at ok
  obtain ⟨_, -, ok⟩ := ok
  cases lowest : s.lowestFree with
  | none => rw [lowest] at ok; cases ok
  | some h =>
    simp only [lowest, except_bind_ok, except_pure_ok] at ok
    obtain ⟨⟨x, free⟩, room, rfl⟩ := ok
    exact ⟨by simpa using List.find?_some lowest, room⟩

theorem applyCreate (b : PoolHeld settled s) {p : CreatePlan} (unused : (s.handle p.handle).state = .free)
    (room : allocate (recordWords p.record.sections.length) s.pool.free = .ok (p.extent, p.free)) :
    PoolHeld settled (s.applyCreate p) := by
  have made := b.allocated (h := p.handle) (e := { state := .live, gen := (s.newHandle p).gen, extent := some p.extent
                                                   refCount := 0, inMove := false, record := some p.record })
    unused nofun rfl rfl rfl room
  have referred : ∀ u : State, PoolHeld settled u → PoolHeld settled (u.referToBase (s.newHandle p) p.record) := by
    intro u hu
    unfold State.referToBase
    split
    · exact hu
    · exact (hu.raiseCount _).of_same (.notifyPolicy _ _ _)
  exact (referred _ made).of_same (.setCursor _ _)

theorem testEditSections_ok {i : EditSectionsItems} {p : EditPlan} (ok : s.testEditSections i = .ok p) :
    s.refProfile i.profile = .ok p.handle ∧ resize ((s.handle p.handle).extent.getD ⟨0, 0⟩)
      (recordWords i.sections.length) s.pool.free = .ok (p.extent, p.free) := by
  simp only [State.testEditSections, except_bind_ok, except_pure_ok] at ok
  obtain ⟨-, -, h, named, -, -, -, -, -, -, -, -, ⟨x, free⟩, room, rfl⟩ := ok
  exact ⟨named, room⟩

theorem applyEditSections (b : PoolHeld settled s) {sections : List EqSection} {p : EditPlan}
    (inUse : (s.handle p.handle).state ≠ .free) (still : (s.handle p.handle).inMove = false)
    (room : resize ((s.handle p.handle).extent.getD ⟨0, 0⟩) (recordWords sections.length) s.pool.free =
      .ok (p.extent, p.free)) : PoolHeld settled (s.applyEditSections sections p) :=
  (b.resized inUse still sections room).of_same (.queueFeeds _ _)

end PoolHeld

namespace PoolKept

variable {settled : Bool} {s : State}

/-! #### The change requests -/

/-- A change request keeps the pool sound where its effect holds its words together: the effect runs on the tested state
with the watches' hits recorded, and the move that follows a free comes after it. -/
theorem takeChange (k : PoolKept settled s) {α : Type} {tested : Except Status α} {record : α → RecordName}
    {effect : α → State → State}
    (keeps : ∀ a w n, tested = .ok a → PoolHeld settled { s with watches := w, notices := n } →
      PoolHeld settled (effect a { s with watches := w, notices := n })) :
    PoolKept settled (s.takeChange tested record effect).1 := by
  cases tested with
  | error st => exact k
  | ok a =>
    have observed := k.of_same (.watchTest s .portChange (record a))
    cases stop : s.stops .portChange (record a) with
    | true => rw [State.takeChange_stopped s record effect a stop]; exact observed
    | false =>
      rw [State.takeChange_taken s record effect a stop]
      rw [State.watchTest_frame] at observed ⊢
      exact ((keeps a _ _ rfl observed.toPoolHeld).afterAbandon).of_same (.endWait _)

theorem requestBind (k : PoolKept settled s) (i : BindItems) : PoolKept settled (s.requestBind i).1 := by
  unfold State.requestBind
  exact k.takeChange fun p _ _ _ b => b.applyBind p

theorem requestUnbind (k : PoolKept settled s) (ref : RecordRef) : PoolKept settled (s.requestUnbind ref).1 := by
  unfold State.requestUnbind
  exact k.takeChange fun f _ _ _ b => b.applyUnbind f

theorem requestBindOverride (k : PoolKept settled s) (i : BindItems) : PoolKept settled (s.requestBindOverride i).1 := by
  unfold State.requestBindOverride
  exact k.takeChange fun p _ _ _ b => b.applyBindOverride p

theorem requestUnbindOverride (k : PoolKept settled s) (ref : RecordRef) :
    PoolKept settled (s.requestUnbindOverride ref).1 := by
  unfold State.requestUnbindOverride
  exact k.takeChange fun f _ _ _ b => b.applyUnbindOverride f

theorem requestLead (k : PoolKept settled s) (i : LeadItems) : PoolKept settled (s.requestLead i).1 := by
  unfold State.requestLead
  exact k.takeChange fun p _ _ _ b => b.of_same (.applyLead _ p)

theorem requestClearFeed (k : PoolKept settled s) (ref : RecordRef) : PoolKept settled (s.requestClearFeed ref).1 := by
  unfold State.requestClearFeed
  exact k.takeChange fun f _ _ _ b => b.applyClearFeed f

theorem requestRetire (k : PoolKept settled s) (ref : RecordRef) : PoolKept settled (s.requestRetire ref).1 := by
  unfold State.requestRetire
  exact k.takeChange fun h _ _ _ b => b.applyRetire h

theorem requestRevive (k : PoolKept settled s) (ref : RecordRef) : PoolKept settled (s.requestRevive ref).1 := by
  unfold State.requestRevive
  exact k.takeChange fun h _ _ _ b => b.of_same (.applyRevive _ h)

theorem requestBase (k : PoolKept settled s) (i : BaseItems) : PoolKept settled (s.requestBase i).1 := by
  unfold State.requestBase
  exact k.takeChange fun p _ _ _ b => b.applyBase p

/-- CREATE PROFILE and CLONE: the words come from the list that was tested (R37, R38). -/
theorem requestNew (k : PoolKept settled s) {tested : Except Status CreatePlan}
    (planned : ∀ p, tested = .ok p → ∃ q, s.testNewRecord q = .ok p) : PoolKept settled (s.requestNew tested).1 := by
  unfold State.requestNew
  refine k.takeChange fun p _ _ ok b => ?_
  obtain ⟨q, made⟩ := planned p ok
  obtain ⟨unused, room⟩ := PoolHeld.testNewRecord_ok made
  exact b.applyCreate unused room

theorem requestCreate (k : PoolKept settled s) (c : ProfileContent) :
    PoolKept settled (s.requestNew (s.testCreate c)).1 := by
  refine k.requestNew fun p ok => ?_
  simp only [State.testCreate, except_bind_ok] at ok
  obtain ⟨-, -, base, -, -, -, made⟩ := ok
  exact ⟨_, made⟩

theorem requestClone (k : PoolKept settled s) (ref : RecordRef) :
    PoolKept settled (s.requestNew (s.testClone ref)).1 := by
  refine k.requestNew fun p ok => ?_
  simp only [State.testClone, except_bind_ok] at ok
  obtain ⟨h, -, -, -, ok⟩ := ok
  split at ok
  · exact ⟨_, ok⟩
  · cases ok

/-- EDIT SECTIONS of a profile that is in no move (R40, R61). -/
theorem requestEditSections (k : PoolKept settled s) (i : EditSectionsItems)
    (still : ∀ h, s.refProfile i.profile = .ok h → (s.handle h).inMove = false) :
    PoolKept settled (s.requestEditSections i).1 := by
  unfold State.requestEditSections
  refine k.takeChange fun p _ _ ok b => ?_
  obtain ⟨named, room⟩ := PoolHeld.testEditSections_ok ok
  exact b.applyEditSections (State.refProfile_ok named) (still _ named) room

theorem setFeedsLoop (k : PoolKept settled s) (field : Nat) (v : Int) (fs : List FeedNo) (done : Nat) :
    PoolKept settled (setFeedsLoop field v fs done s).1 := by
  induction fs generalizing s done with
  | nil => exact k
  | cons f fs ih =>
    have one : PoolKept settled (s.setOneFeed f field v).1 :=
      k.takeChange fun c _ _ _ b => b.of_same (.applyFeedChange _ f c)
    unfold Machine.setFeedsLoop
    split
    · next s' c e =>
      rw [e] at one
      exact ih (one.of_same (.setCursor s' (.feed f))) _
    · next s' st e =>
      rw [e] at one
      exact one

theorem setProfilesLoop (k : PoolKept settled s) (field : Nat) (v : Int) (ns : List Nat) (named : Option Nat)
    (done : Nat) : PoolKept settled (setProfilesLoop field v ns named done s).1 := by
  induction ns generalizing s named done with
  | nil => exact k
  | cons n ns ih =>
    have one : PoolKept settled (s.setOneProfile n (s.namedGen named n) field v).1 :=
      k.takeChange fun p _ _ _ b => b.of_same (.applyProfileChange _ p.1 p.2)
    cases waits : s.setWaits field n (s.namedGen named n) with
    | true =>
      rw [State.setProfilesLoop_waits waits]
      exact k
    | false =>
      cases e : s.setOneProfile n (s.namedGen named n) field v with
      | mk t r =>
        rw [e] at one
        cases r with
        | error st =>
          rw [State.setProfilesLoop_error waits e]
          exact one
        | ok p =>
          rw [State.setProfilesLoop_ok waits e]
          exact ih (one.of_same (.setCursor t _)) _ _

theorem requestSet (k : PoolKept settled s) (i : SetItems) : PoolKept settled (s.requestSet i).1 := by
  unfold State.requestSet
  split
  · exact k
  · split
    · exact k.setFeedsLoop _ _ _ _
    · exact k.setProfilesLoop _ _ _ _ _
    · exact k
    · exact k

/-- A content edit runs only where its profile is in no move (R61). -/
theorem editOrWait (k : PoolKept settled s) (ref : RecordRef) (edit : WaitingEdit) {now : State × Answer}
    (edited : (∀ h, s.refProfile ref = .ok h → (s.handle h).inMove = false) → PoolKept settled now.1) :
    PoolKept settled (s.editOrWait ref edit now).1 := by
  unfold State.editOrWait
  split
  · exact k
  · next still =>
    refine edited fun h named => ?_
    simpa [State.editWaits, named] using still

/-! #### The completion of a move (R60, R61) -/

/-- Once the move is settled no profile is in move, so that an edit that waited runs. -/
theorem runEdit (k : PoolKept true s) (e : WaitingEdit) : PoolKept true (s.runEdit e).1 := by
  cases e with
  | sections i =>
    refine k.requestEditSections i fun h _ => ?_
    rw [Bool.eq_false_iff, Ne, k.moves.inMove]
    rintro ⟨unsettled, -⟩
    cases unsettled
  | base i => exact k.requestBase i
  | set job => exact k.setProfilesLoop _ _ _ _ _

theorem takeWaitingEdit (k : PoolKept true s) : PoolKept true s.takeWaitingEdit := by
  unfold State.takeWaitingEdit
  split
  · next tag e _ =>
    have edited := k.runEdit e
    dsimp only
    unfold State.placeEditReply
    split <;> exact edited.of_same (.setPort _ _)
  · exact k

theorem completeMove (k : PoolKept false s) : PoolKept false s.completeMove := by
  unfold State.completeMove
  split
  · next m flight => exact (k.settleMove flight).takeWaitingEdit.endMove
  · exact k

theorem requestCompactStart (k : PoolKept false s) : PoolKept false s.requestCompactStart.1 := by
  unfold State.requestCompactStart
  split
  · next idle =>
    simp only [State.compactionIdle, Bool.and_eq_true, decide_eq_true_eq] at idle
    refine k.toPoolHeld.nextMove ?_
    rw [← Option.not_isSome_iff_eq_none]
    exact fun flight => k.settles.mp flight idle.1
  · exact k

/-- STOPPING for RUNNING: the move in flight goes on (R64). -/
theorem requestCompactStop (k : PoolKept false s) : PoolKept false s.requestCompactStop.1 := by
  unfold State.requestCompactStop
  split
  · next running =>
    obtain ⟨⟨p, m⟩, settles⟩ := k
    refine ⟨⟨⟨p.listSound, p.inside, p.freeApart, p.handlesApart, p.placed, p.recorded, p.nonempty, p.heldImage⟩,
      ⟨m.wholeLength, m.inMove, m.moveSpan, fun _ => nofun, nofun⟩⟩, ⟨fun _ => nofun, fun _ => ?_⟩⟩
    exact settles.mpr (by simp [running])
  · exact k
  · exact k

end PoolKept

end Sys2Proof.Machine
end

section
/-! ### Commands that touch no word of the pool -/

namespace Sys2Proof.Machine

/-- The image that waits for the override to clear (R142). -/
def ImageStatus.waitingImage : ImageStatus → Option Image
  | .loading (.held g) => some g
  | .loading .reading | .idle | .waiting _ | .saving => none

namespace State

variable (s : State)

/-- What `PoolSound` reads: the handles, the pool, and an image that waits. -/
def storage : Table HandleEntry 255 × Pool × Option Image := (s.handles, s.pool, s.image.waitingImage)

theorem heldImageValid_iff : s.heldImageValid ↔ ∀ g, s.image.waitingImage = some g → g.consistent = true := by
  unfold heldImageValid
  refine forall_congr' fun g => ?_
  cases s.image with
  | loading p => cases p <;> simp [ImageStatus.waitingImage]
  | _ => simp [ImageStatus.waitingImage]

theorem storage_congr {t : State} (handles : t.handles = s.handles) (pool : t.pool = s.pool) (image : t.image = s.image) :
    t.storage = s.storage := by
  simp only [storage, handles, pool, image]

/-! #### The operations shared by commands -/

@[simp] theorem raise_storage (o : Notice) : (s.raise o).storage = s.storage := rfl
@[simp] theorem setCursor_storage (r : RecordName) : (s.setCursor r).storage = s.storage := rfl
@[simp] theorem setFeed_storage (f : FeedNo) (e : FeedEntry) : (s.setFeed f e).storage = s.storage := rfl
@[simp] theorem setSector_storage (n : SectorNo) (e : Sector) : (s.setSector n e).storage = s.storage := rfl
@[simp] theorem setChannel_storage (k : ChannelNo) (c : Channel) : (s.setChannel k c).storage = s.storage := rfl
@[simp] theorem setRender_storage (f : FeedNo) (r : FeedRender) : (s.setRender f r).storage = s.storage := rfl
@[simp] theorem setWatch_storage (i : WatchNo) (w : Watch) : (s.setWatch i w).storage = s.storage := rfl

@[simp] theorem queueFeeds_storage (fs : List FeedNo) : (s.queueFeeds fs).storage = s.storage := by simp [storage]

@[simp] theorem watchTest_storage (a : Access) (r : RecordName) : (s.watchTest a r).1.storage = s.storage := by
  simp [storage]

@[simp] theorem changeSources_storage (c : OverrideSource) (o : Override) :
    (s.changeSources c o).storage = s.storage := by simp [storage]

@[simp] theorem endWait_storage : s.endWait.storage = s.storage := by
  unfold endWait
  split
  · next waiting => simp [storage, waiting, ImageStatus.waitingImage]
  all_goals rfl

/-! #### Pins, transactions and records read -/

@[simp] theorem setAlarm_storage (level : Bool) : (s.setAlarm level).storage = s.storage := by
  unfold setAlarm
  dsimp only
  split
  · rfl
  · exact changeSources_storage ..

@[simp] theorem sampleAlarm_storage : s.sampleAlarm.storage = s.storage := by
  unfold sampleAlarm
  split
  · exact changeSources_storage ..
  · rfl

@[simp] theorem beginTransaction_storage : s.beginTransaction.storage = s.storage := by
  unfold beginTransaction
  split <;> rfl

@[simp] theorem endTransaction_storage : s.endTransaction.1.storage = s.storage := by
  obtain ⟨p, e⟩ := s.endTransaction_frame
  rw [e]
  rfl

@[simp] theorem lookLoop_storage (cls : RecordClass) (rs : List RecordName) (images : List (List Byte)) :
    (lookLoop cls rs images s).1.storage = s.storage := by
  induction rs generalizing s images with
  | nil => rfl
  | cons r rs ih =>
    unfold lookLoop
    dsimp only
    split <;> simp [ih]

@[simp] theorem look_storage (i : LookItems) : (s.look i).1.storage = s.storage := by
  unfold look
  split <;> simp

@[simp] theorem find_storage (i : FindItems) : (s.find i).1.storage = s.storage := by
  unfold find
  split
  · rfl
  · dsimp only
    split <;> rfl

/-! #### Settings -/

@[simp] theorem changeMask_storage (m : Option NoticeSet) : (s.changeMask m).1.storage = s.storage := by
  unfold changeMask
  split
  · rfl
  · split
    · rfl
    · split
      · rfl
      · exact endWait_storage _

@[simp] theorem requestPolicySet_storage (cs : List PolicyChange) :
    (s.requestPolicySet cs).1.storage = s.storage := by
  unfold requestPolicySet
  split
  · rfl
  · split
    · rfl
    · split
      · rfl
      · exact endWait_storage _

@[simp] theorem requestCrossStandSet_storage (v : Option PolicyOutcome) :
    (s.requestCrossStandSet v).1.storage = s.storage := by
  unfold requestCrossStandSet
  split
  · rfl
  · split
    · rfl
    · exact endWait_storage _

@[simp] theorem rebuildDependencies_storage : s.rebuildDependencies.storage = s.storage := by
  unfold rebuildDependencies
  dsimp only
  split <;> rfl

@[simp] theorem requestRebuild_storage : s.requestRebuild.1.storage = s.storage := by
  unfold requestRebuild
  split <;> simp

@[simp] theorem changeHolds_storage (set : SectorSet) (yes : Bool) : (s.changeHolds set yes).1.storage = s.storage := by
  unfold changeHolds
  split <;> rfl

@[simp] theorem reconfigure_storage : s.reconfigure.storage = s.storage := queueFeeds_storage s s.heldFeeds

@[simp] theorem requestWatchSet_storage (i : WatchSetItems) : (s.requestWatchSet i).1.storage = s.storage := by
  unfold requestWatchSet
  split
  · rfl
  · split <;> simp

@[simp] theorem requestWatchClear_storage (n : Nat) : (s.requestWatchClear n).1.storage = s.storage := by
  unfold requestWatchClear
  split <;> simp

@[simp] theorem requestReadWatch_storage (n : Nat) : (s.requestReadWatch n).1.storage = s.storage := by
  unfold requestReadWatch
  split <;> simp

/-! #### The Image Interface -/

@[simp] theorem requestSave_storage : s.requestSave.1.storage = s.storage := by
  unfold requestSave
  split
  · next idle =>
    simp only [Bool.and_eq_true, decide_eq_true_eq] at idle
    simp [storage, idle.2, ImageStatus.waitingImage]
  · rfl

/-- No image waits for the override where a LOAD is taken. -/
@[simp] theorem requestLoad_storage : s.requestLoad.1.storage = s.storage := by
  unfold requestLoad
  split
  · rfl
  · next free =>
    split
    · rfl
    · have none : s.image.waitingImage = none := by
        cases image : s.image <;> simp [transferring, longOperation, image, ImageStatus.waitingImage] at free ⊢
      simp only [storage, none]
      rfl

/-! #### The Climate Unit -/

@[simp] theorem statusEvaluations_storage (ns : List SectorNo) :
    (ns.foldl statusEvaluation s).storage = s.storage := by
  induction ns generalizing s with
  | nil => rfl
  | cons n ns ih => rw [List.foldl_cons, ih, storage_congr] <;> simp

@[simp] theorem fullEvaluation_storage (n : SectorNo) : (s.fullEvaluation n).storage = s.storage := by simp [storage]

@[simp] theorem changeSpeed_storage (n : SectorNo) (c : Int) : (s.changeSpeed n c).storage = s.storage := by
  simp [storage]

@[simp] theorem applyReading_storage (k : ChannelNo) (code : Int) : (s.applyReading k code).storage = s.storage := by
  have evaluated : ∀ (u : State) o, (u.evaluateOptional o).storage = u.storage := by
    intro u o
    cases o with
    | none => rfl
    | some n => exact fullEvaluation_storage u n
  unfold applyReading
  dsimp only
  rw [evaluated]
  split <;> rfl

@[simp] theorem requestSensorSet_storage (i : SensorSetItems) : (s.requestSensorSet i).1.storage = s.storage := by
  unfold requestSensorSet
  split
  · rfl
  · simp [applySensorSet]

@[simp] theorem fixSector_storage (n : SectorNo) : (s.fixSector n).storage = s.storage := by
  unfold fixSector
  dsimp only
  split <;> simp

@[simp] theorem actOnMode_storage (n : SectorNo) (old : SectorConfig) : (s.actOnMode n old).storage = s.storage := by
  unfold actOnMode
  dsimp only
  split
  · exact statusEvaluations_storage _ [n]
  · exact fixSector_storage s n
  · split
    · rfl
    · exact fixSector_storage s n
  · rfl

@[simp] theorem requestSectorSet_storage (i : SectorSetItems) : (s.requestSectorSet i).1.storage = s.storage := by
  unfold requestSectorSet
  split
  · rfl
  · simp [applySectorSet]

/-! #### The Render Engine -/

@[simp] theorem testTake_storage (f : FeedNo) : (s.testTake f).1.storage = s.storage := by
  unfold testTake
  split
  · rfl
  · dsimp only
    split <;> simp

@[simp] theorem stepTake_storage (f : FeedNo) : (s.stepTake f).storage = s.storage := by
  have taken := s.testTake_storage f
  unfold stepTake
  split
  all_goals
    next e =>
      rw [e] at taken
      exact taken

@[simp] theorem stepFeed_storage (f : FeedNo) : (s.stepFeed f).storage = s.storage := by
  unfold stepFeed
  dsimp only
  split
  · rfl
  · split
    · rfl
    · rfl
    · split <;> rfl
    · exact stepTake_storage s f

theorem boundaryFeed_storage (a b : OverrideState) (f : FeedNo) : (boundaryFeed a b s f).storage = s.storage := by
  have engaged : (s.engageFeed f).storage = s.storage := by
    unfold engageFeed
    split <;> simp
  have disengaged : (s.disengageFeed f).storage = s.storage := by
    unfold disengageFeed
    dsimp only
    split <;> simp
  cases a <;> cases b
  · exact stepFeed_storage s f
  · exact disengaged
  · exact engaged
  · exact stepFeed_storage s f

@[simp] theorem stepFeeds_storage : s.stepFeeds.storage = s.storage := by
  have boundary : ∀ (a b : OverrideState) (fs : List FeedNo) (u : State),
      (fs.foldl (boundaryFeed a b) u).storage = u.storage := by
    intro a b fs
    induction fs with
    | nil => exact fun _ => rfl
    | cons f fs ih =>
      intro u
      rw [List.foldl_cons, ih, boundaryFeed_storage]
  exact boundary _ _ _ _

@[simp] theorem countBlocks_storage : s.countBlocks.storage = s.storage := by
  have image : s.image.countBlock.waitingImage = s.image.waitingImage := by cases s.image <;> rfl
  exact congrArg (fun i => (s.handles, s.pool, i)) image

/-! #### The Resolver -/

@[simp] theorem concludeResolution_storage (f : FeedNo) : (s.concludeResolution f).storage = s.storage := by
  unfold concludeResolution
  split
  · rfl
  · next r _ =>
    have watched := s.watchTest_storage .autoChange (.feed f)
    dsimp only
    split
    · exact watched
    · unfold succeed
      dsimp only
      split
      · exact watched
      · exact (queueFeeds_storage _ _).trans watched

end State

theorem SameStorage.of_storage {s t : State} (same : t.storage = s.storage) (valid : s.heldImageValid) :
    SameStorage s t := by
  simp only [State.storage, Prod.mk.injEq] at same
  obtain ⟨handles, pool, image⟩ := same
  refine .of_eq_valid handles pool ?_
  rw [State.heldImageValid_iff, image]
  exact (State.heldImageValid_iff s).mp valid

/-- A change that the pool does not see. -/
theorem PoolKept.of_storage {settled : Bool} {s t : State} (k : PoolKept settled s) (same : t.storage = s.storage) :
    PoolKept settled t := k.of_same (.of_storage same k.parted.heldImage)

end Sys2Proof.Machine
end

section
/-! ### A load keeps the pool sound (R66, R168, R169) -/

namespace Sys2Proof.Machine

/-- The words of the profiles at the handles below the place `n`. -/
def wordsBelow (ps : List SavedProfile) (n : Nat) : Nat :=
  ((ps.filter fun p => p.handle.ix.val < n).map SavedProfile.words).sum

theorem wordsBelow_zero (ps : List SavedProfile) : wordsBelow ps 0 = 0 := by simp [wordsBelow]

theorem wordsBelow_all (ps : List SavedProfile) : wordsBelow ps 255 = (ps.map SavedProfile.words).sum := by
  rw [wordsBelow, List.filter_eq_self.mpr fun p _ => decide_eq_true p.handle.ix.isLt]

theorem wordsBelow_mono (ps : List SavedProfile) : Monotone (wordsBelow ps) := by
  intro m n le
  induction ps with
  | nil => simp [wordsBelow]
  | cons p ps ih =>
    unfold wordsBelow at ih ⊢
    rw [List.filter_cons, List.filter_cons]
    by_cases low : p.handle.ix.val < m
    · have lower : p.handle.ix.val < n := low.trans_le le
      simp only [low, lower, decide_true, if_true, List.map_cons, List.sum_cons]
      omega
    · simp only [low, decide_false, Bool.false_eq_true, if_false]
      split
      · rw [List.map_cons, List.sum_cons]
        omega
      · exact ih

/-- The next place adds the words of the profile that stands there. -/
theorem wordsBelow_succ {ps : List SavedProfile} (distinct : (ps.map fun p => p.handle.ix).Nodup) (h : HandleIx) :
    wordsBelow ps (h.val + 1) =
      wordsBelow ps h.val + ((ps.find? fun p => p.handle.ix = h).map SavedProfile.words).getD 0 := by
  induction ps with
  | nil => rfl
  | cons p ps ih =>
    rw [List.map_cons, List.nodup_cons] at distinct
    obtain ⟨apart, distinct⟩ := distinct
    have step := ih distinct
    unfold wordsBelow at step ⊢
    rw [List.filter_cons, List.filter_cons, List.find?_cons]
    by_cases here : p.handle.ix = h
    · subst here
      have none : ps.find? (fun q => q.handle.ix = p.handle.ix) = none := by
        rw [List.find?_eq_none]
        intro q hq same
        exact apart (List.mem_map.mpr ⟨q, hq, by simpa using same⟩)
      rw [none] at step
      simp only [Nat.lt_succ_self, lt_irrefl, decide_true, decide_false, if_true, Bool.false_eq_true, if_false,
        List.map_cons, List.sum_cons, step, Option.map_none, Option.getD_none, Option.map_some, Option.getD_some]
      omega
    · have other : p.handle.ix.val ≠ h.val := fun same => here (Fin.ext same)
      by_cases low : p.handle.ix.val < h.val
      · have lower : p.handle.ix.val < h.val + 1 := by omega
        simp only [low, lower, here, decide_true, decide_false, if_true, List.map_cons, List.sum_cons, step]
        omega
      · have higher : ¬ p.handle.ix.val < h.val + 1 := by omega
        simp only [low, higher, here, decide_false, Bool.false_eq_true, if_false, step]

/-- Below the last of a row of steps, some step reaches over `w`. -/
theorem exists_step_over {f : Nat → Nat} (zero : f 0 = 0) {n w : Nat} (below : w < f n) :
    ∃ k, k < n ∧ f k ≤ w ∧ w < f (k + 1) := by
  induction n with
  | zero => omega
  | succ n ih =>
    by_cases low : w < f n
    · obtain ⟨k, hk, step⟩ := ih low
      exact ⟨k, by omega, step⟩
    · exact ⟨n, by omega, by omega, below⟩

theorem Image.survivors_distinct {g : Image} (distinct : g.handlesDistinct = true) :
    (g.survivors.map fun p => p.handle.ix).Nodup := by
  have nodup : (g.profiles.map fun p => p.handle.ix).Nodup := of_decide_eq_true distinct
  exact nodup.sublist ((List.filter_sublist.trans List.filter_sublist).map _)

/-- After a load the free list holds the words above the records (R66). -/
theorem Image.pool_free {g : Image} (fits : g.usedWords ≤ Config.poolWords) :
    freeListSound g.pool.free ∧ ∀ w, covered g.pool.free w ↔ g.usedWords ≤ w ∧ w < Config.poolWords := by
  unfold Image.pool
  dsimp only
  split
  · next full => exact ⟨freeListSound_nil, fun w => by rw [full]; simp⟩
  · next room =>
    refine ⟨by simp [freeListSound]; omega, fun w => ?_⟩
    simp only [covered_cons, covered_nil, or_false, Extent.holds]
    omega

namespace PoolHeld

variable {settled : Bool} {s : State} {g : Image} {h : HandleIx}

/-- Every handle that no survivor holds is FREE after a load, and holds nothing. -/
theorem handle_unsaved (b : PoolHeld settled s) (gone : g.survivors.find? (fun p => p.handle.ix = h) = none) :
    ((s.withTables g).handle h).state = .free ∧ ((s.withTables g).handle h).extent = none ∧
      ((s.withTables g).handle h).record = none ∧ ((s.withTables g).handle h).inMove = false := by
  rw [State.handle_withTables, HandleEntry.replaced, gone]
  cases g.profileAt h with
  | some p => exact ⟨rfl, rfl, rfl, rfl⟩
  | none =>
    by_cases free : (s.handle h).state = .free
    · simp only [free, if_true]
      exact ⟨trivial, (b.parted.placed h).mp free, (b.parted.recorded h).mp free, b.still_of_free free⟩
    · simp only [free, if_false]
      exact ⟨rfl, rfl, rfl, rfl⟩

/-- After a load each handle owns the words from those below it to those below the next (R66). -/
theorem ownsWord_withTables (b : PoolHeld settled s) (distinct : g.handlesDistinct = true) (w : Nat) :
    (s.withTables g).ownsWord h w ↔ wordsBelow g.survivors h.val ≤ w ∧ w < wordsBelow g.survivors (h.val + 1) := by
  rw [wordsBelow_succ (Image.survivors_distinct distinct)]
  unfold State.ownsWord
  cases found : g.survivors.find? (fun p => p.handle.ix = h) with
  | none =>
    rw [(b.handle_unsaved found).2.1]
    simp
  | some p =>
    rw [State.handle_survivor found]
    have offset : g.offsetOf h = wordsBelow g.survivors h.val := rfl
    simp [Extent.holds, offset]

/-- The tables of a consistent image part the pool. -/
theorem withTables (b : PoolHeld settled s) (consistent : g.consistent = true) : PoolKept false (s.withTables g) := by
  simp only [Image.consistent, Bool.and_eq_true] at consistent
  obtain ⟨⟨⟨⟨⟨⟨distinct, -⟩, -⟩, -⟩, -⟩, -⟩, fits⟩ := consistent
  have fits : g.usedWords ≤ Config.poolWords := of_decide_eq_true fits
  have owns : ∀ h w, _ := fun h w => b.ownsWord_withTables (h := h) distinct w
  obtain ⟨sound, free⟩ := Image.pool_free fits
  have used : wordsBelow g.survivors 255 = g.usedWords := wordsBelow_all _
  have mono := wordsBelow_mono g.survivors
  have entry : ∀ h, (∃ p : SavedProfile, ((s.withTables g).handle h).state ≠ .free ∧
      ((s.withTables g).handle h).extent = some ⟨g.offsetOf h, p.words⟩ ∧
      ((s.withTables g).handle h).record = some p.record ∧ ((s.withTables g).handle h).inMove = false) ∨
      (((s.withTables g).handle h).state = .free ∧ ((s.withTables g).handle h).extent = none ∧
      ((s.withTables g).handle h).record = none ∧ ((s.withTables g).handle h).inMove = false) := fun h => by
    cases found : g.survivors.find? (fun p => p.handle.ix = h) with
    | none => exact .inr (b.handle_unsaved found)
    | some p =>
      rw [State.handle_survivor found]
      exact .inl ⟨p, by dsimp only; split <;> nofun, rfl, rfl, rfl⟩
  have still : ∀ h, ((s.withTables g).handle h).inMove = false := fun h => by
    rcases entry h with ⟨p, -, -, -, still⟩ | ⟨-, -, -, still⟩ <;> exact still
  refine ⟨⟨⟨sound, fun w => ?_, fun h w hw => ?_, fun h h' w hw hw' => ?_, fun h => ?_, fun h => ?_, fun h x hx => ?_,
    b.parted.heldImage⟩, ⟨fun h x r _ hx hr => ?_, fun h => ?_, nofun, nofun, nofun⟩⟩, ?_⟩
  · show covered g.pool.free w ∨ _ ↔ _
    rw [free]
    simp only [owns]
    constructor
    · rintro (high | ⟨h, -, low⟩)
      · exact high.2
      · have : wordsBelow g.survivors (h.val + 1) ≤ wordsBelow g.survivors 255 := mono h.isLt
        omega
    · intro inside
      by_cases high : g.usedWords ≤ w
      · exact .inl ⟨high, inside⟩
      · obtain ⟨k, hk, step⟩ := exists_step_over (wordsBelow_zero g.survivors) (n := 255) (w := w) (by omega)
        exact .inr ⟨⟨k, hk⟩, step⟩
  · rw [owns] at hw
    show ¬ covered g.pool.free w
    rw [free]
    have : wordsBelow g.survivors (h.val + 1) ≤ wordsBelow g.survivors 255 := mono h.isLt
    omega
  · rw [owns] at hw hw'
    have apart : ∀ i j : HandleIx, i.val < j.val → w < wordsBelow g.survivors (i.val + 1) →
        ¬ wordsBelow g.survivors j.val ≤ w := fun i j lt below => by
      have : wordsBelow g.survivors (i.val + 1) ≤ wordsBelow g.survivors j.val := mono lt
      omega
    rcases lt_trichotomy h.val h'.val with lt | eq | gt
    · exact absurd hw'.1 (apart h h' lt hw.2)
    · exact Fin.ext eq
    · exact absurd hw.1 (apart h' h gt hw'.2)
  · rcases entry h with ⟨p, state, extent, -, -⟩ | ⟨state, extent, -, -⟩ <;> simp [state, extent]
  · rcases entry h with ⟨p, state, -, record, -⟩ | ⟨state, -, record, -⟩ <;> simp [state, record]
  · rcases entry h with ⟨p, -, extent, -, -⟩ | ⟨-, extent, -, -⟩
    · cases hx.symm.trans extent
      exact recordWords_pos _
    · cases hx.symm.trans extent
  · rcases entry h with ⟨p, -, extent, record, -⟩ | ⟨-, extent, -, -⟩
    · cases hx.symm.trans extent
      cases hr.symm.trans record
      rfl
    · cases hx.symm.trans extent
  · rw [still h]
    constructor
    · nofun
    · rintro ⟨-, m, hm, -⟩
      cases hm
  · exact ⟨nofun, fun busy => absurd rfl busy⟩

end PoolHeld

theorem SameStorage.endLoad (s : State) (o : LoadOutcome) : SameStorage s (s.endLoad o) :=
  .of_eq_unheld rfl rfl nofun

namespace PoolKept

variable {s : State}

theorem replaceTables (k : PoolKept false s) {g : Image} (consistent : g.consistent = true) :
    PoolKept false (s.replaceTables g) := by
  have requeued : PoolKept false (s.withTables g).requeueAll.rebuildDependencies :=
    (k.toPoolHeld.withTables consistent).of_storage
      ((State.rebuildDependencies_storage _).trans (State.queueFeeds_storage _ _))
  exact requeued.of_same (.endLoad _ _)

theorem finishRead (k : PoolKept false s) (answer : FlashAnswer) : PoolKept false (s.finishRead answer) := by
  have read : ∀ c, PoolKept false { s with flash := c } := fun c => k.of_same (.of_eq rfl rfl rfl)
  unfold State.finishRead
  dsimp only
  split
  · exact (read _).of_same ((SameStorage.raise _ _).trans (.endLoad _ _))
  · next g valid =>
    have consistent := State.validate_consistent valid
    split
    · exact k.of_same (.of_eq_valid rfl rfl fun h hh => by cases hh; exact consistent)
    · exact (read _).replaceTables consistent

/-- The pool of a block in cold start: one free extent of all its words (R51, R56). -/
theorem of_coldStart (handles : s.handles = State.reset.handles) (pool : s.pool = State.reset.pool)
    (image : s.image = .idle) : PoolKept false s := by
  have handle : ∀ h, s.handle h = HandleEntry.reset := fun h => by rw [State.handle, handles]; exact Table.get_fill _ h
  have unowned : ∀ h w, ¬ s.ownsWord h w := fun h w => by
    unfold State.ownsWord
    rw [handle]
    rintro ⟨x, hx, -⟩
    cases hx
  have free : ∀ w, s.freeWord w ↔ w < Config.poolWords := fun w => by
    simp [State.freeWord, pool, State.reset, Pool.reset, Extent.holds]
  refine ⟨⟨⟨?_, fun w => ?_, fun h w hw => absurd hw (unowned h w), fun h _ w hw => absurd hw (unowned h w), ?_, ?_, ?_,
    ?_⟩, ⟨?_, ?_, ?_, ?_, nofun⟩⟩, ?_⟩
  · rw [pool]
    simp [State.reset, Pool.reset, freeListSound, Config.poolWords]
  · simp [free, unowned]
  all_goals simp [handle, pool, image, State.reset, Pool.reset, HandleEntry.reset, State.heldImageValid,
    State.poolSettled]

end PoolKept

end Sys2Proof.Machine
end

section
/-! ### Every command keeps the pool sound (R50, R51, R56, R58) -/

namespace Sys2Proof.Machine

namespace PoolKept

variable {settled : Bool} {s : State}

theorem served (k : PoolKept settled s) {α : Type} (r : Request α) (formed : α → Bool) {run : α → State → State × Work}
    (keeps : ∀ a u, PoolKept settled u → PoolKept settled (run a u).1) : PoolKept settled (serve r formed run s) :=
  State.serve_keeps (fun u p hu => hu.of_same (.setPort u p)) r formed k keeps

theorem servedNow (k : PoolKept settled s) {α : Type} (r : Request α) (formed : α → Bool)
    {run : α → State → State × Answer} (keeps : ∀ a u, PoolKept settled u → PoolKept settled (run a u).1) :
    PoolKept settled (serveNow r formed run s) :=
  State.serveNow_keeps (fun u p hu => hu.of_same (.setPort u p)) r formed k keeps

/-- A request that the pool does not see. -/
theorem servedElsewhere (k : PoolKept settled s) {α : Type} (r : Request α) (formed : α → Bool)
    {run : α → State → State × Answer} (same : ∀ a u, (run a u).1.storage = u.storage) :
    PoolKept settled (serveNow r formed run s) := k.servedNow r formed fun a u hu => hu.of_storage (same a u)

/-- A command whose next state is given. -/
theorem of_next {t u : State} (h : (Host.Outcome.next u : Result) = .next t) (k : PoolKept settled u) :
    PoolKept settled t := by
  cases h
  exact k

/-- The end of cold start: what STARTUP begins holds no image. -/
theorem coldStartEnd (k : PoolKept settled s) (p : Pins) (slot : Option Reply) (startup : StartupPin) :
    PoolKept settled { s with pins := p, port := { s.port with slot := slot }, image := startupStatus startup } := by
  refine k.of_same (.of_eq_unheld rfl rfl ?_)
  cases startup <;> nofun

/-- Requests that allocate, free, edit or move go by their own lemmas, a load by the image's tests; the pool does not see
the others. -/
theorem exec (k : PoolKept false s) {c : Instr} {t : State} (h : exec c s = .next t) : PoolKept false t := by
  cases c with
  | coldStart => exact of_next h (of_coldStart rfl rfl rfl)
  | coldStartEnd startup =>
    refine of_next h ?_
    split
    · exact (k.coldStartEnd _ _ startup).of_storage (State.sampleAlarm_storage _)
    · exact k
  | alarmAssertion => exact of_next h (k.of_storage (s.setAlarm_storage true))
  | alarmDeassertion => exact of_next h (k.of_storage (s.setAlarm_storage false))
  | transactionBegin =>
    refine of_next h (k.of_storage ?_)
    split
    · rfl
    · exact s.beginTransaction_storage
  | discardedRequest =>
    refine of_next h (k.of_storage ?_)
    split
    · split <;> rfl
    · rfl
  | badFrame tag reason =>
    refine of_next h (k.of_storage ?_)
    split
    · rfl
    · dsimp only
      split <;> exact s.endTransaction_storage
  | badCommand tag => exact of_next h (k.servedElsewhere _ _ fun _ _ => rfl)
  | nop q => exact of_next h (k.servedElsewhere q _ fun _ _ => rfl)
  | status q => exact of_next h (k.servedElsewhere q _ fun _ _ => rfl)
  | look q => exact of_next h (k.servedElsewhere q _ fun i u => u.look_storage i)
  | set q => exact of_next h (k.served q _ fun i _ hu => hu.requestSet i)
  | find q => exact of_next h (k.servedElsewhere q _ fun i u => u.find_storage i)
  | createProfile q => exact of_next h (k.servedNow q _ fun c _ hu => hu.requestCreate c)
  | clone q => exact of_next h (k.servedNow q _ fun ref _ hu => hu.requestClone ref)
  | editSections q => exact of_next h (k.served q _ fun i _ hu => hu.editOrWait _ _ (hu.requestEditSections i))
  | base q => exact of_next h (k.served q _ fun i _ hu => hu.editOrWait _ _ fun _ => hu.requestBase i)
  | retire q => exact of_next h (k.servedNow q _ fun ref _ hu => hu.requestRetire ref)
  | revive q => exact of_next h (k.servedNow q _ fun ref _ hu => hu.requestRevive ref)
  | bind q => exact of_next h (k.servedNow q _ fun i _ hu => hu.requestBind i)
  | unbind q => exact of_next h (k.servedNow q _ fun ref _ hu => hu.requestUnbind ref)
  | bindOverride q => exact of_next h (k.servedNow q _ fun i _ hu => hu.requestBindOverride i)
  | unbindOverride q => exact of_next h (k.servedNow q _ fun ref _ hu => hu.requestUnbindOverride ref)
  | lead q => exact of_next h (k.servedNow q _ fun i _ hu => hu.requestLead i)
  | clearFeed q => exact of_next h (k.servedNow q _ fun ref _ hu => hu.requestClearFeed ref)
  | hold q => exact of_next h (k.servedElsewhere q _ fun set u => u.changeHolds_storage set true)
  | release q => exact of_next h (k.servedElsewhere q _ fun set u => u.changeHolds_storage set false)
  | engage q => exact of_next h (k.servedElsewhere q _ fun _ u => u.changeSources_storage _ _)
  | disengage q => exact of_next h (k.servedElsewhere q _ fun _ u => u.changeSources_storage _ _)
  | compactStart q => exact of_next h (k.servedNow q _ fun _ _ hu => hu.requestCompactStart)
  | compactStop q => exact of_next h (k.servedNow q _ fun _ _ hu => hu.requestCompactStop)
  | rebuildDependencies q => exact of_next h (k.servedElsewhere q _ fun _ u => u.requestRebuild_storage)
  | save q => exact of_next h (k.servedElsewhere q _ fun _ u => u.requestSave_storage)
  | load q => exact of_next h (k.servedElsewhere q _ fun _ u => u.requestLoad_storage)
  | watchSet q => exact of_next h (k.servedElsewhere q _ fun i u => u.requestWatchSet_storage i)
  | watchClear q => exact of_next h (k.servedElsewhere q _ fun n u => u.requestWatchClear_storage n)
  | readWatch q => exact of_next h (k.servedElsewhere q _ fun n u => u.requestReadWatch_storage n)
  | sensorSet q => exact of_next h (k.servedElsewhere q _ fun i u => u.requestSensorSet_storage i)
  | sectorSet q => exact of_next h (k.servedElsewhere q _ fun i u => u.requestSectorSet_storage i)
  | policySet q => exact of_next h (k.servedElsewhere q _ fun cs u => u.requestPolicySet_storage cs)
  | crossStandSet q => exact of_next h (k.servedElsewhere q _ fun v u => u.requestCrossStandSet_storage v)
  | readNotices q => exact of_next h (k.servedElsewhere q _ fun _ _ => rfl)
  | clearNotices q => exact of_next h (k.servedElsewhere q _ fun _ _ => rfl)
  | noticeMask q => exact of_next h (k.servedElsewhere q _ fun m u => u.changeMask_storage m)
  | blockBoundary =>
    refine of_next h (k.of_storage ?_)
    split
    · rfl
    · rw [State.countBlocks_storage, State.stepFeeds_storage]
      rfl
  | transitionComplete f =>
    refine of_next h (k.of_storage ?_)
    dsimp only
    split
    · split <;> rfl
    · rfl
  | sinceChangeTick n =>
    refine of_next h (k.of_storage ?_)
    dsimp only
    split
    · split <;> rfl
    · rfl
  | conversionStart n =>
    refine of_next h (k.of_storage ?_)
    dsimp only
    split <;> rfl
  | readingComplete n code =>
    refine of_next h (k.of_storage ?_)
    dsimp only
    split
    · rfl
    · split
      · exact State.applyReading_storage _ _ _
      · rfl
  | resolutionStart =>
    refine of_next h (k.of_storage ?_)
    split <;> rfl
  | resolutionComplete =>
    refine of_next h (k.of_storage ?_)
    split
    · rfl
    · split
      · rfl
      · exact State.concludeResolution_storage _ _
  | moveComplete => exact of_next h k.completeMove
  | deferredEdit =>
    refine of_next h ?_
    split
    · exact k.completeMove
    · exact k
  | saveComplete readBack =>
    refine of_next h ?_
    split
    · exact k.of_same (.of_eq_unheld rfl rfl nofun)
    all_goals exact k
  | loadReadComplete answer =>
    refine of_next h ?_
    split
    · exact k.finishRead answer
    all_goals exact k
  | heldLoadReplacement =>
    refine of_next h ?_
    split
    · next g held =>
      split
      · exact k
      · exact k.replaceTables (k.parted.heldImage g held)
    all_goals exact k
  | startupWaitExpiry =>
    refine of_next h ?_
    split
    · exact k.of_same (.of_eq_unheld rfl rfl nofun)
    all_goals exact k
  | replyPlacement =>
    refine of_next h (k.of_storage ?_)
    split <;> rfl

end PoolKept

/-- Settles O55: every change takes words from the free list, gives words back to it, or leaves both alone, so that the
extents and the list go on parting the pool among them; between the changes of a step the move record may lag behind. -/
theorem poolStaysSound : Obligations.PoolStaysSound := by
  unfold Obligations.PoolStaysSound
  intro s t sound h
  rw [← poolKept_iff] at sound ⊢
  unfold step at h
  split at h
  · cases h
    exact sound
  · next c rest _ => exact PoolKept.exec (s := { s with pending := rest }) (sound.of_same (.of_eq rfl rfl rfl)) h

end Sys2Proof.Machine
end

section
/-! ### Content edits of a profile in move (R35, R61, R150, R160) -/

namespace Sys2Proof.Machine

namespace State

variable {s : State} {ref : RecordRef} {h : HandleIx}

theorem editWaits_named (named : s.refProfile ref = .ok h) : s.editWaits ref = (s.handle h).inMove := by
  rw [editWaits, named]

/-- A content edit of a profile in move is not run (R61). -/
theorem editOrWait_waits (named : s.refProfile ref = .ok h) (moves : (s.handle h).inMove = true) (edit : WaitingEdit)
    (now : State × Answer) : s.editOrWait ref edit now = (s, .waiting edit) := by
  rw [editOrWait, editWaits_named named, moves]
  rfl

end State

section

variable {s : State} {tag : Byte} {ref : RecordRef} {h : HandleIx} (ready : s.ready)
  (named : s.refProfile ref = .ok h) (moves : (s.handle h).inMove = true)

include ready named moves

theorem exec_editSections_waits (sections : List EqSection) :
    exec (.editSections ⟨tag, some ⟨ref, sections⟩⟩) s =
      .next (s.released.setInProgress tag (.waiting (.sections ⟨ref, sections⟩))) := by
  have served := serve_ready (⟨tag, some ⟨ref, sections⟩⟩ : Request EditSectionsItems)
    (fun i => accepts .profile i.profile)
    (fun i s => s.editOrWait i.profile (.sections i) (s.requestEditSections i)) s ready rfl (accepts_of_refProfile named)
  rw [State.editOrWait_waits (s := s.released) named moves] at served
  exact congrArg Host.Outcome.next served

theorem exec_base_waits {base : RecordRef} (accepted : accepts .profile base = true) :
    exec (.base ⟨tag, some ⟨ref, base⟩⟩) s =
      .next (s.released.setInProgress tag (.waiting (.base ⟨ref, base⟩))) := by
  have formed : (accepts .profile ref && accepts .profile base) = true := by
    rw [accepts_of_refProfile named, accepted]
    rfl
  have served := serve_ready (⟨tag, some ⟨ref, base⟩⟩ : Request BaseItems)
    (fun i => accepts .profile i.profile && accepts .profile i.base)
    (fun i s => s.editOrWait i.profile (.base i) (s.requestBase i)) s ready rfl formed
  rw [State.editOrWait_waits (s := s.released) named moves] at served
  exact congrArg Host.Outcome.next served

/-- A SET within the ranges of R160 stops at its first record before the value is looked at (log 16). -/
theorem exec_set_waits {field count step : Nat} (v : Int) (content : contentField field = true)
    (small : 1 ≤ count ∧ count ≤ 16 ∧ 1 ≤ step ∧ step ≤ 16) (range : handleNumber h + (count - 1) * step ≤ 255) :
    exec (.set ⟨tag, some ⟨ref, field, v, count, step⟩⟩) s = .next (s.released.setInProgress tag
      (.waiting (.set ⟨recordNumbers (handleNumber h) count step, some (s.handle h).gen.val, field, v, 0⟩))) := by
  have waits : (contentField field && (s.handle h).inMove) = true := by rw [content, moves]; rfl
  have plan := State.setPlan_ranged named field v small range
  rw [waits, if_neg (by simp)] at plan
  rw [exec_set_planned _ ready rfl named plan, State.profilesSet]
  obtain ⟨n, rfl⟩ : ∃ n, count = n + 1 := ⟨count - 1, by omega⟩
  have first : s.released.setWaits field (handleNumber h)
      (s.released.namedGen (some (s.handle h).gen.val) (handleNumber h)) = true :=
    (State.setWaits_named (s := s) named field).trans waits
  rw [recordNumbers_succ, State.setProfilesLoop_waits first]

end

/-- The reply of an edit that waits is not placed (R61, R150). -/
theorem exec_replyPlacement_waiting {s : State} {tag : Byte} {e : WaitingEdit}
    (waiting : s.port.inProgress = some ⟨tag, .waiting e⟩) : exec .replyPlacement s = .next s := by
  show execReplyPlacement s = .next s
  rw [execReplyPlacement, waiting]

/-- Settles O29: each of the three edits meets the wait before any test of it. -/
theorem contentEditWaits : Obligations.ContentEditWaits := by
  unfold Obligations.ContentEditWaits
  refine ⟨fun s tag ref h ready named moves => ⟨?_, ?_, ?_⟩, fun s tag e waiting => exec_replyPlacement_waiting waiting⟩
  · exact exec_editSections_waits ready named moves
  · exact fun base accepted => exec_base_waits ready named moves accepted
  · exact fun field v count step content low high low' high' range =>
      exec_set_waits ready named moves v (contentField_iff.mpr content) ⟨low, high, low', high'⟩ range

end Sys2Proof.Machine
end

section
/-! ### COMPACT START and COMPACT STOP (R57, R58, R64) -/

namespace Sys2Proof.Machine

namespace State

variable {s : State}

theorem handleAt_unique {offset : Nat} {h : HandleIx} {x : Extent} (here : (s.handle h).extent = some x)
    (begins : x.offset = offset) (only : ∀ g y, (s.handle g).extent = some y → y.offset = offset → g = h) :
    s.handleAt offset = some h := by
  have found : (s.handleAt offset).isSome = true := by
    rw [handleAt, List.find?_isSome]
    exact ⟨h, List.mem_finRange h, by simp [here, begins]⟩
  obtain ⟨g, hg⟩ := Option.isSome_iff_exists.mp found
  have above := List.find?_some hg
  rw [decide_eq_true_iff] at above
  obtain ⟨y, hy, at'⟩ := Option.map_eq_some_iff.mp above
  rw [hg, only g y hy at']

theorem handleAt_none {offset : Nat} (apart : ∀ g x, (s.handle g).extent = some x → x.offset ≠ offset) :
    s.handleAt offset = none := by
  rw [handleAt, List.find?_eq_none]
  intro g _ above
  rw [decide_eq_true_iff] at above
  obtain ⟨x, hx, here⟩ := Option.map_eq_some_iff.mp above
  exact apart g x hx here

theorem chooseMove_none
    (apart : ∀ e ∈ s.pool.free, ∀ g x, (s.handle g).extent = some x → x.offset ≠ e.offset + e.len) :
    s.chooseMove = none := by
  rw [chooseMove, List.findSome?_eq_none_iff]
  intro e mem
  rw [handleAt_none (apart e mem)]
  rfl

/-- The lowest free extent with a record directly above it is chosen (R58). -/
theorem chooseMove_lowest {e : Extent} {h : HandleIx} (sound : freeListSound s.pool.free) (mem : e ∈ s.pool.free)
    (here : s.handleAt (e.offset + e.len) = some h)
    (lower : ∀ e' ∈ s.pool.free, e'.offset < e.offset → s.handleAt (e'.offset + e'.len) = none) :
    s.chooseMove = some (e, h) := by
  obtain ⟨before, after, split⟩ := List.append_of_mem mem
  have below : ∀ e' ∈ before, e'.offset < e.offset := fun e' he' => by
    have order := sound.2
    rw [split, List.pairwise_append] at order
    have := order.2.2 e' he' e (List.mem_cons_self ..)
    omega
  have skipped : before.findSome? (fun e => (s.handleAt (e.offset + e.len)).map fun h => (e, h)) = none := by
    rw [List.findSome?_eq_none_iff]
    intro e' he'
    rw [lower e' (split ▸ List.mem_append_left _ he') (below e' he')]
    rfl
  rw [chooseMove, split, List.findSome?_append, skipped, List.findSome?_cons, here]
  rfl

theorem nextMove_of_none (none : s.chooseMove = none) : s.nextMove =
    { s with pool := { s.pool with compaction := .idle }, notices := s.notices.raise .compactionDone } := by
  rw [nextMove, none]
  rfl

theorem nextMove_of_some {e : Extent} {h : HandleIx} {x : Extent} (chosen : s.chooseMove = some (e, h))
    (here : (s.handle h).extent = some x) : s.nextMove = { s with
      handles := s.handles.upd h { s.handle h with extent := some ⟨e.offset, e.len + x.len⟩, inMove := true }
      pool := ⟨s.pool.free.filter fun x => x.offset != e.offset, .running, some ⟨h, e.offset, x.len, e.len + x.len⟩⟩ } := by
  rw [nextMove, chosen]
  exact beginMove_eq (s := { s with pool := { s.pool with compaction := .running } }) here e

end State

variable {s : State} {tag : Byte}

theorem exec_compactStart (ready : s.ready) : exec (.compactStart ⟨tag, some ()⟩) s =
    .next (s.released.requestCompactStart.1.answered tag s.released.requestCompactStart.2.status
      s.released.requestCompactStart.2.body) :=
  congrArg Host.Outcome.next
    (serveNow_ready (⟨tag, some ()⟩ : Request Unit) anyItems s (fun _ s => s.requestCompactStart) ready rfl rfl)

theorem exec_compactStop (ready : s.ready) : exec (.compactStop ⟨tag, some ()⟩) s =
    .next (s.released.requestCompactStop.1.answered tag s.released.requestCompactStop.2.status
      s.released.requestCompactStop.2.body) :=
  congrArg Host.Outcome.next
    (serveNow_ready (⟨tag, some ()⟩ : Request Unit) anyItems s (fun _ s => s.requestCompactStop) ready rfl rfl)

theorem exec_compactStart_busy (ready : s.ready) (busy : s.pool.compaction ≠ .idle ∨ s.image ≠ .idle) :
    exec (.compactStart ⟨tag, some ()⟩) s = .next (s.released.answered tag .busy []) := by
  have run : s.released.requestCompactStart = (s.released, refusal .busy) := by
    refine if_neg ?_
    simp only [State.compactionIdle, State.imageIdle, Bool.and_eq_true, decide_eq_true_eq]
    rintro ⟨compaction, image⟩
    exact busy.elim (· compaction) (· image)
  rw [exec_compactStart ready, run]
  rfl

theorem exec_compactStart_taken (ready : s.ready) (compaction : s.pool.compaction = .idle) (image : s.image = .idle) :
    exec (.compactStart ⟨tag, some ()⟩) s = .next (s.released.nextMove.answered tag .started []) := by
  have run : s.released.requestCompactStart = (s.released.nextMove, ⟨.started, []⟩) := by
    refine if_pos ?_
    simp only [State.compactionIdle, State.imageIdle, Bool.and_eq_true, decide_eq_true_eq]
    exact ⟨compaction, image⟩
  rw [exec_compactStart ready, run]

/-- Settles O32: the chosen extent is the lowest, its record's handle the only one there. -/
theorem compactStartStop : Obligations.CompactStartStop := by
  unfold Obligations.CompactStartStop
  intro s tag ready
  refine ⟨exec_compactStart_busy ready, fun compaction image => ⟨?_, fun apart => ?_⟩, ?_⟩
  · intro e h len sound mem above only lowest
    have chosen : s.released.chooseMove = some (e, h) := State.chooseMove_lowest (s := s) sound mem
      (State.handleAt_unique above rfl only) fun e' mem' low => State.handleAt_none (lowest e' mem' low)
    have list : s.pool.free.filter (fun x => x.offset != e.offset) = s.pool.free.filter fun x => x ≠ e := by
      refine List.filter_congr fun x hx => ?_
      exact Bool.eq_iff_iff.mpr (by simpa using not_congr ⟨sound.eq_of_offset hx mem, congrArg Extent.offset⟩)
    rw [exec_compactStart_taken ready compaction image, State.nextMove_of_some (s := s.released) chosen above, ← list]
    rfl
  · have none : s.released.chooseMove = none := State.chooseMove_none (s := s) apart
    have idle : ({ s.pool with compaction := .idle } : Pool) = s.pool := by rw [← compaction]
    rw [exec_compactStart_taken ready compaction image, State.nextMove_of_none none]
    show Host.Outcome.next { s with
      pool := { s.pool with compaction := .idle }, notices := s.notices.raise .compactionDone
      port := s.portAnswered tag .started [] } = _
    rw [idle]
  · have run : s.released.requestCompactStop = ({ s.released with pool := { s.pool with
        compaction := match s.pool.compaction with
          | .running => .stopping
          | .stopping => .stopping
          | .idle => .idle } }, okBody []) := by
      have same : s.released.pool.compaction = s.pool.compaction := rfl
      unfold State.requestCompactStop
      rw [same]
      cases compaction : s.pool.compaction <;> simp only [← compaction] <;> rfl
    rw [exec_compactStop ready, run]
    rfl

end Sys2Proof.Machine
end

section
/-! ### The completion of a move (R35, R60, R61, R66, R160) -/

namespace Sys2Proof.Machine

namespace State

variable {s : State} {m : MoveRecord} {tag : Byte}

theorem waitingEdit_eq {e : WaitingEdit} (waiting : s.port.inProgress = some ⟨tag, .waiting e⟩) :
    s.waitingEdit = some (tag, e) := by
  rw [waitingEdit, waiting]

theorem completeMove_of_flight (flight : s.pool.move = some m) :
    s.completeMove = (s.settleMove m).takeWaitingEdit.endMove := by
  rw [completeMove, flight]

theorem waitingEdit_settleMove (s : State) (m : MoveRecord) : (s.settleMove m).waitingEdit = s.waitingEdit := rfl

theorem takeWaitingEdit_none (none : s.waitingEdit = none) : s.takeWaitingEdit = s := by
  rw [takeWaitingEdit, none]

theorem takeWaitingEdit_some {e : WaitingEdit} (waiting : s.waitingEdit = some (tag, e)) :
    s.takeWaitingEdit = (s.runEdit e).1.placeEditReply tag (s.runEdit e).2 := by
  rw [takeWaitingEdit, waiting]

/-- The state with no move record, as the end of a move finds it (R60). -/
def moveEnded (s : State) : State := { s with pool := { s.pool with move := none } }

theorem endMove_of_none (none : s.moveEnded.chooseMove = none) : s.endMove =
    { s.moveEnded with
      pool := { s.moveEnded.pool with compaction := .idle }, notices := s.notices.raise .compactionDone } := by
  have next := nextMove_of_none none
  unfold moveEnded at none next
  unfold endMove
  dsimp only
  rw [none]
  cases s.pool.compaction <;> exact next

theorem endMove_of_running {e : Extent} {h : HandleIx} (chosen : s.moveEnded.chooseMove = some (e, h))
    (running : s.pool.compaction = .running) : s.endMove = s.moveEnded.beginMove e h := by
  have again : ({ s.moveEnded with pool := { s.moveEnded.pool with compaction := .running } } : State) = s.moveEnded := by
    rw [← running]
    rfl
  have next : s.moveEnded.nextMove = s.moveEnded.beginMove e h := by
    rw [nextMove, chosen]
    simp only [again]
  unfold moveEnded at chosen
  unfold endMove
  dsimp only
  rw [running]
  exact next

theorem endMove_of_stopping {e : Extent} {h : HandleIx} (chosen : s.moveEnded.chooseMove = some (e, h))
    (stopping : s.pool.compaction = .stopping) : s.endMove =
      { s.moveEnded with pool := { s.moveEnded.pool with compaction := .idle } } := by
  unfold moveEnded at chosen
  unfold endMove
  dsimp only
  rw [chosen, stopping]
  rfl

/-- While a settled move waits for the end of its step, the watch test and the end of a wait come alone. -/
theorem afterAbandon_settled (flight : s.pool.move = some m) {t : State} (move : t.pool.move = (s.settleMove m).pool.move) :
    t.afterAbandon = t := afterAbandon_of_move (by rw [move]; exact congrArg Option.isSome flight)

end State

section

variable {s : State} {m : MoveRecord} {tag : Byte} {e : WaitingEdit}

/-- With an edit that waits, both rows name the step in which the settled move's edit runs (log 31). -/
theorem exec_moveComplete_waiting (flight : s.pool.move = some m)
    (waiting : s.port.inProgress = some ⟨tag, .waiting e⟩) :
    exec .moveComplete s = exec .deferredEdit s ∧ ∀ {v : State} {w : Work}, (s.settleMove m).runEdit e = (v, w) →
      exec .deferredEdit s = .next (v.placeEditReply tag w).endMove := by
  have some : s.waitingEdit = some (tag, e) := State.waitingEdit_eq waiting
  have deferred : exec .deferredEdit s = .next s.completeMove := by
    show Host.Outcome.next (if s.waitingEdit.isSome then s.completeMove else s) = _
    rw [some]
    rfl
  refine ⟨deferred.symm, fun {v w} run => ?_⟩
  rw [deferred, State.completeMove_of_flight flight,
    State.takeWaitingEdit_some ((s.waitingEdit_settleMove m).trans some), run]

theorem exec_moveComplete_quiet (flight : s.pool.move = some m) (none : s.waitingEdit = none) :
    exec .moveComplete s = .next (s.settleMove m).endMove := by
  show Host.Outcome.next s.completeMove = _
  rw [State.completeMove_of_flight flight, State.takeWaitingEdit_none ((s.waitingEdit_settleMove m).trans none)]

/-- The port once the reply of an edit that waited fills the slot (R61). -/
def State.portReplied (s : State) (tag : Byte) (st : Status) (body : List Byte) : Port :=
  { s.port with slot := some ⟨st, tag, body⟩, inProgress := none }

/-- A reply placed over a state whose port an effect has left alone. -/
theorem State.placeEditReply_answered {v : State} (port : v.port = s.port) (st : Status) (body : List Byte) :
    v.placeEditReply tag (.answered ⟨st, body⟩) = { v with port := s.portReplied tag st body } := by
  rw [State.portReplied, ← port]
  rfl

/-- The edit that waited, run as a change request with its tests, the watch test and its effect: refused, taken or
stopped (R35, R61, R146). -/
theorem exec_deferredEdit_change {α : Type} {test : Except Status α} {record : α → RecordName}
    {effect : α → State → State} (flight : s.pool.move = some m)
    (waiting : s.port.inProgress = some ⟨tag, .waiting e⟩)
    (run : (s.settleMove m).runEdit e = (((s.settleMove m).takeChange test record effect).1,
      .answered (answerOf (fun _ => okBody []) ((s.settleMove m).takeChange test record effect).2)))
    (port : ∀ a v, (effect a v).port = v.port) :
    exec .moveComplete s = exec .deferredEdit s ∧
    (∀ st, test = .error st →
      exec .deferredEdit s = .next ({ s.settleMove m with port := s.portReplied tag st [] } : State).endMove) ∧
    ∀ a, test = .ok a →
      ((s.settleMove m).stops .portChange (record a) = false → exec .deferredEdit s =
        .next ({ (effect a ((s.settleMove m).observed (record a))).afterAbandon.endWait with
          port := s.portReplied tag .ok [] } : State).endMove) ∧
      ((s.settleMove m).stops .portChange (record a) = true → exec .deferredEdit s =
        .next ({ (s.settleMove m).observed (record a) with port := s.portReplied tag .watched [] } : State).endMove) := by
  obtain ⟨same, ends⟩ := exec_moveComplete_waiting flight waiting
  have watched : ∀ r, ((s.settleMove m).observed r).port = s.port := fun r => (s.settleMove m).watchTest_port ..
  have replied : ∀ {v : State}, v.port = s.port → ∀ st body,
      Host.Outcome.next (v.placeEditReply tag (.answered ⟨st, body⟩)).endMove =
        (.next ({ v with port := s.portReplied tag st body } : State).endMove : Result) := fun port st body => by
    rw [State.placeEditReply_answered port]
  refine ⟨same, fun st bad => ?_, fun a ok => ⟨fun pass => ?_, fun stop => ?_⟩⟩
  · subst bad
    exact (ends run).trans (replied (v := s.settleMove m) rfl st [])
  · subst ok
    rw [State.takeChange_taken _ record effect a pass] at run
    refine (ends run).trans (replied ?_ .ok [])
    rw [State.endWait_port, State.afterAbandon_port, port]
    exact watched _
  · subst ok
    rw [State.takeChange_stopped _ record effect a stop] at run
    exact (ends run).trans (replied (watched _) .watched [])

end

/-! #### The effects of the edits leave the port (R36) -/

namespace State

variable (s : State)

theorem applyBase_port (p : BasePlan) : (s.applyBase p).port = s.port := by
  unfold applyBase changeBaseReference
  split <;> simp [storeBase]

theorem applyEditSections_port (sections : List EqSection) (p : EditPlan) :
    (s.applyEditSections sections p).port = s.port := by simp [applyEditSections]

theorem applyProfileChange_port (h : HandleIx) (c : ProfileChange) : (s.applyProfileChange h c).port = s.port := by
  rw [applyProfileChange_eq, queueFeeds_port]

theorem currentHandle_applyProfileChange (h : HandleIx) (c : ProfileChange) (g : HandleIx) :
    (s.applyProfileChange h c).currentHandle g = s.currentHandle g := by
  refine currentHandle_of_fieldChanged (s := s) (h := h) (c := c) ?_ g
  rw [applyProfileChange_eq, queueFeeds_handles]

end State

/-! #### SET that waited (R160) -/

section

variable {s : State} {m : MoveRecord} {tag : Byte} {field n done : Nat} {v : Int} {rest : List Nat}
  {named : Option Nat} {h : HandleIx} {c : ProfileChange}

/-- The block once the first record of a SET that waited has been taken (R60, R160). -/
def State.setTaken (s : State) (m : MoveRecord) (h : HandleIx) (c : ProfileChange) : State :=
  { (((s.settleMove m).observed (.profile ((s.settleMove m).currentHandle h))).applyProfileChange h
      c).afterAbandon.endWait with port := { s.port with cursor := .profile ((s.settleMove m).currentHandle h) } }

theorem State.setTaken_eq (flight : s.pool.move = some m) (h : HandleIx) (c : ProfileChange) :
    (let u := (((s.settleMove m).observed (.profile ((s.settleMove m).currentHandle h))).applyProfileChange h
      c).afterAbandon.endWait
     u.setCursor (.profile (u.currentHandle h))) = s.setTaken m h c := by
  dsimp only
  generalize seen : (s.settleMove m).observed (.profile ((s.settleMove m).currentHandle h)) = w
  have handles : w.handles = (s.settleMove m).handles := by rw [← seen]; exact State.watchTest_handles ..
  have pool : w.pool = (s.settleMove m).pool := by rw [← seen]; exact State.watchTest_pool ..
  have port : w.port = s.port := by rw [← seen]; exact State.watchTest_port ..
  have quiet : (w.applyProfileChange h c).afterAbandon = w.applyProfileChange h c := by
    refine State.afterAbandon_settled flight ?_
    rw [State.applyProfileChange_eq, State.queueFeeds_pool]
    exact congrArg Pool.move pool
  have cursor : (w.applyProfileChange h c).endWait.currentHandle h = (s.settleMove m).currentHandle h := by
    have ended : (w.applyProfileChange h c).endWait.currentHandle h = (w.applyProfileChange h c).currentHandle h := by
      rw [State.currentHandle, State.handle, State.endWait_handles]
      rfl
    rw [ended, State.currentHandle_applyProfileChange, State.currentHandle, State.handle, handles]
    rfl
  have kept : (w.applyProfileChange h c).endWait.port = s.port := by
    rw [State.endWait_port, State.applyProfileChange_port, port]
  rw [State.setTaken, seen, quiet, State.setCursor, cursor, kept]

variable (flight : s.pool.move = some m)
  (waiting : s.port.inProgress = some ⟨tag, .waiting (.set ⟨n :: rest, named, field, v, done⟩)⟩)
  (still : (s.settleMove m).setWaits field n ((s.settleMove m).namedGen named n) = false)

include flight waiting still

/-- A SET that waited and is refused at its first record (R160). -/
theorem exec_deferredEdit_setRefused {t : State} {st : Status} (port : t.port = s.port)
    (one : (s.settleMove m).setOneProfile n ((s.settleMove m).namedGen named n) field v = (t, .error st)) :
    exec .deferredEdit s = .next ({ t with
      port := s.portReplied tag st (byte1 done ++ (profileRef n ((s.settleMove m).namedGen named n)).bytes) } :
        State).endMove := by
  obtain ⟨-, ends⟩ := exec_moveComplete_waiting flight waiting
  rw [ends (State.setProfilesLoop_error still one rest done), State.placeEditReply_answered port]

/-- A SET that waited goes on with its next records once the first is taken (R160). -/
theorem exec_deferredEdit_setTaken
    (ok : (s.settleMove m).testSetProfile n ((s.settleMove m).namedGen named n) field v = .ok (h, c))
    (pass : (s.settleMove m).stops .portChange (.profile ((s.settleMove m).currentHandle h)) = false) :
    exec .deferredEdit s = .next ((setProfilesLoop field v rest none (done + 1) (s.setTaken m h c)).1.placeEditReply tag
      (setProfilesLoop field v rest none (done + 1) (s.setTaken m h c)).2).endMove := by
  obtain ⟨-, ends⟩ := exec_moveComplete_waiting flight waiting
  rw [← State.setTaken_eq flight]
  exact ends (State.setProfilesLoop_ok still (State.setOneProfile_taken ok pass) rest done)

end

/-- Settles O33: the settled state is the one that the edit is tested against, and the end of the move comes after the
edit in every case. -/
theorem moveCompletes : Obligations.MoveCompletes := by
  unfold Obligations.MoveCompletes
  refine ⟨fun s m flight none => ?_, fun s m tag i flight waiting => ?_,
    fun s m tag field v n rest named done flight waiting => ?_, fun s m tag i flight waiting => ?_⟩
  · intro u
    rw [exec_moveComplete_quiet flight none]
    exact ⟨fun idle => congrArg _ (State.endMove_of_none (s := s.settleMove m) idle),
      fun e h chosen running => congrArg _ (State.endMove_of_running (s := s.settleMove m) chosen running),
      fun e h chosen stopping => congrArg _ (State.endMove_of_stopping (s := s.settleMove m) chosen stopping)⟩
  · exact exec_deferredEdit_change flight waiting
      (record := fun p : BasePlan => .profile ((s.settleMove m).currentHandle p.handle))
      (effect := fun p v => v.applyBase p) rfl fun p v => v.applyBase_port p
  · intro u gen still refused
    refine ⟨(exec_moveComplete_waiting flight waiting).1, fun st bad => ?_, fun h c ok => ⟨fun stop => ?_, fun pass => ?_⟩⟩
    · exact exec_deferredEdit_setRefused flight waiting still rfl (State.setOneProfile_error bad)
    · exact exec_deferredEdit_setRefused flight waiting still (State.watchTest_port ..)
        (State.setOneProfile_stopped ok stop)
    · intro taken
      have run := exec_deferredEdit_setTaken flight waiting still ok pass
      refine ⟨fun last => ?_, fun _ => run⟩
      rw [last] at run
      exact run
  · obtain ⟨same, bad, ok⟩ := exec_deferredEdit_change flight waiting
      (record := fun p : EditPlan => .profile ((s.settleMove m).currentHandle p.handle))
      (effect := fun p v => v.applyEditSections i.sections p) rfl fun p v => v.applyEditSections_port i.sections p
    refine ⟨same, bad, fun p tested => ⟨fun pass => ?_, (ok p tested).2⟩⟩
    have quiet := State.afterAbandon_settled flight (t := ((s.settleMove m).observed (.profile
      ((s.settleMove m).currentHandle p.handle))).applyEditSections i.sections p) (by
        simp [State.applyEditSections, State.observed])
    have run := (ok p tested).1 pass
    rw [quiet] at run
    exact run

end Sys2Proof.Machine
end

section
/-! ### The state right after reset (R2, R11, R31, R33, R51, R75, R83, R100, R107, R117, R133, R149) -/

namespace Sys2Proof.Machine

namespace State

theorem renderOf_reset (f : FeedNo) : State.reset.renderOf f = FeedRender.reset := Table.get_fill _ f

theorem sector_reset (n : SectorNo) : State.reset.sector n = Sector.reset := Table.get_fill _ n

theorem channel_reset (k : ChannelNo) : State.reset.channel k = Channel.reset k := Table.get_tab _ k

/-- No feed of the block in reset leads another. -/
theorem crossSectorLead_reset (f : FeedNo) : State.reset.crossSectorLead f = none := by
  rw [crossSectorLead, feed_reset]
  rfl

theorem heldImageValid_reset : State.reset.heldImageValid := nofun

end State

theorem portSound_reset : PortSound State.reset := ⟨rfl, rfl, rfl⟩

theorem renderSound_reset : RenderSound State.reset := fun f => by
  rw [State.renderOf_reset]
  exact ⟨nofun, fun _ => rfl⟩

theorem climateSound_reset : ClimateSound State.reset := by
  refine ⟨fun k => ?_, fun n => ?_, nofun⟩
  · rw [State.channel_reset]
    exact ⟨Nat.zero_le 8, nofun, rfl⟩
  · rw [State.sector_reset]
    unfold Sector.sound
    decide

theorem dependenciesSound_reset : DependenciesSound State.reset := by
  have empty : State.reset.deps.count = 0 := by
    rw [Dependencies.count, List.length_eq_zero_iff, List.filter_eq_nil_iff]
    intro f _
    simp [State.reset, Dependencies.reset]
  rw [DependenciesSound, empty]
  exact Nat.zero_le _

theorem dependenciesMatch_reset : DependenciesMatch State.reset := by
  intro f n
  have none : State.reset.deps.entries.get f = none := Table.get_fill _ f
  rw [none, State.crossSectorLead_reset]
  exact ⟨nofun, nofun⟩

theorem faultsSound_reset : FaultsSound State.reset := fun f => by
  rw [State.feed_reset]
  exact ⟨nofun, nofun⟩

theorem chainsSound_reset : ChainsSound State.reset := by
  refine ⟨fun f => ?_, State.heldImageValid_reset⟩
  have none : State.reset.leadOf f = none := by rw [State.leadOf, State.feed_reset]; rfl
  rw [chainAbove, none]
  exact Nat.zero_le 4

/-- Settles O54: in reset the pool is one free extent, and no record names another. -/
theorem resetIsSound : Obligations.ResetIsSound := by
  unfold Obligations.ResetIsSound
  exact ⟨poolKept_iff.mp (.of_coldStart rfl rfl rfl), .of_coldStart rfl rfl rfl, portSound_reset, renderSound_reset,
    climateSound_reset, List.nodup_nil, dependenciesSound_reset, rfl, faultsSound_reset, dependenciesMatch_reset,
    chainsSound_reset⟩

end Sys2Proof.Machine
end

section
/-! ### Tables after several changes, one after another -/

namespace Sys2Proof.Table

variable {α : Type} {n : Nat}

/-- The table after the changes `l` in order: each writes one record. -/
def updAll (t : Table α n) (l : List (Fin n × α)) : Table α n := l.foldl (fun t p => t.upd p.1 p.2) t

theorem get_updAll_of_notMem (t : Table α n) {l : List (Fin n × α)} {i : Fin n} (apart : i ∉ l.map Prod.fst) :
    (t.updAll l).get i = t.get i := by
  induction l generalizing t with
  | nil => rfl
  | cons p l ih =>
    rw [List.map_cons, List.mem_cons, not_or] at apart
    exact (ih (t.upd p.1 p.2) apart.2).trans (get_upd_other t p.2 apart.1)

/-- A record whose changes all write one value holds that value. -/
theorem get_updAll_of_agree (t : Table α n) {l : List (Fin n × α)} {i : Fin n} {x : α} (mem : i ∈ l.map Prod.fst)
    (agree : ∀ p ∈ l, p.1 = i → p.2 = x) : (t.updAll l).get i = x := by
  induction l generalizing t with
  | nil => simp at mem
  | cons p l ih =>
    by_cases later : i ∈ l.map Prod.fst
    · exact ih (t.upd p.1 p.2) later fun q hq => agree q (List.mem_cons_of_mem p hq)
    · have here : i = p.1 := by simpa [later] using mem
      calc ((t.upd p.1 p.2).updAll l).get i = (t.upd p.1 p.2).get i := get_updAll_of_notMem _ later
        _ = p.2 := by rw [here, get_upd_same]
        _ = x := agree p List.mem_cons_self here.symm

/-- With each record changed at most once, each change stands. -/
theorem get_updAll_of_mem (t : Table α n) {l : List (Fin n × α)} {i : Fin n} {x : α} (nodup : (l.map Prod.fst).Nodup)
    (mem : (i, x) ∈ l) : (t.updAll l).get i = x :=
  get_updAll_of_agree t (List.mem_map_of_mem mem) fun _ hp key =>
    congrArg Prod.snd (List.inj_on_of_nodup_map nodup hp mem key)

end Sys2Proof.Table
end

section
/-! ### The Dependency Pool after several records (R75, R76, R77) -/

namespace Sys2Proof.Machine

namespace Dependencies

variable {d : Dependencies} {l : List (FeedNo × SectorNo)}

/-- The pool after the followers `l`, each with its lead's sector, are recorded in order. -/
def recordAll (d : Dependencies) (l : List (FeedNo × SectorNo)) : Dependencies :=
  l.foldl (fun d fn => d.record fn.2 fn.1) d

/-- The entries that the followers `l` are given. -/
def entriesOf (l : List (FeedNo × SectorNo)) : List (FeedNo × Option SectorNo) := l.map fun p => (p.1, some p.2)

/-- The overflow marks of the lead sectors in `l`. -/
def marksOf (l : List (FeedNo × SectorNo)) : List (SectorNo × Bool) := l.map fun p => (p.2, true)

theorem keys_entriesOf (l : List (FeedNo × SectorNo)) : (entriesOf l).map Prod.fst = l.map Prod.fst := by
  rw [entriesOf, List.map_map]
  rfl

theorem record_of_room (room : d.count < 48) (n : SectorNo) (f : FeedNo) :
    d.record n f = { d with entries := d.entries.upd f (some n) } := if_pos room

theorem record_of_full (full : 48 ≤ d.count) (n : SectorNo) (f : FeedNo) : d.record n f = d.mark n :=
  if_neg (Nat.not_lt.mpr full)

theorem count_reset : reset.count = 0 := by
  rw [count, List.length_eq_zero_iff, List.filter_eq_nil_iff]
  intro f _
  simp [reset]

/-- A new entry is one more. -/
theorem count_upd_some {f : FeedNo} (new : d.entries.get f = none) (n : SectorNo) :
    ({ d with entries := d.entries.upd f (some n) } : Dependencies).count = d.count + 1 := by
  have differ := length_filter_of_differ (List.nodup_finRange 96) (List.mem_finRange f)
    (p := fun g => ((d.entries.upd f (some n)).get g).isSome) (q := fun g => (d.entries.get g).isSome)
    fun g other => by rw [Table.get_upd_other _ _ other]
  simpa [new, count, allFeeds] using differ

/-- Where all of them have room, each follower new to the pool gets an entry. -/
theorem recordAll_of_room (nodup : (l.map Prod.fst).Nodup) (new : ∀ f ∈ l.map Prod.fst, d.entries.get f = none)
    (room : d.count + l.length ≤ 48) :
    d.recordAll l = { d with entries := d.entries.updAll (entriesOf l) } ∧
      (d.recordAll l).count = d.count + l.length := by
  induction l generalizing d with
  | nil => exact ⟨rfl, rfl⟩
  | cons p l ih =>
    rw [List.map_cons, List.nodup_cons] at nodup
    rw [List.length_cons] at room
    have first : d.record p.2 p.1 = { d with entries := d.entries.upd p.1 (some p.2) } :=
      record_of_room (by omega) p.2 p.1
    have one := count_upd_some (new p.1 List.mem_cons_self) p.2
    have rest := ih (d := { d with entries := d.entries.upd p.1 (some p.2) }) nodup.2
      (fun f hf => by
        have other : f ≠ p.1 := fun same => nodup.1 (same ▸ hf)
        rw [Table.get_upd_other _ _ other]
        exact new f (List.mem_cons_of_mem _ hf))
      (by omega)
    have split : d.recordAll (p :: l) =
        ({ d with entries := d.entries.upd p.1 (some p.2) } : Dependencies).recordAll l := by rw [← first]; rfl
    rw [split, rest.2, one, List.length_cons]
    exact ⟨rest.1, by omega⟩

/-- A full pool marks the lead sectors and keeps its entries. -/
theorem recordAll_of_full (full : 48 ≤ d.count) (l : List (FeedNo × SectorNo)) :
    d.recordAll l = { d with overflow := d.overflow.updAll (marksOf l) } := by
  induction l generalizing d with
  | nil => rfl
  | cons p l ih =>
    have split : d.recordAll (p :: l) = (d.mark p.2).recordAll l := by rw [← record_of_full full p.2 p.1]; rfl
    rw [split, ih (d := d.mark p.2) full]
    rfl

/-- The pool after a rebuild from the followers `l`: the first 48 have entries, the sectors of the others are marked. -/
theorem recordAll_reset (nodup : (l.map Prod.fst).Nodup) : reset.recordAll l =
      ⟨reset.entries.updAll (entriesOf (l.take 48)), reset.overflow.updAll (marksOf (l.drop 48))⟩ ∧
    (reset.recordAll l).count = min l.length 48 := by
  have split : reset.recordAll l = (reset.recordAll (l.take 48)).recordAll (l.drop 48) := by
    conv_lhs => rw [← List.take_append_drop 48 l]
    exact List.foldl_append
  obtain ⟨recorded, count⟩ := recordAll_of_room (d := reset) (l := l.take 48)
    (nodup.sublist ((List.take_sublist 48 l).map Prod.fst)) (fun f _ => Table.get_fill none f)
    (by rw [count_reset, List.length_take]; omega)
  rw [count_reset, List.length_take, Nat.zero_add] at count
  rw [split]
  by_cases fits : l.length ≤ 48
  · rw [List.drop_eq_nil_of_le fits]
    exact ⟨recorded, by rw [Nat.min_comm, ← count]; rfl⟩
  · have full : (reset.recordAll (l.take 48)).count = 48 := by omega
    rw [recordAll_of_full full.ge, recorded]
    refine ⟨rfl, ?_⟩
    calc _ = (reset.recordAll (l.take 48)).count := by rw [recorded]; rfl
      _ = min l.length 48 := by omega

theorem get_updAll_of_mem_entriesOf {l : List (FeedNo × SectorNo)} {p : FeedNo × SectorNo}
    (nodup : (l.map Prod.fst).Nodup) (mem : p ∈ l) : (reset.entries.updAll (entriesOf l)).get p.1 = some p.2 :=
  Table.get_updAll_of_mem reset.entries (keys_entriesOf l ▸ nodup)
    (List.mem_map_of_mem (f := fun p : FeedNo × SectorNo => (p.1, some p.2)) mem)

theorem get_updAll_entriesOf {l : List (FeedNo × SectorNo)} (nodup : (l.map Prod.fst).Nodup) (f : FeedNo) (n : SectorNo) :
    (reset.entries.updAll (entriesOf l)).get f = some n ↔ (f, n) ∈ l := by
  have keys := keys_entriesOf l
  constructor
  · intro entry
    by_cases mem : f ∈ l.map Prod.fst
    · obtain ⟨p, here, rfl⟩ := List.mem_map.mp mem
      have stands := (get_updAll_of_mem_entriesOf nodup here).symm.trans entry
      exact Option.some.inj stands ▸ here
    · rw [Table.get_updAll_of_notMem _ (keys ▸ mem)] at entry
      exact absurd entry (by simp [reset])
  · exact get_updAll_of_mem_entriesOf nodup

theorem get_updAll_marksOf (l : List (FeedNo × SectorNo)) (n : SectorNo) :
    (reset.overflow.updAll (marksOf l)).get n = true ↔ ∃ f, (f, n) ∈ l := by
  have keys : n ∈ (marksOf l).map Prod.fst ↔ ∃ f, (f, n) ∈ l := by simp [marksOf]
  rw [← keys]
  by_cases mem : n ∈ (marksOf l).map Prod.fst
  · have marked := Table.get_updAll_of_agree reset.overflow (x := true) mem fun p hp _ => by
      obtain ⟨_, _, rfl⟩ := List.mem_map.mp hp
      rfl
    exact iff_of_true marked mem
  · rw [Table.get_updAll_of_notMem _ mem]
    exact iff_of_false (by simp [reset]) mem

end Dependencies

end Sys2Proof.Machine
end

section
/-! ### The cross-sector followers, and the pool rebuilt from them (R75, R82) -/

namespace Sys2Proof.Machine

namespace State

variable {s : State}

theorem crossSectorLead_eq_some_iff {f : FeedNo} {n : SectorNo} : s.crossSectorLead f = some n ↔
    ∃ l, (s.feed f).lead = some l ∧ (s.feed l).sector = n ∧ (s.feed l).sector ≠ (s.feed f).sector := by
  unfold crossSectorLead
  cases (s.feed f).lead with
  | none => simp
  | some l => by_cases same : (s.feed l).sector = (s.feed f).sector <;> simp [same]

theorem mem_crossSectorFollowers_iff {f : FeedNo} {n : SectorNo} :
    (f, n) ∈ s.crossSectorFollowers ↔ s.crossSectorLead f = some n := by
  simp [crossSectorFollowers, allFeeds]

theorem crossSectorFollowers_pairwise (s : State) : (s.crossSectorFollowers.map Prod.fst).Pairwise (· < ·) := by
  rw [List.pairwise_map, crossSectorFollowers, List.pairwise_filterMap]
  refine (List.pairwise_lt_finRange 96).imp fun {f g} lt p hp q hq => ?_
  obtain ⟨_, _, rfl⟩ := Option.map_eq_some_iff.mp hp
  obtain ⟨_, _, rfl⟩ := Option.map_eq_some_iff.mp hq
  exact lt

theorem crossSectorFollowers_nodup (s : State) : (s.crossSectorFollowers.map Prod.fst).Nodup :=
  (crossSectorFollowers_pairwise s).imp Fin.ne_of_lt

theorem rebuiltDependencies_eq (s : State) : s.rebuiltDependencies =
    ⟨Dependencies.reset.entries.updAll (Dependencies.entriesOf (s.crossSectorFollowers.take 48)),
      Dependencies.reset.overflow.updAll (Dependencies.marksOf (s.crossSectorFollowers.drop 48))⟩ :=
  (Dependencies.recordAll_reset s.crossSectorFollowers_nodup).1

theorem count_rebuiltDependencies (s : State) :
    s.rebuiltDependencies.count = min s.crossSectorFollowers.length 48 :=
  (Dependencies.recordAll_reset s.crossSectorFollowers_nodup).2

theorem rebuiltDependencies_entries (s : State) (f : FeedNo) (n : SectorNo) :
    s.rebuiltDependencies.entries.get f = some n ↔ (f, n) ∈ s.crossSectorFollowers.take 48 := by
  rw [rebuiltDependencies_eq]
  exact Dependencies.get_updAll_entriesOf
    (s.crossSectorFollowers_nodup.sublist ((List.take_sublist 48 _).map Prod.fst)) f n

theorem rebuiltDependencies_overflow (s : State) (n : SectorNo) :
    s.rebuiltDependencies.overflow.get n = true ↔ ∃ f, (f, n) ∈ s.crossSectorFollowers.drop 48 := by
  rw [rebuiltDependencies_eq]
  exact Dependencies.get_updAll_marksOf _ n

/-- The notices after a rebuild: DEPENDENCY-OVERFLOW names the first follower left out (R82). -/
def rebuildNotices (s : State) : Notices :=
  match s.crossSectorFollowers[48]? with
  | some (_, n) => s.notices.raise (.dependencyOverflow n)
  | none => s.notices

theorem rebuildDependencies_eq (s : State) :
    s.rebuildDependencies = { s with deps := s.rebuiltDependencies, notices := s.rebuildNotices } := by
  unfold rebuildDependencies firstUnrecorded rebuildNotices Config.dependencyCapacity
  cases s.crossSectorFollowers[48]? <;> rfl

theorem rebuildBody_rebuildDependencies (s : State) : s.rebuildDependencies.rebuildBody =
    byte1 s.crossSectorFollowers.length ++ byte1 (min s.crossSectorFollowers.length 48) ++
      bytes2 (sectorSetOf s.rebuiltDependencies.overflow.get) := by
  rw [rebuildDependencies_eq, ← count_rebuiltDependencies]
  rfl

theorem loading_iff : s.loading = true ↔ ∃ phase, s.image = .loading phase := by
  unfold loading
  cases s.image <;> simp

end State

variable {s u : State} {tag : Byte} {a : Answer}

theorem exec_rebuildDependencies_answer (ready : s.ready) (run : s.released.requestRebuild = (u, a)) :
    exec (.rebuildDependencies ⟨tag, some ()⟩) s = .next (u.answered tag a.status a.body) :=
  congrArg Host.Outcome.next <| serveNow_answer (r := ⟨tag, some ()⟩) (formed := anyItems)
    (run := fun _ s => s.requestRebuild) ready rfl rfl run

theorem exec_rebuildDependencies_loading (ready : s.ready) (loading : s.loading = true) :
    exec (.rebuildDependencies ⟨tag, some ()⟩) s = .next (s.released.answered tag .loading []) :=
  exec_rebuildDependencies_answer ready (if_pos loading)

theorem exec_rebuildDependencies_made (ready : s.ready) (idle : ¬ s.loading = true) :
    exec (.rebuildDependencies ⟨tag, some ()⟩) s = .next { s with
      deps := s.rebuiltDependencies
      notices := s.rebuildNotices
      port := s.portAnswered tag .ok
        (byte1 s.crossSectorFollowers.length ++ byte1 (min s.crossSectorFollowers.length 48) ++
          bytes2 (sectorSetOf s.rebuiltDependencies.overflow.get)) } := by
  have run : s.released.requestRebuild =
      (s.released.rebuildDependencies, okBody s.released.rebuildDependencies.rebuildBody) := if_neg idle
  rw [State.rebuildBody_rebuildDependencies, State.rebuildDependencies_eq] at run
  exact exec_rebuildDependencies_answer ready run

/-- Settles O35: recording in feed order gives entries while the pool has room and marks from then on. -/
theorem rebuildRecordsFirst48 : Obligations.RebuildRecordsFirst48 := by
  unfold Obligations.RebuildRecordsFirst48
  intro s tag ready
  refine ⟨fun phase image => exec_rebuildDependencies_loading ready (State.loading_iff.mpr ⟨phase, image⟩),
    fun idle => ⟨_, exec_rebuildDependencies_made ready fun loading => ?_, fun f n => ?_, ?_, ?_, ?_, ?_, rfl⟩⟩
  · obtain ⟨phase, image⟩ := State.loading_iff.mp loading
    exact idle phase image
  · exact State.mem_crossSectorFollowers_iff.trans State.crossSectorLead_eq_some_iff
  · exact State.crossSectorFollowers_pairwise s
  · exact State.rebuiltDependencies_entries s
  · exact State.rebuiltDependencies_overflow s
  · rfl

end Sys2Proof.Machine
end

section
/-! ### POLICY SET and CROSS-STAND SET (R67, R70, R74, R171) -/

namespace Sys2Proof.Machine

/-- The two tiers of a change. -/
def changeTiers (c : PolicyChange) : Tier × Tier := (c.referrer, c.referred)

theorem tierCode_lt (a : Tier) : a.code < 4 := by cases a <;> decide

theorem all_getElem_tierCode (a : Tier) : Tier.all[a.code]? = some a := by cases a <;> rfl

theorem tierCode_injective : Function.Injective Tier.code := fun a b same =>
  Option.some.inj <| by rw [← all_getElem_tierCode a, ← all_getElem_tierCode b, same]

/-- Each pair of tiers has a place of its own in the policy table (R67). -/
theorem policyIx_injective : Function.Injective fun p : Tier × Tier => policyIx p.1 p.2 := by
  rintro ⟨a, b⟩ ⟨c, d⟩ same
  have place : 4 * a.code + b.code = 4 * c.code + d.code := congrArg Fin.val same
  have := tierCode_lt b
  have := tierCode_lt d
  rw [tierCode_injective (show a.code = c.code by omega), tierCode_injective (show b.code = d.code by omega)]

theorem pairsDistinct_iff {cs : List PolicyChange} : pairsDistinct cs = true ↔ (cs.map changeTiers).Nodup := by
  rw [pairsDistinct, decide_eq_true_iff, show changePair = (fun p => policyIx p.1 p.2) ∘ changeTiers from rfl,
    ← List.map_map, List.nodup_map_iff policyIx_injective]

/-- What the changes write in the policy table. -/
def policyEntries (cs : List PolicyChange) : List (Fin 16 × PolicyOutcome) :=
  cs.map fun c => (changePair c, c.outcome)

theorem foldl_storeChange (t : Table PolicyOutcome 16) (cs : List PolicyChange) :
    cs.foldl storeChange t = t.updAll (policyEntries cs) :=
  (List.foldl_map (f := fun c => (changePair c, c.outcome)) (g := fun t p => Table.upd t p.1 p.2)).symm

namespace State

variable {s : State} {cs : List PolicyChange}

theorem endWait_eq_of_image {t : State} (image : t.image = s.image) :
    t.endWait = { t with image := s.endWait.image } := by
  rw [endWait_frame, endWait_image_congr image]

/-- The block with the policy changes stored, its start-up wait ended (R70, R171). -/
def withPolicyChanges (s : State) (cs : List PolicyChange) : State :=
  ({ s with policy := s.policy.updAll (policyEntries cs) }).endWait

theorem withPolicyChanges_eq (s : State) (cs : List PolicyChange) : s.withPolicyChanges cs =
    { s with policy := s.policy.updAll (policyEntries cs), image := s.endWait.image } :=
  endWait_eq_of_image rfl

theorem policyFor_named (distinct : pairsDistinct cs = true) {c : PolicyChange} (mem : c ∈ cs) :
    (s.withPolicyChanges cs).policyFor c.referrer c.referred = c.outcome := by
  have nodup : ((policyEntries cs).map Prod.fst).Nodup := by
    rw [policyEntries, List.map_map]
    exact decide_eq_true_iff.mp distinct
  rw [withPolicyChanges_eq]
  exact Table.get_updAll_of_mem s.policy nodup (List.mem_map_of_mem (f := fun c => (changePair c, c.outcome)) mem)

theorem policyFor_unnamed {a b : Tier} (apart : ∀ c ∈ cs, ¬ (c.referrer = a ∧ c.referred = b)) :
    (s.withPolicyChanges cs).policyFor a b = s.policyFor a b := by
  rw [withPolicyChanges_eq]
  refine Table.get_updAll_of_notMem s.policy fun mem => ?_
  rw [policyEntries, List.map_map] at mem
  obtain ⟨c, hc, same⟩ := List.mem_map.mp mem
  have pair : (c.referrer, c.referred) = (a, b) := policyIx_injective same
  exact apart c hc (Prod.mk.inj pair)

/-! #### The answers to POLICY SET and CROSS-STAND SET -/

theorem requestPolicySet_twice (empty : cs ≠ []) (twice : ¬ pairsDistinct cs = true) :
    s.requestPolicySet cs = (s, refusal .badValue) := by
  simp [requestPolicySet, empty, twice]

theorem requestPolicySet_refused (empty : cs ≠ []) (distinct : pairsDistinct cs = true) {st : Status}
    (long : s.longOperation = some st) : s.requestPolicySet cs = (s, refusal st) := by
  simp [requestPolicySet, empty, distinct, long]

theorem requestPolicySet_taken (empty : cs ≠ []) (distinct : pairsDistinct cs = true) (long : s.longOperation = none) :
    s.requestPolicySet cs = (s.withPolicyChanges cs, okBody (s.withPolicyChanges cs).policyBytes) := by
  simp [requestPolicySet, empty, distinct, long, withPolicyChanges, foldl_storeChange]

theorem requestCrossStandSet_refused (v : PolicyOutcome) {st : Status} (long : s.longOperation = some st) :
    s.requestCrossStandSet (some v) = (s, refusal st) := by
  simp [requestCrossStandSet, long]

theorem requestCrossStandSet_taken (v : PolicyOutcome) (long : s.longOperation = none) :
    s.requestCrossStandSet (some v) =
      ({ s with crossStand := v, image := s.endWait.image }, okBody (byte1 v.code)) := by
  simp only [requestCrossStandSet, long]
  rw [endWait_eq_of_image (s := s) (t := { s with crossStand := v }) rfl]

end State

variable {s u : State} {tag : Byte} {a : Answer}

theorem exec_policySet_answer {cs : List PolicyChange} (ready : s.ready) (few : cs.length ≤ 16)
    (run : s.released.requestPolicySet cs = (u, a)) :
    exec (.policySet ⟨tag, some cs⟩) s = .next (u.answered tag a.status a.body) :=
  congrArg Host.Outcome.next <| serveNow_answer (r := ⟨tag, some cs⟩) ready rfl (decide_eq_true few) run

theorem exec_policySet_many {cs : List PolicyChange} (ready : s.ready) (many : 16 < cs.length) :
    exec (.policySet ⟨tag, some cs⟩) s = .next (s.released.answered tag .badValue []) :=
  congrArg Host.Outcome.next <|
    serve_unformed ⟨tag, some cs⟩ _ _ s ready rfl (decide_eq_false (Nat.not_le.mpr many))

theorem exec_crossStandSet_answer {v : Option PolicyOutcome} (ready : s.ready)
    (run : s.released.requestCrossStandSet v = (u, a)) :
    exec (.crossStandSet ⟨tag, some v⟩) s = .next (u.answered tag a.status a.body) :=
  congrArg Host.Outcome.next <| serveNow_answer (r := ⟨tag, some v⟩) (formed := anyItems) ready rfl rfl run

theorem exec_policySet_badValue {cs : List PolicyChange} (ready : s.ready)
    (bad : 16 < cs.length ∨ ¬ (cs.map changeTiers).Nodup) :
    exec (.policySet ⟨tag, some cs⟩) s = .next (s.released.answered tag .badValue []) := by
  by_cases few : cs.length ≤ 16
  · have twice := bad.resolve_left (Nat.not_lt.mpr few)
    have empty : cs ≠ [] := by
      rintro rfl
      exact twice List.nodup_nil
    exact exec_policySet_answer ready few (State.requestPolicySet_twice empty (mt pairsDistinct_iff.mp twice))
  · exact exec_policySet_many ready (Nat.not_le.mp few)

/-- The block after a POLICY SET that is taken: the table, the reply and the end of a start-up wait (R70, R171). -/
theorem exec_policySet_taken {cs : List PolicyChange} (ready : s.ready) (empty : cs ≠ []) (few : cs.length ≤ 16)
    (distinct : pairsDistinct cs = true) (long : s.longOperation = none) :
    exec (.policySet ⟨tag, some cs⟩) s = .next { s with
      policy := s.policy.updAll (policyEntries cs)
      port := s.portAnswered tag .ok (s.withPolicyChanges cs).policyBytes
      image := s.endWait.image } := by
  have run := State.requestPolicySet_taken (s := s.released) empty distinct long
  rw [State.withPolicyChanges_eq] at run
  rw [exec_policySet_answer ready few run, State.withPolicyChanges_eq]
  rw [show s.released.endWait.image = s.endWait.image from State.endWait_image_congr rfl]
  rfl

/-- Settles O34: distinct pairs of tiers are distinct places of the table, so each change stands. -/
theorem policyAndCrossStandSet : Obligations.PolicyAndCrossStandSet := by
  unfold Obligations.PolicyAndCrossStandSet
  intro s tag ready
  refine ⟨fun cs => ⟨?_, exec_policySet_badValue ready, fun empty few nodup => ⟨fun st long => ?_, fun long => ?_⟩⟩,
    ?_, fun v => ⟨fun st long => ?_, fun long => ?_⟩⟩
  · rintro rfl
    exact exec_policySet_answer (cs := []) ready (Nat.zero_le 16) rfl
  · exact exec_policySet_answer ready few
      (State.requestPolicySet_refused (s := s.released) empty (pairsDistinct_iff.mpr nodup) long)
  · have distinct := pairsDistinct_iff.mpr nodup
    have table : (s.withPolicyChanges cs).policy = s.policy.updAll (policyEntries cs) := by
      rw [State.withPolicyChanges_eq]
    refine ⟨_, exec_policySet_taken ready empty few distinct long, fun c mem => ?_, fun a b apart => ?_, ?_⟩
    · rw [← State.policyFor_named (s := s) distinct mem, State.withPolicyChanges_eq]
      rfl
    · rw [← State.policyFor_unnamed (s := s) apart, State.withPolicyChanges_eq]
      rfl
    · rw [State.withPolicyChanges_eq]
      rfl
  · exact exec_crossStandSet_answer ready rfl
  · exact exec_crossStandSet_answer ready (State.requestCrossStandSet_refused (s := s.released) v long)
  · rw [exec_crossStandSet_answer ready (State.requestCrossStandSet_taken (s := s.released) v long),
      show s.released.endWait.image = s.endWait.image from State.endWait_image_congr rfl]
    rfl

end Sys2Proof.Machine
end

section
/-! ### Queuing a feed (R83, R84, R85, R86, R92) -/

namespace Sys2Proof.Machine

theorem length_le_of_nodup_feeds {q : List FeedNo} (nodup : q.Nodup) : q.length ≤ 96 := by
  simpa using nodup.length_le_card

namespace State

variable {s : State} {f : FeedNo}

theorem queueFeed_resolver_of_mem (queued : f ∈ s.resolver.queue) : (s.queueFeed f).resolver = s.resolver := by
  simp [queueFeed, appendOnce, queued]

theorem queueFeed_resolver_of_notMem (fresh : f ∉ s.resolver.queue) :
    (s.queueFeed f).resolver = ⟨s.resolver.queue ++ [f], s.resolver.inFlight⟩ := by
  simp [queueFeed, appendOnce, fresh]

theorem mem_queue_queueFeed (s : State) (f : FeedNo) : f ∈ (s.queueFeed f).resolver.queue :=
  (mem_appendOnce s.resolver.queue f f).mpr (.inr rfl)

theorem feedsReaching_pairwise (s : State) (h : HandleIx) : (s.feedsReaching h).Pairwise (· < ·) :=
  (List.pairwise_lt_finRange 96).filter _

end State

section

variable {s : State} {f : FeedNo}

/-- RESOLUTION_START (R86). -/
theorem exec_resolutionStart {rest : List FeedNo} (head : s.resolver = ⟨f :: rest, none⟩) :
    exec .resolutionStart s = .next { s with resolver := ⟨rest, some ⟨f, (s.feed f).revision⟩⟩ } := by
  show execResolutionStart s = _
  rw [execResolutionStart, head]

theorem exec_resolutionComplete {x : InFlight} (flight : s.resolver.inFlight = some x) :
    exec .resolutionComplete s =
      .next (if s.stale x then s.clearInFlight else s.clearInFlight.concludeResolution x.feed) := by
  show execResolutionComplete s = _
  rw [execResolutionComplete, flight]

theorem State.stale_iff {noted : BitVec 8} :
    s.stale ⟨f, noted⟩ = true ↔ (s.feed f).revision ≠ noted ∨ f ∈ s.resolver.queue := by
  simp [State.stale]

/-- A feed queued since its resolution started (R92). -/
theorem exec_resolutionComplete_stale {noted : BitVec 8} (flight : s.resolver.inFlight = some ⟨f, noted⟩)
    (stale : (s.feed f).revision ≠ noted ∨ f ∈ s.resolver.queue) :
    exec .resolutionComplete s = .next { s with resolver := ⟨s.resolver.queue, none⟩ } := by
  rw [exec_resolutionComplete flight, if_pos (State.stale_iff.mpr stale)]
  rfl

end

/-- Settles O36: the queue holds a feed after its queuing, so a start that came before is stale and one that comes after
notes the new revision. -/
theorem queueingAFeed : Obligations.QueueingAFeed := by
  unfold Obligations.QueueingAFeed
  refine ⟨fun s n h => ⟨rfl, rfl, s.feedsReaching_pairwise h, fun f fs => ⟨rfl, rfl⟩⟩, fun s f => ?_⟩
  intro t
  refine ⟨s.feed_queueFeed f, fun last => ?_, fun g other => s.feed_queueFeed_other other,
    State.queueFeed_resolver_of_mem, State.queueFeed_resolver_of_notMem, rfl, fun nodup => ?_, fun noted flight => ?_,
    fun rest head fresh => ⟨?_, _, exec_resolutionStart head, ?_⟩⟩
  · rw [s.feed_queueFeed f, last]
    rfl
  · have kept := State.queueFeed_nodup nodup f
    exact ⟨kept, length_le_of_nodup_feeds kept⟩
  · exact exec_resolutionComplete_stale (noted := noted) flight (.inr (s.mem_queue_queueFeed f))
  · have queued : f ∈ s.resolver.queue := by rw [head]; exact List.mem_cons_self
    exact exec_resolutionStart ((State.queueFeed_resolver_of_mem queued).trans head)
  · exact State.queueFeed_resolver_of_notMem fresh

end Sys2Proof.Machine
end

section
/-! ### What a resolution computes (R22, R23, R29, R88, R89, R90) -/

namespace Sys2Proof.Machine

/-- A profile with its base, when it has one, field by field (R29). -/
theorem composeWith_eq (p : ProfileRecord) (base : Option ProfileRecord) : composeWith p base =
    { sections := (base.map ProfileRecord.sections).getD [] ++ p.sections
      latencyTrim := (p.latencyTrim.or (base.bind ProfileRecord.latencyTrim)).getD 0
      gain := clampInt (-600) 120 (p.gainTrim + (base.map ProfileRecord.gainTrim).getD 0)
      polarity := p.polarity } := by
  cases base <;> simp [composeWith]

theorem delayInRange_iff (d : Int) : delayInRange d = true ↔ 0 ≤ d ∧ d ≤ 921600 := by
  rw [delayInRange, Bool.and_eq_true, decide_eq_true_iff, decide_eq_true_iff]
  rfl

/-- The output delay of a setting, when there is one, lies in range (R23). -/
def settingInRange (x : Option Setting) : Bool := (x.map fun x => delayInRange x.outputDelay).getD true

theorem settingInRange_iff (x : Option Setting) :
    settingInRange x = true ↔ ∀ y, x = some y → 0 ≤ y.outputDelay ∧ y.outputDelay ≤ 921600 := by
  cases x <;> simp [settingInRange, delayInRange_iff]

theorem except_guard_bind {ε α β : Type} (allowed : Prop) [Decidable allowed] (a : α) (e : ε) (rest : α → Except ε β) :
    ((if allowed then .ok a else .error e : Except ε α) >>= rest) = if allowed then rest a else .error e := by
  split <;> rfl

namespace State

variable {s : State} {f : FeedNo}

theorem leadDelay_unresolved {l : FeedNo} (lead : (s.feed f).lead = some l) (unstored : (s.feed l).geomDelay = none) :
    s.leadDelay f = .error .leadUnresolved := by
  rw [leadDelay, lead]
  dsimp only
  rw [unstored]

theorem leadDelay_ok {d : Int} (stored : ((s.feed f).lead = none ∧ d = 0) ∨
    ∃ l, (s.feed f).lead = some l ∧ (s.feed l).geomDelay = some d) : s.leadDelay f = .ok d := by
  rcases stored with ⟨root, rfl⟩ | ⟨l, lead, delay⟩
  · rw [leadDelay, root]
  · rw [leadDelay, lead]
    dsimp only
    rw [delay]

/-- The geometric delay of a feed whose lead, if any, has a stored one (R22, R88). -/
theorem geometric_eq {d : Int} (stored : s.leadDelay f = .ok d) : s.geometric f =
    if delayInRange (d + contribution (s.feed f).excessPath (s.speedOf f)) then
      .ok (d + contribution (s.feed f).excessPath (s.speedOf f)) else .error .range := by
  rw [geometric, stored]

/-- The setting that a bound profile plays at a geometric delay, in range or not (R89, R90). -/
def boundSetting (s : State) (g : Int) (bus : Bus) (bound : Option Handle) : Option Setting :=
  (bound.bind fun h => s.composed h.ix).map fun c => c.setting g bus

theorem settingFor_eq (s : State) (g : Int) (bus : Bus) (bound : Option Handle) : s.settingFor g bus bound =
    if settingInRange (s.boundSetting g bus bound) then .ok (s.boundSetting g bus bound) else .error .range := by
  unfold settingFor boundSetting
  cases bound.bind fun h => s.composed h.ix with
  | none => rfl
  | some c => rfl

/-- A resolution computes the delay, then both settings; a setting out of range faults the whole (R88 to R90). -/
theorem resolution_eq (s : State) (f : FeedNo) : s.resolution f = (s.geometric f >>= fun g =>
    let normal := s.boundSetting g (.programme (s.feed f).bus) (s.feed f).binding
    let standby := s.boundSetting g .evacuation (s.feed f).overrideBinding
    if settingInRange normal ∧ settingInRange standby then .ok ⟨g, normal, standby⟩ else .error .range) := by
  unfold resolution
  congr 1
  funext g
  simp only [settingFor_eq, except_guard_bind, ← ite_and]
  rfl

end State

/-- Settles O38: the delay is computed first, then the two settings, and each is tested against the same range. -/
theorem resolutionComputes : Obligations.ResolutionComputes := by
  unfold Obligations.ResolutionComputes
  intro s f
  refine ⟨fun l lead unstored => ?_, fun d stored => ?_⟩
  · rw [State.resolution, State.geometric, State.leadDelay_unresolved lead unstored]
    rfl
  intro g
  refine ⟨fun out => ?_, fun low high => ?_⟩
  · have outside : ¬ delayInRange g = true := by rw [delayInRange_iff]; omega
    rw [State.resolution, State.geometric_eq (State.leadDelay_ok stored)]
    rw [State.speedOf, if_neg outside]
    rfl
  intro setting normal standby inRange
  have computed : s.geometric f = .ok g := by
    rw [State.geometric_eq (State.leadDelay_ok stored)]
    exact if_pos ((delayInRange_iff g).mpr ⟨low, high⟩)
  have bound : ∀ bus o, s.boundSetting g bus o = setting bus o := by
    intro bus o
    cases o with
    | none => rfl
    | some h =>
      simp only [State.boundSetting, State.composed, Option.bind_some, Option.map_map]
      refine congrFun (congrArg Option.map (funext fun p => ?_)) _
      simp only [Function.comp_apply, composeWith_eq]
      rfl
  have both : (settingInRange normal = true ∧ settingInRange standby = true) ↔ inRange := by
    rw [settingInRange_iff, settingInRange_iff]
    exact ⟨fun ⟨n, y⟩ x hx => hx.elim (n x) (y x), fun h => ⟨fun x hx => h x (.inl hx), fun x hx => h x (.inr hx)⟩⟩
  rw [State.resolution_eq, computed, except_ok_bind]
  dsimp only
  rw [bound, bound]
  exact ⟨fun p => if_pos (both.mpr p), fun p => if_neg fun b => p (both.mp b)⟩

end Sys2Proof.Machine
end

section
/-! ### A resolution that is discarded, faults, is held, or succeeds (R86, R91 to R95) -/

namespace Sys2Proof.Machine

namespace State

variable {s : State} {f : FeedNo}

theorem testWatch_clearInFlight (s : State) (a : Access) (r : RecordName) (st : Bool) (i : WatchNo) :
    testWatch a r st s.clearInFlight i = (testWatch a r st s i).clearInFlight := by
  unfold testWatch
  dsimp only
  by_cases h : (s.watches.get i).config.hits a r = true
  · rw [if_pos h]
    exact if_pos h
  · rw [if_neg h]
    exact if_neg h

/-- The watch test reads and writes no field of the Resolver. -/
theorem watchTest_clearInFlight (s : State) (a : Access) (r : RecordName) :
    (s.clearInFlight.watchTest a r).1 = (s.watchTest a r).1.clearInFlight := by
  calc (s.clearInFlight.watchTest a r).1
      = testWatch a r (s.stops a r) (testWatch a r (s.stops a r) s.clearInFlight 0) 1 := rfl
    _ = (testWatch a r (s.stops a r) (testWatch a r (s.stops a r) s 0) 1).clearInFlight := by
      rw [testWatch_clearInFlight, testWatch_clearInFlight]

theorem concludeResolution_error {r : FaultReason} (computed : s.resolution f = .error r) :
    s.concludeResolution f = s.faultFeed f r := by
  rw [concludeResolution, computed]

theorem concludeResolution_stopped {r : Resolved} (computed : s.resolution f = .ok r)
    (stop : s.stops .autoChange (.feed f) = true) :
    s.concludeResolution f = (s.watchTest .autoChange (.feed f)).1.holdFeed f := by
  rw [concludeResolution, computed]
  exact if_pos stop

theorem concludeResolution_taken {r : Resolved} (computed : s.resolution f = .ok r)
    (free : s.stops .autoChange (.feed f) = false) :
    s.concludeResolution f = (s.watchTest .autoChange (.feed f)).1.succeed f r := by
  rw [concludeResolution, computed]
  exact if_neg (by rw [free]; exact Bool.false_ne_true)

end State

section

variable {s : State} {f : FeedNo}

theorem exec_resolutionComplete_fresh (flight : s.resolver.inFlight = some ⟨f, (s.feed f).revision⟩)
    (unqueued : f ∉ s.resolver.queue) :
    exec .resolutionComplete s = .next (s.clearInFlight.concludeResolution f) := by
  rw [exec_resolutionComplete flight, if_neg]
  rw [State.stale_iff]
  exact fun stale => stale.elim (fun other => other rfl) unqueued

end

/-- Settles O39: a result that is not stale faults, or is held where a watch stops it. -/
theorem resolutionStartsAndFails : Obligations.ResolutionStartsAndFails := by
  unfold Obligations.ResolutionStartsAndFails
  refine ⟨fun s f rest head => exec_resolutionStart head, fun s f noted flight => ?_⟩
  intro landed
  refine ⟨exec_resolutionComplete_stale flight, ?_⟩
  rintro rfl unqueued
  rw [exec_resolutionComplete_fresh flight unqueued]
  refine ⟨fun r computed => ?_, fun r computed stop => ?_⟩
  · rw [State.concludeResolution_error (s := s.clearInFlight) computed]
    rfl
  · rw [State.concludeResolution_stopped (s := s.clearInFlight) computed stop, State.watchTest_clearInFlight,
      State.watchTest_frame]
    rfl

end Sys2Proof.Machine
end

section
/-! ### Delivery and the followers of a delay (R80, R81, R96, R97) -/

namespace Sys2Proof.Machine

theorem mem_foldl_appendOnce (fs q : List FeedNo) (g : FeedNo) : g ∈ fs.foldl appendOnce q ↔ g ∈ q ∨ g ∈ fs := by
  induction fs generalizing q with
  | nil => simp
  | cons f fs ih => rw [List.foldl_cons, ih, mem_appendOnce, List.mem_cons, or_assoc]

theorem foldl_appendOnce_nodup {q : List FeedNo} (nodup : q.Nodup) (fs : List FeedNo) :
    (fs.foldl appendOnce q).Nodup := by
  induction fs generalizing q with
  | nil => exact nodup
  | cons f fs ih => exact ih (appendOnce_nodup nodup f)

namespace FeedRender

theorem settled_of_other {x : FeedRender} (other : x.transition = none ∨ x.source ≠ .normal) : x.settled = x.active := by
  unfold settled
  split
  · next moving normal => exact (other.elim (fun still => by simp [still] at moving) fun away => away normal).elim
  · rfl

theorem settled_of_transition {x : FeedRender} {v : Transition} (moving : x.transition = some v)
    (normal : x.source = .normal) : (v.kind = .glide ∨ v.kind = .fadeIn → x.settled = v.target) ∧
      (v.kind = .fadeOut → x.settled = none) ∧ (v.kind = .crossfade → x.settled = x.active) := by
  simp only [settled, moving, normal]
  cases v.kind <;> simp

/-- What the slots hold once both settings have been delivered (R96, R97). -/
theorem delivered_eq (x : FeedRender) (normal standby : Option Setting) :
    (x.deliverNormal normal).deliverStandby standby =
      { x with
        standby := standby
        pending := if normal = x.settled then none else normal
        silenceOrder := normal ≠ x.settled ∧ normal = none
        takeStopped := if (normal ≠ x.settled ∧ normal.isSome = true) ∨ x.pending.isSome = true then false
          else x.takeStopped } := by
  have removed : x.putPending none =
      { x with pending := none, takeStopped := if x.pending.isSome = true then false else x.takeStopped } := by
    obtain ⟨_, pending, _, _, _, _, _, _⟩ := x
    cases pending <;> rfl
  by_cases same : normal = x.settled
  · simp [deliverNormal, deliverStandby, same, removed]
  · cases normal with
    | none => simp [deliverNormal, deliverStandby, same, removed]
    | some p => simp [deliverNormal, deliverStandby, same, putPending]

end FeedRender

namespace State

variable {s t : State} {f : FeedNo}

theorem mem_tableFollowers {g : FeedNo} :
    g ∈ s.tableFollowers f ↔ (s.feed g).sector = (s.feed f).sector ∧ (s.feed g).lead = some f := by
  simp [tableFollowers, allFeeds]

theorem mem_poolFollowers {g : FeedNo} :
    g ∈ s.poolFollowers f ↔ s.deps.entries.get g = some (s.feed f).sector ∧ (s.feed g).lead = some f := by
  simp [poolFollowers, allFeeds]

theorem mem_sweep {g : FeedNo} : g ∈ s.sweep f ↔ s.deps.overflow.get (s.feed f).sector = true ∧
    (s.feed g).sector ≠ (s.feed f).sector ∧ (s.feed g).lead.isSome = true := by
  unfold sweep
  split <;> simp_all [allFeeds]

/-- The followers that a change of a delay queues: those of the Feed Table and of the pool, and the sweep (R80, R81). -/
theorem mem_followersToQueue {g : FeedNo} : g ∈ s.followersToQueue f ↔
    ((s.feed g).lead = some f ∧
      ((s.feed g).sector = (s.feed f).sector ∨ s.deps.entries.get g = some (s.feed f).sector)) ∨
    (s.deps.overflow.get (s.feed f).sector = true ∧ (s.feed g).sector ≠ (s.feed f).sector ∧
      (s.feed g).lead.isSome = true) := by
  rw [followersToQueue, mem_foldl_appendOnce, List.mem_append, List.mem_append, mem_tableFollowers, mem_poolFollowers,
    mem_sweep, ← or_and_right, and_comm (b := (s.feed g).lead = some f)]
  simp only [List.not_mem_nil, false_or]

theorem followersToQueue_nodup (s : State) (f : FeedNo) : (s.followersToQueue f).Nodup :=
  foldl_appendOnce_nodup List.nodup_nil _

/-- A feed that does not lead itself is none of its own followers. -/
theorem notMem_followersToQueue_self (other : (s.feed f).lead ≠ some f) : f ∉ s.followersToQueue f := by
  rw [mem_followersToQueue]
  rintro (⟨self, -⟩ | ⟨-, apart, -⟩)
  · exact other self
  · exact apart rfl

/-- The followers are read from the leads, the sectors and the Dependency Pool. -/
theorem followersToQueue_congr (lead : ∀ g, (t.feed g).lead = (s.feed g).lead)
    (sector : ∀ g, (t.feed g).sector = (s.feed g).sector) (deps : t.deps = s.deps) (f : FeedNo) :
    t.followersToQueue f = s.followersToQueue f := by
  simp only [followersToQueue, tableFollowers, poolFollowers, sweep, lead, sector, deps]

end State

end Sys2Proof.Machine
end

section
/-! ### A success (R80, R81, R95 to R98) -/

namespace Sys2Proof.Machine

namespace State

variable {s : State} {f : FeedNo}

/-- Steps 1 to 4 of a success: the delay stored, the settings delivered (R95). -/
def settledBy (s : State) (f : FeedNo) (r : Resolved) : State := (s.storeDelay f r.delay).deliver f r

theorem feed_settledBy (s : State) (f g : FeedNo) (r : Resolved) : (s.settledBy f r).feed g =
    if g = f then { s.feed f with geomDelay := some r.delay, resolution := .clean, faultReason := none }
    else s.feed g := feed_setFeed_eq s f g _

theorem renderOf_settledBy (s : State) (f : FeedNo) (r : Resolved) :
    (s.settledBy f r).renderOf f = ((s.renderOf f).deliverNormal r.normal).deliverStandby r.standby :=
  renderOf_setRender ..

theorem renderOf_settledBy_other {g : FeedNo} (s : State) (r : Resolved) (other : g ≠ f) :
    (s.settledBy f r).renderOf g = s.renderOf g := renderOf_setRender_other _ _ other

theorem followersToQueue_settledBy (s : State) (f : FeedNo) (r : Resolved) :
    (s.settledBy f r).followersToQueue f = s.followersToQueue f := by
  refine followersToQueue_congr (s := s) (t := s.settledBy f r) (fun g => ?_) (fun g => ?_) rfl f
  all_goals
    rw [feed_settledBy]
    split
    · next same => rw [same]
    · rfl

/-- The feeds that a success with the delay `d` queues (R98). -/
def followersOfDelay (s : State) (f : FeedNo) (d : Int) : List FeedNo :=
  if (s.feed f).geomDelay = some d then [] else s.followersToQueue f

theorem followersOfDelay_nodup (s : State) (f : FeedNo) (d : Int) : (s.followersOfDelay f d).Nodup := by
  unfold followersOfDelay
  split
  · exact List.nodup_nil
  · exact s.followersToQueue_nodup f

theorem notMem_followersOfDelay_self (other : (s.feed f).lead ≠ some f) (d : Int) : f ∉ s.followersOfDelay f d := by
  unfold followersOfDelay
  split
  · exact List.not_mem_nil
  · exact notMem_followersToQueue_self other

/-- A success settles the feed and queues its followers when the delay has changed (R95, R98). -/
theorem succeed_eq (s : State) (f : FeedNo) (r : Resolved) :
    s.succeed f r = (s.settledBy f r).queueFeeds (s.followersOfDelay f r.delay) := by
  unfold succeed propagate followersOfDelay
  dsimp only
  split
  · rfl
  · exact congrArg (s.settledBy f r).queueFeeds (followersToQueue_settledBy s f r)

/-- The block as the success of a resolution finds it: its watches tested, none in flight. -/
def beforeSuccess (s : State) (f : FeedNo) : State := (s.watchTest .autoChange (.feed f)).1.clearInFlight

theorem feed_beforeSuccess (s : State) (f g : FeedNo) : (s.beforeSuccess f).feed g = s.feed g :=
  congrArg (Table.get · g) (s.watchTest_feeds ..)

theorem renderOf_beforeSuccess (s : State) (f g : FeedNo) : (s.beforeSuccess f).renderOf g = s.renderOf g :=
  congrArg (Table.get · g) (s.watchTest_render ..)

theorem beforeSuccess_resolver (s : State) (f : FeedNo) : (s.beforeSuccess f).resolver = ⟨s.resolver.queue, none⟩ :=
  congrArg (fun r : Resolver => (⟨r.queue, none⟩ : Resolver)) (s.watchTest_resolver ..)

theorem followersOfDelay_beforeSuccess (s : State) (f : FeedNo) (d : Int) :
    (s.beforeSuccess f).followersOfDelay f d = s.followersOfDelay f d := by
  have feed := s.feed_beforeSuccess f
  have deps : (s.beforeSuccess f).deps = s.deps := s.watchTest_deps ..
  rw [followersOfDelay, feed, followersToQueue_congr (fun g => by rw [feed]) (fun g => by rw [feed]) deps,
    followersOfDelay]

theorem exec_resolutionComplete_success {r : Resolved}
    (flight : s.resolver.inFlight = some ⟨f, (s.feed f).revision⟩) (unqueued : f ∉ s.resolver.queue)
    (computed : s.resolution f = .ok r) (free : s.stops .autoChange (.feed f) = false) :
    exec .resolutionComplete s =
      .next (((s.beforeSuccess f).settledBy f r).queueFeeds (s.followersOfDelay f r.delay)) := by
  rw [exec_resolutionComplete_fresh flight unqueued, concludeResolution_taken (s := s.clearInFlight) computed free,
    watchTest_clearInFlight, succeed_eq]
  exact congrArg (fun fs => Host.Outcome.next (((s.beforeSuccess f).settledBy f r).queueFeeds fs))
    (s.followersOfDelay_beforeSuccess f r.delay)

end State

/-- Settles O40: the feed itself is none of its followers, so that its own entry stays CLEAN. -/
theorem resolutionSucceeds : Obligations.ResolutionSucceeds := by
  unfold Obligations.ResolutionSucceeds
  refine ⟨fun x => ⟨FeedRender.settled_of_other, fun v => FeedRender.settled_of_transition⟩, fun s f => ?_,
    fun s f r flight unqueued computed apart free => ?_⟩
  · simp only [State.followersToQueue, State.tableFollowers, State.poolFollowers, State.sweep, Bool.decide_and,
      Bool.decide_eq_true, Bool.and_comm]
    rfl
  intro x followers
  have nodup : followers.Nodup := s.followersOfDelay_nodup f r.delay
  have own : f ∉ followers := State.notMem_followersOfDelay_self apart r.delay
  have entry : ∀ g, g ≠ f → ((s.beforeSuccess f).settledBy f r).feed g = s.feed g := fun g other => by
    rw [State.feed_settledBy, if_neg other, State.feed_beforeSuccess]
  have done : exec .resolutionComplete s = .next (((s.beforeSuccess f).settledBy f r).queueFeeds followers) :=
    State.exec_resolutionComplete_success flight unqueued computed free
  refine ⟨fun g => State.mem_followersToQueue, _, done,
    ?_, fun g mem => ?_, fun g other out => ?_, ?_, fun g other => ?_, ?_, ?_⟩
  · rw [State.feed_queueFeeds_other _ own, State.feed_settledBy, if_pos rfl, State.feed_beforeSuccess]
  · rw [State.feed_queueFeeds_mem nodup mem, entry g fun self => own (self ▸ mem)]
  · rw [State.feed_queueFeeds_other _ out, entry g other]
  · have settled : (((s.beforeSuccess f).settledBy f r).queueFeeds followers).renderOf f =
        ((s.beforeSuccess f).settledBy f r).renderOf f := congrArg (Table.get · f) (State.queueFeeds_render ..)
    exact settled.trans (by rw [State.renderOf_settledBy, FeedRender.delivered_eq, State.renderOf_beforeSuccess])
  · have kept : (((s.beforeSuccess f).settledBy f r).queueFeeds followers).renderOf g =
        ((s.beforeSuccess f).settledBy f r).renderOf g := congrArg (Table.get · g) (State.queueFeeds_render ..)
    exact kept.trans (by rw [State.renderOf_settledBy_other _ r other, State.renderOf_beforeSuccess])
  · have base : ((s.beforeSuccess f).settledBy f r).resolver = ⟨s.resolver.queue, none⟩ := s.beforeSuccess_resolver f
    rw [State.queueFeeds_resolver, State.queuedAll, base]
  · rw [State.queueFeeds_frame]
    rfl

end Sys2Proof.Machine
end

section
/-! ### Chains of leads after a change of one lead (R11, R13, R14) -/

namespace Sys2Proof.Machine

/-- Where a rank falls along every link, no chain is longer than the rank of its start. -/
theorem chainAbove_length_le {lead : FeedNo → Option FeedNo} {rank : FeedNo → Nat}
    (falls : ∀ f l, lead f = some l → rank l < rank f) (m : Nat) (f : FeedNo) :
    (chainAbove lead m f).length ≤ rank f := by
  induction m generalizing f with
  | zero => exact Nat.zero_le _
  | succ m ih =>
    cases link : lead f with
    | none => simp [chainAbove_of_root link]
    | some l =>
      have := falls f l link
      have := ih l
      rw [chainAbove_of_lead link, List.length_cons]
      omega

namespace State

variable {s t : State} (short : ∀ f, (chainAbove s.leadOf 5 f).length ≤ 4)

include short

/-- Along a chain the depth falls, and the sum of depth and height does not. -/
theorem depth_height_of_chain {f g : FeedNo} (above : f ∈ chainAbove s.leadOf 96 g) :
    s.depth f < s.depth g ∧ s.depth g + s.height g ≤ s.depth f + s.height f := by
  rw [mem_chainAbove_iff short] at above
  induction above with
  | single link =>
    have := depth_lead short link
    have := height_of_follower short link
    omega
  | tail _ link ih =>
    have := depth_lead short link
    have := height_of_follower short link
    omega

/-- Chains stay short where links are only removed. -/
theorem chains_of_fewer (fewer : ∀ f l, (t.feed f).lead = some l → (s.feed f).lead = some l) (f : FeedNo) :
    (chainAbove t.leadOf 5 f).length ≤ 4 :=
  (chainAbove_length_le (fun g l link => by have := depth_lead short (fewer g l link); omega) 5 f).trans
    (depth_le short f)

omit short in
/-- The depth of a feed once `f` follows `l`: `f` and the feeds below it move with `f`. -/
def depthUnder (s : State) (f l g : FeedNo) : Nat :=
  if g = f ∨ f ∈ chainAbove s.leadOf 96 g then s.depth g + (s.depth l + 1) - s.depth f else s.depth g

omit short in
theorem depthUnder_below {f l g : FeedNo} (below : g = f ∨ f ∈ chainAbove s.leadOf 96 g) :
    s.depthUnder f l g = s.depth g + (s.depth l + 1) - s.depth f := if_pos below

omit short in
theorem depthUnder_apart {f l g : FeedNo} (apart : ¬ (g = f ∨ f ∈ chainAbove s.leadOf 96 g)) :
    s.depthUnder f l g = s.depth g := if_neg apart

/-- A LEAD that passes the cycle check and the depth check keeps the chains short (R13, R14). -/
theorem chains_of_lead {f l : FeedNo} (own : (t.feed f).lead = some l)
    (others : ∀ g, g ≠ f → (t.feed g).lead = (s.feed g).lead)
    (acyclic : ¬ (l = f ∨ f ∈ chainAbove s.leadOf 96 l)) (shallow : s.depth l + 1 + s.height f ≤ 4) (g : FeedNo) :
    (chainAbove t.leadOf 5 g).length ≤ 4 := by
  have low : ∀ g, g = f ∨ f ∈ chainAbove s.leadOf 96 g →
      s.depth f ≤ s.depth g ∧ s.depth g + s.height g ≤ s.depth f + s.height f := by
    rintro g (rfl | below)
    · exact ⟨le_rfl, le_rfl⟩
    · exact ⟨(depth_height_of_chain short below).1.le, (depth_height_of_chain short below).2⟩
  have falls : ∀ g k, (t.feed g).lead = some k → s.depthUnder f l k < s.depthUnder f l g := by
    intro g k link
    by_cases self : g = f
    · subst self
      cases own.symm.trans link
      rw [depthUnder_apart acyclic, depthUnder_below (.inl rfl)]
      omega
    · rw [others g self] at link
      have deeper := depth_lead short link
      by_cases below : k = f ∨ f ∈ chainAbove s.leadOf 96 k
      · have reached : f ∈ chainAbove s.leadOf 96 g := by
          rw [chainAbove_lead short link, List.mem_cons]
          exact below.imp Eq.symm id
        have := (low k below).1
        rw [depthUnder_below below, depthUnder_below (.inr reached)]
        omega
      · have apart : ¬ (g = f ∨ f ∈ chainAbove s.leadOf 96 g) := by
          rintro (same | reached)
          · exact self same
          · rw [chainAbove_lead short link, List.mem_cons] at reached
            exact below (reached.imp Eq.symm id)
        rw [depthUnder_apart below, depthUnder_apart apart]
        omega
  refine (chainAbove_length_le falls 5 g).trans ?_
  by_cases below : g = f ∨ f ∈ chainAbove s.leadOf 96 g
  · have := low g below
    rw [depthUnder_below below]
    omega
  · rw [depthUnder_apart below]
    exact depth_le short g

end State

end Sys2Proof.Machine
end

section
/-! ### The Dependency Pool after a change of one follower (R75, R76, R77) -/

namespace Sys2Proof.Machine

namespace Dependencies

theorem count_remove_le (d : Dependencies) (f : FeedNo) : (d.remove f).count ≤ d.count := by
  refine (List.monotone_filter_right allFeeds fun g => ?_).length_le
  simp only [remove, Table.get_upd]
  split <;> simp

end Dependencies

namespace State

theorem count_depsAfter (d : Dependencies) (f : FeedNo) (far : Option SectorNo) (few : d.count ≤ 48) :
    (depsAfter d f far).count ≤ 48 := by
  have removed := d.count_remove_le f
  unfold depsAfter
  split
  · next n =>
    split
    · next room =>
      rw [Dependencies.count_upd_some (d := d.remove f) (Table.get_upd_same ..)]
      exact room
    · exact removed.trans few
  · exact removed.trans few

theorem depsAfter_entries_other {f g : FeedNo} (d : Dependencies) (far : Option SectorNo) (other : g ≠ f) :
    (depsAfter d f far).entries.get g = d.entries.get g := by
  have removed : (d.remove f).entries.get g = d.entries.get g := Table.get_upd_other _ _ other
  unfold depsAfter
  split
  · split
    · exact (Table.get_upd_other _ _ other).trans removed
    · exact removed
  · exact removed

/-- The follower itself has its new entry, or none and its lead's sector the mark. -/
theorem depsAfter_own (d : Dependencies) (f : FeedNo) (far : Option SectorNo) :
    (depsAfter d f far).entries.get f = far ∨
      ((depsAfter d f far).entries.get f = none ∧ ∀ n, far = some n → (depsAfter d f far).overflow.get n = true) := by
  unfold depsAfter
  split
  · next n =>
    split
    · exact .inl (Table.get_upd_same ..)
    · refine .inr ⟨Table.get_upd_same .., fun k same => ?_⟩
      cases same
      exact Table.get_upd_same ..
  · exact .inl (Table.get_upd_same ..)

theorem depsAfter_overflow (d : Dependencies) (f : FeedNo) (far : Option SectorNo) {n : SectorNo}
    (marked : d.overflow.get n = true) : (depsAfter d f far).overflow.get n = true := by
  unfold depsAfter
  split
  · split
    · exact marked
    · rw [Table.get_upd]
      split
      · rfl
      · exact marked
  · exact marked

variable {s t : State}

/-- The sector of a lead in another sector is read from the follower's lead and the two sectors. -/
theorem crossSectorLead_congr {f : FeedNo} (lead : (t.feed f).lead = (s.feed f).lead)
    (own : (s.feed f).lead.isSome = true → (t.feed f).sector = (s.feed f).sector)
    (other : ∀ l, (s.feed f).lead = some l → (t.feed l).sector = (s.feed l).sector) :
    t.crossSectorLead f = s.crossSectorLead f := by
  unfold crossSectorLead
  rw [lead]
  cases link : (s.feed f).lead with
  | none => rfl
  | some l => simp only [own (by rw [link]; rfl), other l link]

theorem matched_congr (deps : t.deps = s.deps) (far : ∀ f, t.crossSectorLead f = s.crossSectorLead f)
    (m : DependenciesMatch s) : DependenciesMatch t := by
  intro f n
  rw [deps, far]
  exact m f n

theorem matched_depsAfter {f : FeedNo} (deps : t.deps = depsAfter s.deps f (t.crossSectorLead f))
    (others : ∀ g, g ≠ f → t.crossSectorLead g = s.crossSectorLead g) (m : DependenciesMatch s) :
    DependenciesMatch t := by
  intro g n
  by_cases self : g = f
  · subst self
    rcases depsAfter_own s.deps g (t.crossSectorLead g) with entry | ⟨entry, marked⟩ <;> rw [deps, entry]
    · exact ⟨id, .inl⟩
    · exact ⟨nofun, fun far => .inr (marked n far)⟩
  · rw [deps, depsAfter_entries_other _ _ self, others g self]
    exact ⟨(m g n).1, fun far => ((m g n).2 far).imp id (depsAfter_overflow _ _ _)⟩

/-- The pool as a rebuild leaves it (R82). -/
theorem matched_rebuilt (deps : t.deps = t.rebuiltDependencies) : DependenciesMatch t := by
  intro f n
  rw [deps, rebuiltDependencies_entries, rebuiltDependencies_overflow, ← mem_crossSectorFollowers_iff]
  refine ⟨List.mem_of_mem_take, fun mem => ?_⟩
  rw [← List.take_append_drop 48 t.crossSectorFollowers, List.mem_append] at mem
  exact mem.imp id fun late => ⟨f, late⟩

end State

end Sys2Proof.Machine
end

section
/-! ### Six rules of the records, each kept by itself (R7, R11, R75, R83, R133) -/

namespace Sys2Proof.Machine

/-- A fault reason is present exactly in FAULTED (R7). -/
def FeedEntry.faultRuled (e : FeedEntry) : Prop := e.faultReason.isSome = true ↔ e.resolution = .faulted

theorem FeedEntry.faultRuled_queued (e : FeedEntry) : e.queued.faultRuled := by
  simp [FeedEntry.faultRuled, FeedEntry.queued]

/-- `t` has each of the six properties that `s` has. -/
structure RecordsKept (s t : State) : Prop where
  queue : QueueSound s → QueueSound t
  dependencies : DependenciesSound s → DependenciesSound t
  override : OverrideSound s → OverrideSound t
  faults : FaultsSound s → FaultsSound t
  matched : DependenciesMatch s → DependenciesMatch t
  chains : ChainsSound s → ChainsSound t

namespace State

variable {s t : State}

/-- What the six rules read. -/
def records (s : State) :
    Table FeedEntry 96 × Dependencies × Resolver × (OverrideState × Bool × Bool) × Option Image :=
  (s.feeds, s.deps, s.resolver, (s.override.state, s.override.alarmActive, s.override.portActive),
    s.image.waitingImage)

theorem heldImageValid_congr (image : t.image.waitingImage = s.image.waitingImage) (valid : s.heldImageValid) :
    t.heldImageValid := by
  rw [heldImageValid_iff] at valid ⊢
  rwa [image]

theorem heldImageValid_of_none (image : s.image.waitingImage = none) : s.heldImageValid := by
  rw [heldImageValid_iff, image]
  exact nofun

theorem chains_congr (lead : ∀ f, (t.feed f).lead = (s.feed f).lead) (image : s.heldImageValid → t.heldImageValid)
    (chains : ChainsSound s) : ChainsSound t := by
  have same : t.leadOf = s.leadOf := funext lead
  exact ⟨fun f => by rw [same]; exact chains.1 f, image chains.2⟩

theorem waitingImage_of_storage (same : t.storage = s.storage) : t.image.waitingImage = s.image.waitingImage :=
  congrArg (fun x => x.2.2) same

end State

namespace RecordsKept

variable {s t u : State}

theorem refl (s : State) : RecordsKept s s := ⟨id, id, id, id, id, id⟩

theorem trans (a : RecordsKept s t) (b : RecordsKept t u) : RecordsKept s u :=
  ⟨b.queue ∘ a.queue, b.dependencies ∘ a.dependencies, b.override ∘ a.override, b.faults ∘ a.faults,
    b.matched ∘ a.matched, b.chains ∘ a.chains⟩

/-- A change under which every feed keeps its lead and its sector, and the Dependency Pool its entries and marks. -/
theorem of_links (links : ∀ f, (t.feed f).lead = (s.feed f).lead ∧ (t.feed f).sector = (s.feed f).sector)
    (faults : ∀ f, (s.feed f).faultRuled → (t.feed f).faultRuled) (deps : t.deps = s.deps)
    (queue : QueueSound s → QueueSound t) (override : OverrideSound s → OverrideSound t)
    (image : s.heldImageValid → t.heldImageValid) : RecordsKept s t where
  queue := queue
  dependencies few := by rw [DependenciesSound, deps]; exact few
  override := override
  faults ruled f := faults f (ruled f)
  matched := State.matched_congr deps fun f =>
    State.crossSectorLead_congr (links f).1 (fun _ => (links f).2) fun l _ => (links l).2
  chains := State.chains_congr (fun f => (links f).1) image

/-- A change of nothing that the rules read, but for the image that waits. -/
theorem of_image (feeds : t.feeds = s.feeds) (deps : t.deps = s.deps) (resolver : t.resolver = s.resolver)
    (override : t.override = s.override) (image : s.heldImageValid → t.heldImageValid) : RecordsKept s t := by
  have feed : ∀ f, t.feed f = s.feed f := fun f => by rw [State.feed, feeds, State.feed]
  refine .of_links (fun f => ?_) (fun f => ?_) deps (fun h => ?_) (fun h => ?_) image
  · rw [feed]; exact ⟨rfl, rfl⟩
  · rw [feed]; exact id
  · rwa [QueueSound, resolver]
  · rwa [OverrideSound, override]

/-- A change of nothing that the rules read. -/
theorem of_records (same : t.records = s.records) : RecordsKept s t := by
  simp only [State.records, Prod.mk.injEq] at same
  obtain ⟨feeds, deps, resolver, ⟨state, alarm, port⟩, image⟩ := same
  have other : RecordsKept s { t with override := s.override } :=
    .of_image feeds deps resolver rfl (State.heldImageValid_congr image)
  refine ⟨other.queue, other.dependencies, fun h => ?_, other.faults, other.matched, other.chains⟩
  rw [OverrideSound, Override.fromSources] at h ⊢
  rwa [state, alarm, port]

theorem congr_left (k : RecordsKept t u) (same : t.records = s.records) : RecordsKept s u := (of_records same).trans k

theorem congr_right (k : RecordsKept s t) (same : u.records = t.records) : RecordsKept s u := k.trans (of_records same)

/-! #### One feed written or queued -/

/-- A feed written under its own lead and sector. -/
theorem setFeed (s : State) (f : FeedNo) {e : FeedEntry} (lead : e.lead = (s.feed f).lead)
    (sector : e.sector = (s.feed f).sector) (faults : (s.feed f).faultRuled → e.faultRuled) :
    RecordsKept s (s.setFeed f e) := by
  refine .of_links (fun g => ?_) (fun g => ?_) rfl id id id
  all_goals
    rw [State.feed_setFeed_eq]
    split
  · next same => rw [same]; exact ⟨lead, sector⟩
  · exact ⟨rfl, rfl⟩
  · next same => rw [same]; exact faults
  · exact id

theorem queueFeed (s : State) (f : FeedNo) : RecordsKept s (s.queueFeed f) := by
  refine .trans (.setFeed s f (e := (s.feed f).queued) rfl rfl fun _ => (s.feed f).faultRuled_queued) ?_
  exact .of_links (fun g => ⟨rfl, rfl⟩) (fun g => id) rfl (fun nodup => State.queueFeed_nodup nodup f) id id

theorem queueFeeds (s : State) (fs : List FeedNo) : RecordsKept s (s.queueFeeds fs) := by
  induction fs generalizing s with
  | nil => exact .refl s
  | cons f fs ih => exact (queueFeed s f).trans (ih _)

end RecordsKept

end Sys2Proof.Machine
end

section
/-! ### Operations that the six rules do not see -/

namespace Sys2Proof.Machine

namespace State

variable (s : State)

/-! #### The operations shared by commands -/

theorem watchTest_records (a : Access) (r : RecordName) : (s.watchTest a r).1.records = s.records := by simp [records]

theorem notifyPolicy_records (o : PolicyOutcome) (d : PolicyDetail) : (s.notifyPolicy o d).records = s.records := by
  simp [records]

theorem statusEvaluation_records (n : SectorNo) : (s.statusEvaluation n).records = s.records := by simp [records]

theorem freeHandle_records (h : HandleIx) : (s.freeHandle h).records = s.records := by simp [records]

theorem dropOptional_records (old : Option Handle) : (s.dropOptional old).records = s.records := by simp [records]

theorem replaceReference_records (old : Option Handle) (new : HandleIx) :
    (s.replaceReference old new).records = s.records := by simp [records]

theorem nextMove_records : s.nextMove.records = s.records := by simp [records]

theorem afterAbandon_records : s.afterAbandon.records = s.records := by simp [records]

theorem endWait_records : s.endWait.records = s.records := by
  simp [records, waitingImage_of_storage s.endWait_storage]

theorem endMove_records : s.endMove.records = s.records := by
  unfold endMove
  dsimp only
  split
  · rfl
  · exact nextMove_records _

theorem endTransaction_records : s.endTransaction.1.records = s.records := by
  obtain ⟨p, e⟩ := s.endTransaction_frame
  rw [e]
  rfl

/-! #### Requests -/

theorem lookLoop_records (cls : RecordClass) (rs : List RecordName) (images : List (List Byte)) :
    (lookLoop cls rs images s).1.records = s.records := by
  induction rs generalizing s images with
  | nil => rfl
  | cons r rs ih =>
    have tested := s.watchTest_records .portLook r
    unfold lookLoop
    dsimp only
    split
    · exact tested
    · exact (ih _ _).trans tested

theorem look_records (i : LookItems) : (s.look i).1.records = s.records := by
  unfold look
  split
  · rfl
  · exact lookLoop_records s _ _ _

theorem find_records (i : FindItems) : (s.find i).1.records = s.records := by
  unfold find
  split
  · rfl
  · dsimp only
    split <;> rfl

theorem changeMask_records (m : Option NoticeSet) : (s.changeMask m).1.records = s.records := by
  unfold changeMask
  split
  · rfl
  · split
    · rfl
    · split
      · rfl
      · exact endWait_records _

theorem requestPolicySet_records (cs : List PolicyChange) : (s.requestPolicySet cs).1.records = s.records := by
  unfold requestPolicySet
  split
  · rfl
  · split
    · rfl
    · split
      · rfl
      · exact endWait_records _

theorem requestCrossStandSet_records (v : Option PolicyOutcome) :
    (s.requestCrossStandSet v).1.records = s.records := by
  unfold requestCrossStandSet
  split
  · rfl
  · split
    · rfl
    · exact endWait_records _

theorem changeHolds_records (set : SectorSet) (yes : Bool) : (s.changeHolds set yes).1.records = s.records := by
  unfold changeHolds
  split <;> rfl

theorem requestCompactStart_records : s.requestCompactStart.1.records = s.records := by
  unfold requestCompactStart
  split
  · exact nextMove_records s
  · rfl

theorem requestCompactStop_records : s.requestCompactStop.1.records = s.records := by
  unfold requestCompactStop
  split <;> rfl

theorem requestSave_records : s.requestSave.1.records = s.records := by
  have others : s.requestSave.1.feeds = s.feeds ∧ s.requestSave.1.deps = s.deps ∧
      s.requestSave.1.resolver = s.resolver ∧ s.requestSave.1.override = s.override := by
    unfold requestSave
    split <;> exact ⟨rfl, rfl, rfl, rfl⟩
  simp [records, others, waitingImage_of_storage s.requestSave_storage]

theorem requestLoad_records : s.requestLoad.1.records = s.records := by
  have others : s.requestLoad.1.feeds = s.feeds ∧ s.requestLoad.1.deps = s.deps ∧
      s.requestLoad.1.resolver = s.resolver ∧ s.requestLoad.1.override = s.override := by
    unfold requestLoad
    split
    · exact ⟨rfl, rfl, rfl, rfl⟩
    · split <;> exact ⟨rfl, rfl, rfl, rfl⟩
  simp [records, others, waitingImage_of_storage s.requestLoad_storage]

theorem requestReadWatch_records (n : Nat) : (s.requestReadWatch n).1.records = s.records := by
  unfold requestReadWatch
  split <;> rfl

theorem requestSensorSet_records (i : SensorSetItems) : (s.requestSensorSet i).1.records = s.records := by
  have evaluated : ∀ (ns : List SectorNo) (u : State), (ns.foldl statusEvaluation u).records = u.records := fun ns u =>
    foldl_keeps records statusEvaluation statusEvaluation_records ns u
  unfold requestSensorSet
  split
  · rfl
  · exact (endWait_records _).trans (evaluated _ _)

/-! #### The block boundary (R121, R136) -/

theorem touched_records (f : FeedNo) (due : Bool) (y : FeedRender) : (s.touched f due y).records = s.records := by
  cases due
  · rfl
  · exact s.watchTest_records .take (.feed f)

theorem takesTested_records (fs : List FeedNo) : (s.takesTested fs).records = s.records :=
  foldl_keeps records _ (fun u f => u.watchTest_records .take (.feed f)) fs s

/-- At a boundary each feed is touched once, whatever the override does there. -/
theorem boundary_touched : ∃ fs render,
    s.updateHolds.stepFeeds = (s.updateHolds.applyOverride.takesTested fs).withRender render := by
  have start : Midway s s.updateHolds.applyOverride := ⟨rfl, rfl, rfl, rfl, fun _ _ => rfl⟩
  have all {due : FeedNo → Bool} {op : State → FeedNo → State}
      (each : ∀ u f, Midway s u → u.renderOf f = s.renderOf f → ∃ y, True ∧ op u f = u.touched f (due f) y) :
      ∃ fs render, allFeeds.foldl op s.updateHolds.applyOverride =
        (s.updateHolds.applyOverride.takesTested fs).withRender render := by
    obtain ⟨render, e, -⟩ := foldl_touched each allFeeds (List.nodup_finRange 96) _ start fun _ _ => rfl
    exact ⟨_, render, e⟩
  have step := all fun u f m hr => (m.stepFeed hr).imp fun _ h => ⟨trivial, h.2⟩
  show ∃ fs render, allFeeds.foldl (boundaryFeed s.override.state s.override.applied) _ = _
  cases s.override.state <;> cases s.override.applied
  · exact step
  · exact all fun u f m hr => (m.disengageFeed hr).imp fun _ h => ⟨trivial, h.2⟩
  · exact all fun u f m hr => (m.engageFeed hr).imp fun _ h => ⟨trivial, h.2⟩
  · exact step

theorem countBlocks_records : s.countBlocks.records = s.records := by
  simp [records, waitingImage_of_storage s.countBlocks_storage]

theorem boundary_records : s.updateHolds.stepFeeds.countBlocks.records = s.records := by
  obtain ⟨fs, render, e⟩ := s.boundary_touched
  rw [countBlocks_records, e]
  exact takesTested_records _ fs

end State

end Sys2Proof.Machine
end

section
/-! ### Operations that queue feeds or change the override's sources keep the six rules (R85, R93 to R98, R112, R133) -/

namespace Sys2Proof.Machine

namespace RecordsKept

variable {s t : State}

/-! #### The Override Unit (R133, R134) -/

/-- The state is formed afresh from the sources. -/
theorem changeSources (s : State) (c : OverrideSource) (o : Override) : RecordsKept s (s.changeSources c o) := by
  have formed : (s.changeSources c o).override = { o with state := o.fromSources } := by
    unfold State.changeSources
    dsimp only
    split <;> rfl
  have feed : ∀ f, (s.changeSources c o).feed f = s.feed f := fun f => congrArg (Table.get · f) (by simp)
  refine .of_links (fun f => ?_) (fun f => ?_) (by simp) (fun h => ?_) (fun _ => ?_)
    (State.heldImageValid_congr (State.waitingImage_of_storage (s.changeSources_storage c o)))
  · rw [feed]; exact ⟨rfl, rfl⟩
  · rw [feed]; exact id
  · simpa [QueueSound] using h
  · rw [OverrideSound, formed]
    rfl

theorem setAlarm (s : State) (level : Bool) : RecordsKept s (s.setAlarm level) := by
  unfold State.setAlarm
  dsimp only
  split
  · exact .of_records rfl
  · exact (changeSources _ _ _).congr_left rfl

theorem sampleAlarm (s : State) : RecordsKept s s.sampleAlarm := by
  unfold State.sampleAlarm
  split
  · exact changeSources s _ _
  · exact .refl s

theorem setCursor (s : State) (r : RecordName) : RecordsKept s (s.setCursor r) := .of_records rfl

/-! #### The Climate Unit (R109 to R115) -/

theorem changeSpeed (s : State) (n : SectorNo) (c : Int) : RecordsKept s (s.changeSpeed n c) :=
  (queueFeeds _ _).congr_left rfl

theorem fullEvaluation (s : State) (n : SectorNo) : RecordsKept s (s.fullEvaluation n) := by
  refine .trans (.of_records (s.statusEvaluation_records n)) ?_
  unfold State.fullEvaluation
  dsimp only
  split
  · unfold State.speedTest
    dsimp only
    split
    · exact (changeSpeed _ _ _).congr_left rfl
    all_goals exact .of_records rfl
  · exact .refl _

theorem applyReading (s : State) (k : ChannelNo) (code : Int) : RecordsKept s (s.applyReading k code) := by
  have evaluated : ∀ (u : State) o, RecordsKept u (u.evaluateOptional o) := by
    intro u o
    cases o with
    | none => exact .refl u
    | some n => exact fullEvaluation u n
  unfold State.applyReading
  dsimp only
  refine .trans ?_ (evaluated _ _)
  split <;> exact .of_records rfl

theorem fixSector (s : State) (n : SectorNo) : RecordsKept s (s.fixSector n) := by
  unfold State.fixSector
  dsimp only
  split
  · exact .of_records rfl
  · exact (changeSpeed _ _ _).congr_left rfl

theorem actOnMode (s : State) (n : SectorNo) (old : SectorConfig) : RecordsKept s (s.actOnMode n old) := by
  unfold State.actOnMode
  dsimp only
  split
  · exact .of_records (State.statusEvaluation_records _ n)
  · exact fixSector s n
  · split
    · exact .refl s
    · exact fixSector s n
  · exact .refl s

theorem requestSectorSet (s : State) (i : SectorSetItems) : RecordsKept s (s.requestSectorSet i).1 := by
  unfold State.requestSectorSet
  split
  · exact .refl s
  · refine .congr_right (.trans ?_ (setCursor _ _)) (State.endWait_records _)
    exact (actOnMode _ _ _).congr_left rfl

/-! #### The watches (R148) -/

theorem reconfigure (s : State) : RecordsKept s s.reconfigure := (queueFeeds s s.heldFeeds).congr_right rfl

theorem requestWatchSet (s : State) (i : WatchSetItems) : RecordsKept s (s.requestWatchSet i).1 := by
  unfold State.requestWatchSet
  split
  · exact .refl s
  · split
    · exact (reconfigure _).congr_left rfl
    · exact .refl s

theorem requestWatchClear (s : State) (n : Nat) : RecordsKept s (s.requestWatchClear n).1 := by
  unfold State.requestWatchClear
  split
  · exact .refl s
  · exact (reconfigure _).congr_left rfl

/-! #### The Resolver (R86, R93 to R98) -/

theorem resolutionStart {f : FeedNo} {rest : List FeedNo} (head : s.resolver.queue = f :: rest) (x : Option InFlight) :
    RecordsKept s { s with resolver := ⟨rest, x⟩ } :=
  .of_links (fun _ => ⟨rfl, rfl⟩) (fun _ => id) rfl
    (fun nodup => (List.nodup_cons.mp (head ▸ nodup : (f :: rest).Nodup)).2) id id

theorem clearInFlight (s : State) : RecordsKept s s.clearInFlight :=
  .of_links (fun _ => ⟨rfl, rfl⟩) (fun _ => id) rfl id id id

theorem concludeResolution (s : State) (f : FeedNo) : RecordsKept s (s.concludeResolution f) := by
  have watched := of_records (s.watchTest_records .autoChange (.feed f))
  cases computed : s.resolution f with
  | error r =>
    rw [State.concludeResolution_error computed]
    exact (setFeed s f (e := { s.feed f with resolution := .faulted, faultReason := some r }) rfl rfl
      fun _ => iff_of_true rfl rfl).congr_right rfl
  | ok r =>
    cases stop : s.stops .autoChange (.feed f) with
    | true =>
      rw [State.concludeResolution_stopped computed stop]
      exact watched.trans (setFeed _ f rfl rfl fun _ => by simp [FeedEntry.faultRuled])
    | false =>
      rw [State.concludeResolution_taken computed stop, State.succeed_eq]
      refine (watched.trans ?_).trans (queueFeeds _ _)
      have stored (u : State) : RecordsKept u (u.storeDelay f r.delay) :=
        setFeed u f rfl rfl fun _ => by simp [FeedEntry.faultRuled]
      exact (stored _).congr_right rfl

end RecordsKept

end Sys2Proof.Machine
end

section
/-! ### The change requests keep the six rules (R12 to R20, R36 to R49, R75 to R77) -/

namespace Sys2Proof.Machine

namespace State

variable {s : State}

/-- A feed that changes its sector has no lead and leads no feed (R5, R10). -/
theorem testSetFeed_sector_ok {f : FeedNo} {field : Nat} {v : Int} {n : SectorNo}
    (ok : s.testSetFeed f field v = .ok (.sector n)) : (s.feed f).lead = none ∧ ∀ g, (s.feed g).lead ≠ some f := by
  unfold testSetFeed at ok
  cases change : feedChange field v with
  | none => rw [change] at ok; cases ok
  | some c =>
    simp only [change, except_bind_ok, except_pure_ok] at ok
    obtain ⟨-, -, -, -, _, own, rfl⟩ := ok
    simp only [testFeedField, except_bind_ok, require_ok, Bool.not_eq_true', Bool.or_eq_false_iff] at own
    obtain ⟨-, -, root, alone⟩ := own
    refine ⟨by simpa using root, fun g follows => ?_⟩
    rw [hasFollowers_iff.mpr ⟨g, follows⟩] at alone
    cases alone

/-- A LEAD that passes its tests closes no cycle and makes no chain of more than four links (R13, R14). -/
theorem testLead_ok {i : LeadItems} {p : LeadPlan} (ok : s.testLead i = .ok p) {l : FeedNo} (lead : p.lead = some l) :
    ¬ (l = p.follower ∨ p.follower ∈ chainAbove s.leadOf 96 l) ∧ s.depth l + 1 + s.height p.follower ≤ 4 := by
  simp only [testLead, except_bind_ok, except_pure_ok] at ok
  obtain ⟨f, -, o, -, -, -, -, -, _, own, rfl⟩ := ok
  obtain rfl : o = some l := lead
  rw [testOptLead, testLeadTo_eq] at own
  split_ifs at own with cycle deep
  · exact ⟨cycle, Nat.not_lt.mp deep⟩

theorem crossSectorLead_eq_farSector (s : State) (f : FeedNo) :
    s.crossSectorLead f = s.farSector f (s.feed f).lead := by
  unfold crossSectorLead farSector
  cases (s.feed f).lead <;> rfl

end State

namespace RecordsKept

variable {s t : State}

/-! #### Requests that change a feed's sector or lead -/

theorem applyFeedChange {f : FeedNo} {field : Nat} {v : Int} {c : FeedChange} (ok : s.testSetFeed f field v = .ok c) :
    RecordsKept s (s.applyFeedChange f c) := by
  have kept : ∀ e : FeedEntry, e.lead = (s.feed f).lead → e.sector = (s.feed f).sector →
      ((s.feed f).faultRuled → e.faultRuled) → RecordsKept s (s.setFeed f e) := fun e => setFeed s f
  unfold State.applyFeedChange
  cases c with
  | label x => exact kept _ rfl rfl id
  | tier x => exact kept _ rfl rfl id
  | action x => exact kept _ rfl rfl id
  | bus x => exact (kept { s.feed f with bus := x } rfl rfl id).trans (queueFeed _ f)
  | path x => exact (kept { s.feed f with excessPath := x } rfl rfl id).trans (queueFeed _ f)
  | sector n =>
    obtain ⟨root, alone⟩ := State.testSetFeed_sector_ok ok
    refine .trans ?_ (queueFeed _ f)
    have feed : ∀ g, (s.setFeed f { s.feed f with sector := n }).feed g =
        if g = f then { s.feed f with sector := n } else s.feed g := fun g => s.feed_setFeed_eq f g _
    have lead : ∀ g, ((s.setFeed f { s.feed f with sector := n }).feed g).lead = (s.feed g).lead := fun g => by
      rw [feed]
      split
      · next same => rw [same]
      · rfl
    have sector : ∀ g, g ≠ f → ((s.setFeed f { s.feed f with sector := n }).feed g).sector = (s.feed g).sector :=
      fun g other => by rw [feed, if_neg other]
    refine ⟨id, id, id, fun ruled g => ?_, State.matched_congr rfl fun g => ?_, State.chains_congr lead id⟩
    · rw [feed]
      split
      · exact ruled f
      · exact ruled g
    · refine State.crossSectorLead_congr (lead g) (fun led => sector g fun same => ?_) fun l link =>
        sector l fun same => alone g (same ▸ link)
      rw [same, root] at led
      cases led

/-- One follower's lead written, its dependency entry renewed, and the follower queued. -/
theorem of_lead {f : FeedNo} (others : ∀ g, g ≠ f → t.feed g = s.feed g)
    (sector : (t.feed f).sector = (s.feed f).sector) (faults : (t.feed f).faultRuled)
    (deps : t.deps = State.depsAfter s.deps f (t.farSector f (t.feed f).lead)) (resolver : t.resolver = s.queuedOne f)
    (override : t.override = s.override) (image : t.image = s.image)
    (short : (∀ g, (chainAbove s.leadOf 5 g).length ≤ 4) → ∀ g, (chainAbove t.leadOf 5 g).length ≤ 4) :
    RecordsKept s t where
  queue nodup := by
    rw [QueueSound, resolver]
    exact appendOnce_nodup nodup f
  dependencies few := by
    rw [DependenciesSound, deps]
    exact State.count_depsAfter _ _ _ few
  override h := by rwa [OverrideSound, override]
  faults ruled g := by
    by_cases same : g = f
    · exact same ▸ faults
    · rw [others g same]
      exact ruled g
  matched := by
    have sectors : ∀ g, (t.feed g).sector = (s.feed g).sector := fun g => by
      by_cases same : g = f
      · rw [same, sector]
      · rw [others g same]
    refine State.matched_depsAfter (f := f) (by rw [State.crossSectorLead_eq_farSector, deps]) fun g apart => ?_
    exact State.crossSectorLead_congr (by rw [others g apart]) (fun _ => sectors g) fun l _ => sectors l
  chains h := ⟨short h.1, State.heldImageValid_congr (by rw [image]) h.2⟩

theorem applyLead {i : LeadItems} {p : LeadPlan} (ok : s.testLead i = .ok p) : RecordsKept s (s.applyLead p) := by
  have own := s.feed_applyLead p
  have others : ∀ g, g ≠ p.follower → (s.applyLead p).feed g = s.feed g := fun g => s.feed_applyLead_other p
  have sector : ∀ g, ((s.applyLead p).feed g).sector = (s.feed g).sector := fun g => by
    by_cases same : g = p.follower
    · rw [same, own]; rfl
    · rw [others g same]
  have lead : ((s.applyLead p).feed p.follower).lead = p.lead := by rw [own]
  refine .of_lead others (sector p.follower) (own ▸ (s.feed p.follower).faultRuled_queued) ?_ (s.applyLead_resolver p)
    (by rw [State.applyLead_frame]) (by rw [State.applyLead_frame]) fun short => ?_
  · rw [lead, State.farSector_congr sector, State.applyLead_deps]
  · cases target : p.lead with
    | none =>
      refine State.chains_of_fewer short fun g l link => ?_
      by_cases same : g = p.follower
      · rw [same, lead, target] at link
        cases link
      · rwa [others g same] at link
    | some l =>
      obtain ⟨acyclic, shallow⟩ := State.testLead_ok ok target
      exact State.chains_of_lead short (lead.trans target) (fun g apart => by rw [others g apart]) acyclic shallow

theorem applyClearFeed (s : State) (f : FeedNo) : RecordsKept s (s.applyClearFeed f) := by
  have own := s.feed_applyClearFeed f
  have others : ∀ g, g ≠ f → (s.applyClearFeed f).feed g = s.feed g := fun g => s.feed_applyClearFeed_other f
  refine .of_lead others (by rw [own]) (own ▸ (s.feed f).faultRuled_queued) ?_ (s.applyClearFeed_resolver f)
    (by rw [State.applyClearFeed_frame]) (by rw [State.applyClearFeed_frame]) fun short => ?_
  · rw [own]
    exact s.applyClearFeed_deps f
  · refine State.chains_of_fewer short fun g l link => ?_
    by_cases same : g = f
    · rw [same, own] at link
      cases link
    · rwa [others g same] at link

/-! #### Requests that bind profiles (R43 to R46) -/

/-- A feed's bindings written, the counts and notices following, and the feed queued. -/
theorem rewritten {f : FeedNo} {e : FeedEntry} (same : t.records = (s.setFeed f e).records)
    (lead : e.lead = (s.feed f).lead) (sector : e.sector = (s.feed f).sector)
    (faults : (s.feed f).faultRuled → e.faultRuled) : RecordsKept s (t.queueFeed f) :=
  ((setFeed s f lead sector faults).congr_right same).trans (queueFeed t f)

theorem applyBind (s : State) (p : BindPlan) : RecordsKept s (s.applyBind p) :=
  rewritten ((State.notifyPolicy_records ..).trans (State.replaceReference_records ..)) rfl rfl id

theorem applyUnbind (s : State) (f : FeedNo) : RecordsKept s (s.applyUnbind f) :=
  rewritten (State.dropOptional_records ..) rfl rfl id

theorem applyBindOverride (s : State) (p : BindPlan) : RecordsKept s (s.applyBindOverride p) :=
  rewritten ((State.notifyPolicy_records ..).trans (State.replaceReference_records ..)) rfl rfl id

theorem applyUnbindOverride (s : State) (f : FeedNo) : RecordsKept s (s.applyUnbindOverride f) :=
  rewritten (State.dropOptional_records ..) rfl rfl id

/-! #### Requests on profiles (R36 to R42, R47, R49) -/

theorem applyRetire (s : State) (h : HandleIx) : RecordsKept s (s.applyRetire h) := by
  refine .of_records ?_
  unfold State.applyRetire
  dsimp only
  split
  · split
    · exact s.freeHandle_records h
    · rfl
  all_goals rfl

theorem applyRevive (s : State) (h : HandleIx) : RecordsKept s (s.applyRevive h) := by
  refine .of_records ?_
  unfold State.applyRevive
  dsimp only
  split <;> rfl

theorem applyCreate (s : State) (p : CreatePlan) : RecordsKept s (s.applyCreate p) := by
  refine .of_records ?_
  unfold State.applyCreate State.referToBase
  dsimp only
  split
  · rfl
  · exact State.notifyPolicy_records ..

theorem applyProfileChange (s : State) (h : HandleIx) (c : ProfileChange) :
    RecordsKept s (s.applyProfileChange h c) := by
  unfold State.applyProfileChange
  dsimp only
  split
  · exact (queueFeeds _ _).congr_left rfl
  · exact .of_records rfl

theorem applyEditSections (s : State) (sections : List EqSection) (p : EditPlan) :
    RecordsKept s (s.applyEditSections sections p) := (queueFeeds _ _).congr_left rfl

theorem applyBase (s : State) (p : BasePlan) : RecordsKept s (s.applyBase p) := by
  refine (queueFeeds _ _).congr_left ?_
  unfold State.changeBaseReference
  split
  · exact State.dropOptional_records ..
  · exact (State.notifyPolicy_records ..).trans (State.replaceReference_records ..)

/-! #### Change requests, whole -/

/-- A change request keeps the rules where its effect does, of a state that passes its tests. -/
theorem takeChange (s : State) {α : Type} (test : State → Except Status α)
    (unread : ∀ s w n, test { s with watches := w, notices := n } = test s) (record : α → RecordName)
    {effect : α → State → State} (keeps : ∀ a u, test u = .ok a → RecordsKept u (effect a u)) :
    RecordsKept s (s.takeChange (test s) record effect).1 :=
  State.takeChange_keeps (P := RecordsKept s) (fun u a r k => k.congr_right (u.watchTest_records a r))
    (fun u k => k.congr_right u.afterAbandon_records) (fun u k => k.congr_right u.endWait_records) unread record
    (refl s) fun a u k ok => k.trans (keeps a u ok)

theorem requestLead (s : State) (i : LeadItems) : RecordsKept s (s.requestLead i).1 := by
  unfold State.requestLead
  exact takeChange s (fun s => s.testLead i) (fun s w n => s.testLead_watched w n i) _ fun _ _ => applyLead

theorem requestClearFeed (s : State) (ref : RecordRef) : RecordsKept s (s.requestClearFeed ref).1 := by
  unfold State.requestClearFeed
  exact takeChange s (fun s => s.testClearFeed ref) (fun s w n => s.testClearFeed_watched w n ref) _
    fun f u _ => applyClearFeed u f

theorem requestBind (s : State) (i : BindItems) : RecordsKept s (s.requestBind i).1 := by
  unfold State.requestBind
  exact takeChange s (fun s => s.testBind i) (fun s w n => s.testBind_watched w n i) _ fun p u _ => applyBind u p

theorem requestUnbind (s : State) (ref : RecordRef) : RecordsKept s (s.requestUnbind ref).1 := by
  unfold State.requestUnbind
  exact takeChange s (fun s => s.testUnbind ref) (fun s w n => s.testUnbind_watched w n ref) _
    fun f u _ => applyUnbind u f

theorem requestBindOverride (s : State) (i : BindItems) : RecordsKept s (s.requestBindOverride i).1 := by
  unfold State.requestBindOverride
  exact takeChange s (fun s => s.testBindOverride i) (fun s w n => s.testBindOverride_watched w n i) _
    fun p u _ => applyBindOverride u p

theorem requestUnbindOverride (s : State) (ref : RecordRef) : RecordsKept s (s.requestUnbindOverride ref).1 := by
  unfold State.requestUnbindOverride
  exact takeChange s (fun s => s.testUnbindOverride ref) (fun s w n => s.testUnbindOverride_watched w n ref) _
    fun f u _ => applyUnbindOverride u f

theorem requestRetire (s : State) (ref : RecordRef) : RecordsKept s (s.requestRetire ref).1 := by
  unfold State.requestRetire
  exact takeChange s (fun s => s.testNamed ref) (fun s w n => s.testNamed_watched w n ref) _ fun h u _ => applyRetire u h

theorem requestRevive (s : State) (ref : RecordRef) : RecordsKept s (s.requestRevive ref).1 := by
  unfold State.requestRevive
  exact takeChange s (fun s => s.testNamed ref) (fun s w n => s.testNamed_watched w n ref) _ fun h u _ => applyRevive u h

theorem requestCreate (s : State) (c : ProfileContent) : RecordsKept s (s.requestNew (s.testCreate c)).1 := by
  unfold State.requestNew
  exact takeChange s (fun s => s.testCreate c) (fun s w n => s.testCreate_watched w n c) _ fun p u _ => applyCreate u p

theorem requestClone (s : State) (ref : RecordRef) : RecordsKept s (s.requestNew (s.testClone ref)).1 := by
  unfold State.requestNew
  exact takeChange s (fun s => s.testClone ref) (fun s w n => s.testClone_watched w n ref) _ fun p u _ => applyCreate u p

theorem requestEditSections (s : State) (i : EditSectionsItems) : RecordsKept s (s.requestEditSections i).1 := by
  unfold State.requestEditSections
  exact takeChange s (fun s => s.testEditSections i) (fun s w n => s.testEditSections_watched w n i) _
    fun p u _ => applyEditSections u i.sections p

theorem requestBase (s : State) (i : BaseItems) : RecordsKept s (s.requestBase i).1 := by
  unfold State.requestBase
  exact takeChange s (fun s => s.testBase i) (fun s w n => s.testBase_watched w n i) _ fun p u _ => applyBase u p

theorem setOneFeed (s : State) (f : FeedNo) (field : Nat) (v : Int) : RecordsKept s (s.setOneFeed f field v).1 := by
  unfold State.setOneFeed
  exact takeChange s (fun s => s.testSetFeed f field v) (fun s w n => s.testSetFeed_watched w n f field v) _
    fun _ _ => applyFeedChange

theorem setOneProfile (s : State) (n gen field : Nat) (v : Int) : RecordsKept s (s.setOneProfile n gen field v).1 := by
  unfold State.setOneProfile
  exact takeChange s (fun s => s.testSetProfile n gen field v) (fun s w m => s.testSetProfile_watched w m n gen field v) _
    fun p u _ => applyProfileChange u p.1 p.2

/-! #### SET over several records, and the edits that wait (R61, R160) -/

theorem setFeedsLoop (s : State) (field : Nat) (v : Int) (fs : List FeedNo) (done : Nat) :
    RecordsKept s (setFeedsLoop field v fs done s).1 := by
  induction fs generalizing s done with
  | nil => exact refl s
  | cons f fs ih =>
    have one := setOneFeed s f field v
    unfold Machine.setFeedsLoop
    split
    · next e =>
      rw [e] at one
      exact (one.trans (setCursor _ _)).trans (ih _ _)
    · next e =>
      rw [e] at one
      exact one

theorem setProfilesLoop (s : State) (field : Nat) (v : Int) (ns : List Nat) (named : Option Nat) (done : Nat) :
    RecordsKept s (setProfilesLoop field v ns named done s).1 := by
  induction ns generalizing s named done with
  | nil => exact refl s
  | cons n ns ih =>
    have one := setOneProfile s n (named.getD (s.presentGen .profile n)) field v
    unfold Machine.setProfilesLoop
    dsimp only
    split
    · exact refl s
    · split
      · next e =>
        rw [e] at one
        exact (one.trans (setCursor _ _)).trans (ih _ _ _)
      · next e =>
        rw [e] at one
        exact one

theorem requestSet (s : State) (i : SetItems) : RecordsKept s (s.requestSet i).1 := by
  unfold State.requestSet
  split
  · exact refl s
  · split
    · exact setFeedsLoop s _ _ _ _
    · exact setProfilesLoop s _ _ _ _ _
    all_goals exact refl s

theorem editOrWait (s : State) (ref : RecordRef) (edit : WaitingEdit) {now : State × Answer}
    (edited : RecordsKept s now.1) : RecordsKept s (s.editOrWait ref edit now).1 := by
  unfold State.editOrWait
  split
  · exact refl s
  · exact edited

theorem runEdit (s : State) (e : WaitingEdit) : RecordsKept s (s.runEdit e).1 := by
  cases e with
  | sections i => exact requestEditSections s i
  | base i => exact requestBase s i
  | set job => exact setProfilesLoop s _ _ _ _ _

theorem completeMove (s : State) : RecordsKept s s.completeMove := by
  unfold State.completeMove
  split
  · next m _ =>
    refine .congr_left (s := s) (t := s.settleMove m) ?_ rfl
    refine .congr_right ?_ (State.endMove_records _)
    unfold State.takeWaitingEdit
    split
    · next tag e _ =>
      have edited := runEdit (s.settleMove m) e
      dsimp only
      unfold State.placeEditReply
      split <;> exact edited.congr_right rfl
    · exact refl _
  · exact refl s

end RecordsKept

end Sys2Proof.Machine
end

section
/-! ### Every command keeps the six rules (R7, R11, R75, R83, R133) -/

namespace Sys2Proof.Machine

namespace RecordsKept

variable {s t : State}

/-! #### The Dependency Pool rebuilt, and the tables replaced (R82, R168, R169) -/

theorem dependenciesSound_rebuilt (s : State) : DependenciesSound s.rebuildDependencies := by
  rw [State.rebuildDependencies_eq, DependenciesSound, State.count_rebuiltDependencies]
  exact Nat.min_le_right _ _

theorem dependenciesMatch_rebuilt (s : State) : DependenciesMatch s.rebuildDependencies := by
  rw [State.rebuildDependencies_eq]
  exact State.matched_rebuilt rfl

theorem rebuildDependencies (s : State) : RecordsKept s s.rebuildDependencies := by
  refine ⟨?_, fun _ => dependenciesSound_rebuilt s, ?_, ?_, fun _ => dependenciesMatch_rebuilt s, ?_⟩
  all_goals
    rw [State.rebuildDependencies_eq]
    exact id

theorem requestRebuild (s : State) : RecordsKept s s.requestRebuild.1 := by
  unfold State.requestRebuild
  split
  · exact refl s
  · exact rebuildDependencies s

theorem endLoad (s : State) (o : LoadOutcome) : RecordsKept s (s.endLoad o) :=
  .of_image rfl rfl rfl rfl fun _ => State.heldImageValid_of_none rfl

/-- The feeds of the image, before the pool is rebuilt from them. -/
theorem chains_withTables {g : Image} (consistent : g.consistent = true) (f : FeedNo) :
    (chainAbove (s.withTables g).leadOf 5 f).length ≤ 4 := by
  have lead : (s.withTables g).leadOf = g.leadOf := funext fun f => by rw [State.leadOf, State.feed_withTables]; rfl
  simp only [Image.consistent, Bool.and_eq_true] at consistent
  obtain ⟨⟨⟨⟨-, short⟩, -⟩, -⟩, -⟩ := consistent
  rw [lead]
  exact of_decide_eq_true (List.all_eq_true.mp short f (List.mem_finRange f))

/-- The five rules but the pool's own hold of the tables of a consistent image and an empty queue; the pool is rebuilt
from them. -/
theorem replaceTables (s : State) {g : Image} (consistent : ChainsSound s → g.consistent = true) :
    RecordsKept s (s.replaceTables g) := by
  have emptied : QueueSound { s.withTables g with resolver := { s.resolver with queue := [] } } := List.nodup_nil
  have requeued : RecordsKept { s.withTables g with resolver := { s.resolver with queue := [] } }
      (s.withTables g).requeueAll := queueFeeds _ _
  have rebuilt := rebuildDependencies (s.withTables g).requeueAll
  have ended := endLoad (s.withTables g).requeueAll.rebuildDependencies .loaded
  have kept := requeued.trans (rebuilt.trans ended)
  refine ⟨fun _ => kept.queue emptied,
    fun _ => ended.dependencies (dependenciesSound_rebuilt _), fun h => kept.override h,
    fun _ => kept.faults fun f => ?_, fun _ => ended.matched (dependenciesMatch_rebuilt _),
    fun h => kept.chains ⟨chains_withTables (consistent h), h.2⟩⟩
  show ((s.withTables g).feed f).faultRuled
  rw [State.feed_withTables]
  simp [FeedEntry.faultRuled, FeedEntry.replaced]

theorem finishRead (s : State) (answer : FlashAnswer) : RecordsKept s (s.finishRead answer) := by
  unfold State.finishRead
  dsimp only
  split
  · exact ((endLoad _ _).congr_left rfl).congr_left (s := s) rfl
  · next g valid =>
    have consistent := State.validate_consistent valid
    split
    · exact .of_image rfl rfl rfl rfl fun _ h hh => by cases hh; exact consistent
    · exact (replaceTables _ fun _ => consistent).congr_left rfl

/-! #### Cold start (R170) -/

/-- In reset the six rules hold. -/
theorem of_reset (s : State) (same : t.records = State.reset.records) : RecordsKept s t := by
  obtain ⟨-, -, -, -, -, queue, dependencies, override, faults, matched, chains⟩ := resetIsSound
  have kept := of_records same
  exact ⟨fun _ => kept.queue queue, fun _ => kept.dependencies dependencies, fun _ => kept.override override,
    fun _ => kept.faults faults, fun _ => kept.matched matched, fun _ => kept.chains chains⟩

theorem coldStartEnd (s : State) (startup : StartupPin) {t : State} (h : exec (.coldStartEnd startup) s = .next t) :
    RecordsKept s t := by
  obtain rfl := Host.Outcome.next.inj h
  split
  · refine .trans ?_ (sampleAlarm _)
    refine .of_image rfl rfl rfl rfl fun _ => State.heldImageValid_of_none ?_
    cases startup <;> rfl
  · exact refl s

/-! #### Requests -/

theorem served (s : State) {α : Type} (r : Request α) (formed : α → Bool) {run : α → State → State × Work}
    (keeps : ∀ a u, RecordsKept u (run a u).1) : RecordsKept s (serve r formed run s) :=
  State.serve_keeps (P := RecordsKept s) (fun _ _ k => k.congr_right rfl) r formed (refl s)
    fun a u k => k.trans (keeps a u)

theorem servedNow (s : State) {α : Type} (r : Request α) (formed : α → Bool) {run : α → State → State × Answer}
    (keeps : ∀ a u, RecordsKept u (run a u).1) : RecordsKept s (serveNow r formed run s) :=
  State.serveNow_keeps (P := RecordsKept s) (fun _ _ k => k.congr_right rfl) r formed (refl s)
    fun a u k => k.trans (keeps a u)

/-- A request that the rules do not see. -/
theorem servedElsewhere (s : State) {α : Type} (r : Request α) (formed : α → Bool) {run : α → State → State × Answer}
    (same : ∀ a u, (run a u).1.records = u.records) : RecordsKept s (serveNow r formed run s) :=
  servedNow s r formed fun a u => .of_records (same a u)

/-- A command whose next state is given. -/
theorem of_next {u : State} (h : (Host.Outcome.next u : Result) = .next t) (k : RecordsKept s u) : RecordsKept s t := by
  cases h
  exact k

theorem exec {c : Instr} (h : exec c s = .next t) : RecordsKept s t := by
  cases c with
  | coldStart => exact of_next h (of_reset s rfl)
  | coldStartEnd startup => exact coldStartEnd s startup h
  | alarmAssertion => exact of_next h (setAlarm s true)
  | alarmDeassertion => exact of_next h (setAlarm s false)
  | transactionBegin =>
    refine of_next h (.of_records ?_)
    split
    · rfl
    · unfold State.beginTransaction
      split <;> rfl
  | discardedRequest =>
    refine of_next h (.of_records ?_)
    split
    · split <;> rfl
    · rfl
  | badFrame tag reason =>
    refine of_next h (.of_records ?_)
    split
    · rfl
    · dsimp only
      split <;> exact s.endTransaction_records
  | badCommand tag => exact of_next h (servedElsewhere s _ _ fun _ _ => rfl)
  | nop q => exact of_next h (servedElsewhere s q _ fun _ _ => rfl)
  | status q => exact of_next h (servedElsewhere s q _ fun _ _ => rfl)
  | look q => exact of_next h (servedElsewhere s q _ fun i u => u.look_records i)
  | set q => exact of_next h (served s q _ fun i u => requestSet u i)
  | find q => exact of_next h (servedElsewhere s q _ fun i u => u.find_records i)
  | createProfile q => exact of_next h (servedNow s q _ fun c u => requestCreate u c)
  | clone q => exact of_next h (servedNow s q _ fun ref u => requestClone u ref)
  | editSections q => exact of_next h (served s q _ fun i u => editOrWait u _ _ (requestEditSections u i))
  | base q => exact of_next h (served s q _ fun i u => editOrWait u _ _ (requestBase u i))
  | retire q => exact of_next h (servedNow s q _ fun ref u => requestRetire u ref)
  | revive q => exact of_next h (servedNow s q _ fun ref u => requestRevive u ref)
  | bind q => exact of_next h (servedNow s q _ fun i u => requestBind u i)
  | unbind q => exact of_next h (servedNow s q _ fun ref u => requestUnbind u ref)
  | bindOverride q => exact of_next h (servedNow s q _ fun i u => requestBindOverride u i)
  | unbindOverride q => exact of_next h (servedNow s q _ fun ref u => requestUnbindOverride u ref)
  | lead q => exact of_next h (servedNow s q _ fun i u => requestLead u i)
  | clearFeed q => exact of_next h (servedNow s q _ fun ref u => requestClearFeed u ref)
  | hold q => exact of_next h (servedElsewhere s q _ fun set u => u.changeHolds_records set true)
  | release q => exact of_next h (servedElsewhere s q _ fun set u => u.changeHolds_records set false)
  | engage q => exact of_next h (servedNow s q _ fun _ u => changeSources u _ _)
  | disengage q => exact of_next h (servedNow s q _ fun _ u => changeSources u _ _)
  | compactStart q => exact of_next h (servedElsewhere s q _ fun _ u => u.requestCompactStart_records)
  | compactStop q => exact of_next h (servedElsewhere s q _ fun _ u => u.requestCompactStop_records)
  | rebuildDependencies q => exact of_next h (servedNow s q _ fun _ u => requestRebuild u)
  | save q => exact of_next h (servedElsewhere s q _ fun _ u => u.requestSave_records)
  | load q => exact of_next h (servedElsewhere s q _ fun _ u => u.requestLoad_records)
  | watchSet q => exact of_next h (servedNow s q _ fun i u => requestWatchSet u i)
  | watchClear q => exact of_next h (servedNow s q _ fun n u => requestWatchClear u n)
  | readWatch q => exact of_next h (servedElsewhere s q _ fun n u => u.requestReadWatch_records n)
  | sensorSet q => exact of_next h (servedElsewhere s q _ fun i u => u.requestSensorSet_records i)
  | sectorSet q => exact of_next h (servedNow s q _ fun i u => requestSectorSet u i)
  | policySet q => exact of_next h (servedElsewhere s q _ fun cs u => u.requestPolicySet_records cs)
  | crossStandSet q => exact of_next h (servedElsewhere s q _ fun v u => u.requestCrossStandSet_records v)
  | readNotices q => exact of_next h (servedElsewhere s q _ fun _ _ => rfl)
  | clearNotices q => exact of_next h (servedElsewhere s q _ fun _ _ => rfl)
  | noticeMask q => exact of_next h (servedElsewhere s q _ fun m u => u.changeMask_records m)
  | blockBoundary =>
    refine of_next h (.of_records ?_)
    split
    · rfl
    · exact s.boundary_records
  | transitionComplete f =>
    refine of_next h (.of_records ?_)
    dsimp only
    split
    · split <;> rfl
    · rfl
  | sinceChangeTick n =>
    refine of_next h (.of_records ?_)
    dsimp only
    split
    · split <;> rfl
    · rfl
  | conversionStart n =>
    refine of_next h (.of_records ?_)
    dsimp only
    split <;> rfl
  | readingComplete n code =>
    refine of_next h ?_
    dsimp only
    split
    · exact .of_records rfl
    · split
      · exact (applyReading _ _ _).congr_left rfl
      · exact refl s
  | resolutionStart =>
    refine of_next h ?_
    split
    · next head => exact resolutionStart head _
    · exact refl s
  | resolutionComplete =>
    refine of_next h ?_
    split
    · exact refl s
    · split
      · exact clearInFlight s
      · exact (clearInFlight s).trans (concludeResolution _ _)
  | moveComplete => exact of_next h (completeMove s)
  | deferredEdit =>
    refine of_next h ?_
    split
    · exact completeMove s
    · exact refl s
  | saveComplete readBack =>
    refine of_next h ?_
    split
    · exact .of_image rfl rfl rfl rfl fun _ => State.heldImageValid_of_none rfl
    all_goals exact refl s
  | loadReadComplete answer =>
    refine of_next h ?_
    split
    · exact finishRead s answer
    all_goals exact refl s
  | heldLoadReplacement =>
    refine of_next h ?_
    split
    · next g held =>
      split
      · exact refl s
      · exact replaceTables s fun chains => chains.2 g held
    all_goals exact refl s
  | startupWaitExpiry =>
    refine of_next h ?_
    split
    · exact .of_image rfl rfl rfl rfl fun _ => State.heldImageValid_of_none rfl
    all_goals exact refl s
  | replyPlacement =>
    refine of_next h (.of_records ?_)
    split <;> rfl

end RecordsKept

/-- Settles O60: leads and sectors change in LEAD, CLEAR FEED, SET and a load alone, and each of these renews the entries
that depend on them. -/
theorem recordsStaySound : Obligations.RecordsStaySound := by
  unfold Obligations.RecordsStaySound
  intro s t h
  have kept : RecordsKept s t := by
    unfold step at h
    split at h
    · cases h
      exact .refl s
    · next c rest _ => exact (RecordsKept.exec h).congr_left rfl
  exact ⟨kept.queue, kept.dependencies, kept.override, kept.faults, kept.matched, kept.chains⟩

end Sys2Proof.Machine
end

section
/-! ### From conversion code to temperature (R102, R103) -/

namespace Sys2Proof.Machine

theorem roundDiv_mul {d : Int} (pos : 0 < d) (q : Int) : roundDiv (d * q) d = q := by
  obtain ⟨near, -⟩ := roundDiv_rounds (d * q) pos
  rw [← mul_sub, abs_mul, abs_of_pos pos] at near
  by_contra apart
  have one : 1 ≤ |q - roundDiv (d * q) d| := Int.one_le_abs (sub_ne_zero.mpr (Ne.symm apart))
  nlinarith

/-! #### The segments of the BRIDGE curve (R103) -/

section

variable {x gain : Int} {low high : Int × Int} (pos : 0 < gain) (rises : low.1 < high.1)

include pos rises

theorem segment_width_pos : 0 < gain * (high.1 - low.1) := mul_pos pos (by omega)

theorem onSegment_at_low : onSegment (low.1 * gain) gain low high = low.2 := by
  rw [onSegment, sub_self, zero_mul, add_zero, mul_comm low.2, roundDiv_mul (segment_width_pos pos rises)]

theorem onSegment_at_high : onSegment (high.1 * gain) gain low high = high.2 := by
  have numerator : low.2 * (gain * (high.1 - low.1)) + (high.1 * gain - low.1 * gain) * (high.2 - low.2) =
      gain * (high.1 - low.1) * high.2 := by ring
  rw [onSegment, numerator, roundDiv_mul (segment_width_pos pos rises)]

end

/-- Whichever segment serves u, a segment whose ends bound u gives the same temperature: where two segments meet, both
give that of the point (R103). -/
theorem onSegment_of_bounds {x gain : Int} (pos : 0 < gain) {points : List (Int × Int)}
    (rises : points.Pairwise fun a b => a.1 < b.1) {k : Nat} {low high : Int × Int} (atLow : points[k]? = some low)
    (atHigh : points[k + 1]? = some high) (left : k = 0 ∨ low.1 * gain ≤ x)
    (right : k + 2 = points.length ∨ x ≤ high.1 * gain) :
    ∃ a b, bridgeSegment x gain points = some (a, b) ∧ onSegment x gain a b = onSegment x gain low high := by
  induction points generalizing k with
  | nil => cases atLow
  | cons a points ih =>
    cases points with
    | nil => cases atHigh
    | cons b rest =>
      rw [List.pairwise_cons] at rises
      obtain ⟨first, later⟩ := rises
      have above : ∀ c ∈ rest, b.1 < c.1 := (List.pairwise_cons.mp later).1
      cases serves : rest.isEmpty || decide (x ≤ b.1 * gain) with
      | true =>
        have served : bridgeSegment x gain (a :: b :: rest) = some (a, b) := by rw [bridgeSegment, if_pos serves]
        rw [Bool.or_eq_true, List.isEmpty_iff, decide_eq_true_iff] at serves
        match k, left with
        | 0, _ =>
          cases atLow
          cases atHigh
          exact ⟨_, _, served, rfl⟩
        | 1, left =>
          cases atLow
          have next : high ∈ rest := List.mem_of_getElem? (i := 0) atHigh
          have meets : x = low.1 * gain :=
            le_antisymm (serves.resolve_left (List.ne_nil_of_mem next)) (left.resolve_left one_ne_zero)
          refine ⟨_, _, served, ?_⟩
          rw [meets, onSegment_at_high pos (first low List.mem_cons_self), onSegment_at_low pos (above high next)]
        | k + 2, left =>
          have beyond : low ∈ rest := List.mem_of_getElem? (i := k) atLow
          have low_le := left.resolve_left (Nat.succ_ne_zero _)
          have le_b := serves.resolve_left (List.ne_nil_of_mem beyond)
          exact absurd (above low beyond) (not_lt.mpr (le_of_mul_le_mul_right (low_le.trans le_b) pos))
      | false =>
        have goesOn : bridgeSegment x gain (a :: b :: rest) = bridgeSegment x gain (b :: rest) := by
          rw [bridgeSegment, if_neg (by simp [serves])]
        rw [Bool.or_eq_false_iff, List.isEmpty_eq_false_iff, decide_eq_false_iff_not] at serves
        obtain ⟨more, past⟩ := serves
        cases k with
        | zero =>
          cases atHigh
          rcases right with last | within
          · exact absurd (List.length_eq_zero_iff.mp (by simpa using last.symm)) more
          · exact absurd within past
        | succ k =>
          rw [goesOn]
          refine ih later atLow atHigh (.inr (left.resolve_left (Nat.succ_ne_zero _))) (right.imp_left fun last => ?_)
          simpa using last

theorem bridgeCurve_rises : bridgeCurve.Pairwise fun a b => a.1 < b.1 := by decide

theorem bridgeCurve_steps : bridgeCurve.IsChain fun a b => b.2 - a.2 = 100 := by decide

theorem bridgeCurve_step {k : Nat} {low high : Int × Int} (atLow : bridgeCurve[k]? = some low)
    (atHigh : bridgeCurve[k + 1]? = some high) : low.1 < high.1 ∧ high.2 - low.2 = 100 := by
  obtain ⟨_, rfl⟩ := List.getElem?_eq_some_iff.mp atLow
  obtain ⟨inside, rfl⟩ := List.getElem?_eq_some_iff.mp atHigh
  have rises := List.pairwise_iff_getElem.mp bridgeCurve_rises k (k + 1) (by omega) inside (Nat.lt_succ_self k)
  exact ⟨rises, bridgeCurve_steps.getElem k inside⟩

/-! #### The temperature of a reading (R102, R103) -/

variable {g : ChannelConfig}

theorem readingTemp_linear (linear : g.probe = .linear) (c : Int) :
    readingTemp g c = roundDiv (inputReferred g c) g.gain := by
  simp [readingTemp, linear]

theorem readingTemp_bridge (bridge : g.probe = .bridge) {c : Int} {a b : Int × Int}
    (served : bridgeSegment (inputReferred g c) g.gain bridgeCurve = some (a, b)) :
    readingTemp g c = onSegment (inputReferred g c) g.gain a b := by
  simp [readingTemp, bridge, served]

theorem readingTemp_linear_rounds (linear : g.probe = .linear) (pos : 0 < g.gain) (c : Int) :
    RoundsTo (inputReferred g c) g.gain (readingTemp g c) := by
  rw [readingTemp_linear linear]
  exact roundDiv_rounds _ (by omega)

theorem readingTemp_bridge_rounds (bridge : g.probe = .bridge) (pos : 0 < g.gain) {c : Int} {k : Nat}
    {low high : Int × Int} (atLow : bridgeCurve[k]? = some low) (atHigh : bridgeCurve[k + 1]? = some high)
    (left : k = 0 ∨ low.1 * g.gain ≤ inputReferred g c) (right : k = 8 ∨ inputReferred g c ≤ high.1 * g.gain) :
    RoundsTo (low.2 * (g.gain * (high.1 - low.1)) + (inputReferred g c - low.1 * g.gain) * 100)
      (g.gain * (high.1 - low.1)) (readingTemp g c) := by
  have gain : (0 : Int) < g.gain := by omega
  obtain ⟨rises, step⟩ := bridgeCurve_step atLow atHigh
  obtain ⟨a, b, served, same⟩ := onSegment_of_bounds gain bridgeCurve_rises atLow atHigh left
    (right.imp_left fun last => by rw [last]; rfl)
  rw [readingTemp_bridge bridge served, same, onSegment, step]
  exact roundDiv_rounds _ (segment_width_pos gain rises)

end Sys2Proof.Machine
end

section
/-! ### Readings, and the seconds since a speed change (R101, R104, R105, R107) -/

theorem Sys2Proof.Table.upd_upd {α : Type} {n : Nat} (t : Table α n) (i : Fin n) (x y : α) :
    (t.upd i x).upd i y = t.upd i y := by
  simp [upd]

namespace Sys2Proof.Machine

/-- The window after a plausible reading holds the last eight (R105). -/
theorem pushReading_eq {w : List Int} (held : w.length ≤ 8) (t : Int) :
    pushReading w t = if w.length = 8 then w.tail ++ [t] else w ++ [t] := by
  have length : (w ++ [t]).length = w.length + 1 := by simp
  unfold pushReading
  dsimp only
  rw [length]
  by_cases full : w.length = 8
  · rw [if_pos full, if_pos (by omega), List.tail_append_of_ne_nil (by rintro rfl; cases full)]
  · rw [if_neg full, if_neg (by omega)]

theorem pushReading_ne_nil (w : List Int) (t : Int) : pushReading w t ≠ [] := by
  unfold pushReading
  cases w with
  | nil => simp
  | cons a w => dsimp only; split <;> simp

theorem stateAfterReading_eq (st : ChannelState) (w : List Int) :
    stateAfterReading st w = if st = .valid ∨ w.length = 8 then .valid else .warming := by
  cases st <;> simp [stateAfterReading]

theorem Channel.accept_eq {c : Channel} (held : c.window.length ≤ 8) (code t : Int) :
    c.accept code t =
      let w := if c.window.length = 8 then c.window.tail ++ [t] else c.window ++ [t]
      { c with
        lastCode := some code, window := w, average := some (roundDiv w.sum w.length)
        state := if c.state = .valid ∨ w.length = 8 then .valid else .warming } := by
  have nonempty := pushReading_ne_nil c.window t
  unfold accept
  dsimp only
  rw [meanOf_eq, if_neg nonempty, stateAfterReading_eq, pushReading_eq held]

theorem conversionCode_eq (m : Int) :
    conversionCode m = if m < -2048 then -2048 else if 2047 < m then 2047 else m := rfl

theorem atRangeEnd_conversionCode (m : Int) : atRangeEnd (conversionCode m) = true ↔ m ≤ -2048 ∨ 2047 ≤ m := by
  rw [conversionCode_eq, atRangeEnd, Bool.or_eq_true, decide_eq_true_iff, decide_eq_true_iff]
  split_ifs <;> omega

theorem plausible_iff {t : Int} : plausible t = true ↔ -300 ≤ t ∧ t ≤ 600 := by simp [plausible]

namespace State

variable {s : State} {k : ChannelNo}

theorem setChannel_setChannel (s : State) (k : ChannelNo) (c d : Channel) :
    (s.setChannel k c).setChannel k d = s.setChannel k d := by
  simp [setChannel, Table.upd_upd]

/-- A reading that is rejected (R104). -/
theorem applyReading_rejected {code : Int}
    (rejected : atRangeEnd code = true ∨ plausible (readingTemp (s.channel k).config code) = false) :
    s.applyReading k code = ((s.setChannel k ((s.channel k).reject code)).raise
      (.sensorFault (.channel k))).evaluateOptional (s.channel k).config.sector := by
  unfold applyReading
  dsimp only
  rw [if_pos (by simpa using rejected)]

/-- A plausible reading (R105). -/
theorem applyReading_accepted {code : Int} (inside : atRangeEnd code = false)
    (plausible : plausible (readingTemp (s.channel k).config code) = true) :
    s.applyReading k code = (s.setChannel k ((s.channel k).accept code
      (readingTemp (s.channel k).config code))).evaluateOptional (s.channel k).config.sector := by
  unfold applyReading
  dsimp only
  rw [if_neg (by simp [inside, plausible])]

end State

variable {s : State} {k : ChannelNo} {measured : Int}

theorem exec_readingComplete_void {x : Reading} (reading : (s.channel k).reading = some x) (void : x.void = true) :
    exec (.readingComplete k measured) s = .next (s.setChannel k { s.channel k with reading := none }) := by
  have left : (s.channel k).readingVoid = true := by rw [Channel.readingVoid, reading]; exact void
  exact congrArg Host.Outcome.next (if_pos left)

theorem exec_readingComplete_enabled {x : Reading} (reading : (s.channel k).reading = some x) (valid : x.void = false)
    (enabled : (s.channel k).config.enabled = true) :
    exec (.readingComplete k measured) s =
      .next ((s.setChannel k { s.channel k with reading := none }).applyReading k (conversionCode measured)) := by
  have effective : ¬ (s.channel k).readingVoid = true := by simp [Channel.readingVoid, reading, valid]
  have ended : (s.channel k).endReading = { s.channel k with reading := none } := by rw [Channel.endReading, reading]
  rw [← ended]
  exact congrArg Host.Outcome.next ((if_neg effective).trans (if_pos enabled))

theorem exec_conversionStart_begins (enabled : (s.channel k).config.enabled = true)
    (free : (s.channel k).reading = none) :
    exec (.conversionStart k) s = .next (s.setChannel k { s.channel k with
      reading := some ⟨75, false⟩, toNext := (s.channel k).toNext + (s.channel k).config.interval * 1500 }) :=
  congrArg Host.Outcome.next (if_pos (by simp [enabled, free]))

theorem exec_conversionStart_refused
    (refused : (s.channel k).config.enabled = false ∨ (s.channel k).reading.isSome = true) :
    exec (.conversionStart k) s = .next s := by
  refine congrArg Host.Outcome.next (if_neg ?_)
  rcases refused with disabled | busy
  · simp [disabled]
  · simp [Option.isNone_eq_false_iff.mpr busy]

theorem exec_sinceChangeTick {n : SectorNo} {past : Nat} (since : (s.sector n).sinceChange = some past) :
    exec (.sinceChangeTick n) s = .next (if 1500 ≤ (s.sector n).blocks then s.setSector n { s.sector n with
      sinceChange := some (min 65535 (past + 1)), blocks := (s.sector n).blocks - 1500 } else s) := by
  show execSinceChangeTick n s = _
  unfold execSinceChangeTick
  dsimp only
  rw [since]
  rfl

/-- Settles O41: every segment whose ends bound u gives the reading's temperature, and a reading is void, rejected or
accepted. -/
theorem readingsAndClocks : Obligations.ReadingsAndClocks := by
  unfold Obligations.ReadingsAndClocks
  refine ⟨fun g c pos => ⟨fun linear => readingTemp_linear_rounds linear pos c,
      fun bridge k low high atLow atHigh left right => readingTemp_bridge_rounds bridge pos atLow atHigh left right⟩,
    fun s k measured x reading => ?_,
    fun s k => ⟨exec_conversionStart_begins, exec_conversionStart_refused⟩, fun s n past since => ?_⟩
  · intro c landed code temp window evaluated
    have channel : (s.setChannel k landed).channel k = landed := s.channel_setChannel k landed
    have stored (d : Channel) : (s.setChannel k landed).setChannel k d = s.setChannel k d :=
      s.setChannel_setChannel k landed d
    have evaluates (u : State) : evaluated u = u.evaluateOptional c.config.sector := by
      cases sector : c.config.sector <;> simp [evaluated, sector, State.evaluateOptional]
    refine ⟨exec_readingComplete_void reading, fun valid enabled held => ?_⟩
    rw [exec_readingComplete_enabled reading valid enabled, evaluates]
    refine ⟨fun rejected => ?_, fun low high cold hot => ?_⟩
    · rw [State.applyReading_rejected, channel, stored]
      · rfl
      · rw [channel, atRangeEnd_conversionCode, Bool.eq_false_iff, ne_eq, plausible_iff]
        change _ ∨ ¬ (-300 ≤ temp ∧ temp ≤ 600)
        omega
    · have inside : conversionCode measured = measured := by
        rw [conversionCode_eq, if_neg (by omega), if_neg (by omega)]
      have same : code = measured := inside
      rw [State.applyReading_accepted, channel, stored, Channel.accept_eq (c := landed) held, evaluates, inside]
      · simp only [window, temp, same]
        rfl
      · rw [Bool.eq_false_iff, ne_eq, atRangeEnd_conversionCode]
        omega
      · rw [channel, plausible_iff]
        exact ⟨cold, hot⟩
  · rw [exec_sinceChangeTick since]
    refine ⟨fun whole => ?_, fun part => by rw [if_neg (by omega)]⟩
    have stops : min 65535 (past + 1) = if 65535 ≤ past then 65535 else past + 1 := by split_ifs <;> omega
    rw [if_pos whole, stops]

end Sys2Proof.Machine
end

section
/-! ### The evaluation of a sector (R109, R110, R111, R112, R113) -/

namespace Sys2Proof.Machine

/-! #### Status evaluations (R109, R111) -/

/-- A sector whose sensed temperature and status have been formed from the averages of its VALID channels. -/
def Sector.evaluated (e : Sector) (averages : List Int) : Sector :=
  { e with sensedTemp := meanOf averages, status := statusFor e.config.mode (meanOf averages) }

theorem Sector.evaluated_fixed {e : Sector} (fixed : e.config.mode = .fixed) (averages : List Int) :
    e.evaluated averages = { e with sensedTemp := meanOf averages, status := .fixed } := by
  rw [evaluated, fixed]
  rfl

theorem Sector.evaluated_degraded {e : Sector} (sensed : e.config.mode = .sensed) :
    e.evaluated [] = { e with sensedTemp := none, status := .degraded } := by
  rw [evaluated, sensed]
  rfl

theorem Sector.evaluated_tracking {e : Sector} (sensed : e.config.mode = .sensed) {averages : List Int}
    (valid : averages ≠ []) :
    e.evaluated averages =
      { e with sensedTemp := some (roundDiv averages.sum averages.length), status := .tracking } := by
  rw [evaluated, sensed, meanOf_eq, if_neg valid]
  rfl

theorem Sector.evaluated_eq (e : Sector) (averages : List Int) : e.evaluated averages =
    { e with
      sensedTemp := if averages = [] then none else some (roundDiv averages.sum averages.length)
      status := if e.config.mode = .fixed then .fixed else if averages = [] then .degraded else .tracking } := by
  cases mode : e.config.mode with
  | fixed => rw [evaluated_fixed mode, meanOf_eq, if_pos rfl]
  | sensed =>
    rw [if_neg nofun]
    split
    · next empty => rw [empty, evaluated_degraded mode]
    · next valid => rw [evaluated_tracking mode valid]

theorem Sector.evaluated_degraded_iff (e : Sector) (averages : List Int) :
    (e.evaluated averages).status = .degraded ↔ e.config.mode = .sensed ∧ averages = [] := by
  rw [evaluated_eq]
  cases e.config.mode <;> by_cases empty : averages = [] <;> simp [empty]

namespace State

variable {s : State} {n : SectorNo}

theorem validAverages_eq (s : State) (n : SectorNo) : s.validAverages n = (List.finRange 8).filterMap fun k =>
    if (s.channel k).config.sector = some n ∧ (s.channel k).state = .valid then (s.channel k).average else none := by
  simp only [validAverages, Bool.and_eq_true, decide_eq_true_iff]
  rfl

theorem setSector_setSector (s : State) (n : SectorNo) (e d : Sector) :
    (s.setSector n e).setSector n d = s.setSector n d := by
  simp [setSector, Table.upd_upd]

/-- The notices once a status evaluation has noted a change to DEGRADED (R111). -/
def degradationNoted (s : State) (n : SectorNo) : Notices :=
  if ((s.sector n).config.mode = .sensed ∧ s.validAverages n = []) ∧ (s.sector n).status ≠ .degraded then
    s.notices.raise (.sensorFault (.sector n))
  else s.notices

theorem statusEvaluation_eq (s : State) (n : SectorNo) : s.statusEvaluation n =
    { s.setSector n ((s.sector n).evaluated (s.validAverages n)) with notices := s.degradationNoted n } := by
  have degraded := (s.sector n).evaluated_degraded_iff (s.validAverages n)
  unfold statusEvaluation degradationNoted
  simp only [Sector.evaluated] at degraded ⊢
  simp only [← degraded, Bool.and_eq_true, decide_eq_true_iff]
  split <;> rfl

theorem sector_statusEvaluation (s : State) (n : SectorNo) :
    (s.statusEvaluation n).sector n = (s.sector n).evaluated (s.validAverages n) := by
  rw [statusEvaluation_eq]
  exact s.sector_setSector n _

theorem degradationNoted_of_tracking (tracking : ¬ ((s.sector n).config.mode = .sensed ∧ s.validAverages n = [])) :
    s.degradationNoted n = s.notices := if_neg fun noted => tracking noted.1

theorem degradationNoted_of_degraded (sensed : (s.sector n).config.mode = .sensed) (empty : s.validAverages n = []) :
    s.degradationNoted n =
      if (s.sector n).status = .degraded then s.notices else s.notices.raise (.sensorFault (.sector n)) := by
  rw [degradationNoted, ← ite_not]
  simp [sensed, empty]

theorem statusEvaluation_of_tracking (tracking : ¬ ((s.sector n).config.mode = .sensed ∧ s.validAverages n = [])) :
    s.statusEvaluation n = s.setSector n ((s.sector n).evaluated (s.validAverages n)) := by
  rw [statusEvaluation_eq, degradationNoted_of_tracking tracking]
  rfl

end State

/-! #### The speed test (R110, R112, R113) -/

theorem Sector.settled_iff (e : Sector) : e.settled = true ↔
    e.deferred = true ∨ ∀ past, e.sinceChange = some past → e.config.settle ≤ past := by
  unfold settled
  cases e.sinceChange <;> simp

theorem Sector.testPasses_iff (e : Sector) (c : Int) : e.testPasses c = true ↔
    (e.awaitingFix = true ∧ c ≠ e.speed) ∨
      ((e.config.hysteresis : Int) ≤ |c - e.speed| ∧
        (e.deferred = true ∨ ∀ past, e.sinceChange = some past → e.config.settle ≤ past)) := by
  rw [← settled_iff, Int.abs_eq_natAbs, Int.ofNat_le, testPasses]
  simp only [Bool.or_eq_true, Bool.and_eq_true, decide_eq_true_iff]

namespace State

variable {s : State} {n : SectorNo} {e : Sector} {t : Int}

theorem changeSpeed_setSector (s : State) (n : SectorNo) (e : Sector) (c : Int) :
    (s.setSector n e).changeSpeed n c = (s.setSector n (e.changeSpeed c)).queueFeeds (s.feedsOfSector n) := by
  rw [changeSpeed, sector_setSector, setSector_setSector]
  rfl

theorem speedTest_changes (passes : e.testPasses (speedAt t) = true) (clear : s.override.state = .clear) :
    (s.setSector n e).speedTest n t =
      (s.setSector n ({ e with deferred := false }.changeSpeed (speedAt t))).queueFeeds (s.feedsOfSector n) := by
  unfold speedTest
  simp only [sector_setSector, setSector_override, passes, clear, setSector_setSector, changeSpeed_setSector]

theorem speedTest_defers (passes : e.testPasses (speedAt t) = true) (engaged : s.override.state = .engaged) :
    (s.setSector n e).speedTest n t = s.setSector n { e with deferred := true } := by
  unfold speedTest
  simp only [sector_setSector, setSector_override, passes, engaged, setSector_setSector]

theorem speedTest_keeps_clear (fails : e.testPasses (speedAt t) = false) (clear : s.override.state = .clear) :
    (s.setSector n e).speedTest n t = s.setSector n { e.afterFailedTest (speedAt t) with deferred := false } := by
  unfold speedTest
  simp only [sector_setSector, setSector_override, fails, clear, setSector_setSector]

theorem speedTest_keeps_engaged (fails : e.testPasses (speedAt t) = false) (engaged : s.override.state = .engaged) :
    (s.setSector n e).speedTest n t = s.setSector n (e.afterFailedTest (speedAt t)) := by
  unfold speedTest
  simp only [sector_setSector, setSector_override, fails, engaged, setSector_setSector]

/-! #### Full evaluations (R109) -/

theorem fullEvaluation_fixed (fixed : (s.sector n).config.mode = .fixed) :
    s.fullEvaluation n = s.statusEvaluation n := by
  unfold fullEvaluation
  dsimp only
  rw [sector_statusEvaluation, Sector.evaluated_fixed fixed, fixed]

theorem fullEvaluation_degraded (sensed : (s.sector n).config.mode = .sensed) (empty : s.validAverages n = []) :
    s.fullEvaluation n = s.statusEvaluation n := by
  unfold fullEvaluation
  dsimp only
  rw [sector_statusEvaluation, empty, Sector.evaluated_degraded sensed, sensed]

theorem fullEvaluation_tracking (sensed : (s.sector n).config.mode = .sensed) (valid : s.validAverages n ≠ []) :
    s.fullEvaluation n = (s.setSector n ((s.sector n).evaluated (s.validAverages n))).speedTest n
      (roundDiv (s.validAverages n).sum (s.validAverages n).length) := by
  unfold fullEvaluation
  dsimp only
  rw [sector_statusEvaluation, Sector.evaluated_tracking sensed valid, sensed,
    statusEvaluation_of_tracking fun degraded => valid degraded.2, Sector.evaluated_tracking sensed valid]

end State

/-- Settles O42: a full evaluation is a status evaluation, followed by the speed test where a VALID channel gives a
temperature in SENSED mode. -/
theorem sectorEvaluated : Obligations.SectorEvaluated := by
  unfold Obligations.SectorEvaluated
  intro s n e averages t
  refine ⟨fun fixed => ?_, fun sensed empty => ?_, fun sensed valid => ?_⟩
  · have tracking : ¬ ((s.sector n).config.mode = .sensed ∧ s.validAverages n = []) := fun degraded => by
      rw [fixed] at degraded
      cases degraded.1
    exact (State.fullEvaluation_fixed fixed).trans
      ((State.statusEvaluation_of_tracking tracking).trans (by rw [Sector.evaluated_fixed fixed]))
  · have degraded : (s.sector n).evaluated (s.validAverages n) = { e with sensedTemp := none, status := .degraded } :=
      (congrArg _ empty).trans (Sector.evaluated_degraded sensed)
    refine (State.fullEvaluation_degraded sensed empty).trans ?_
    rw [State.statusEvaluation_eq, State.degradationNoted_of_degraded sensed empty, degraded]
  · intro temp c tracked settled passes awaiting
    have whole : t = (s.setSector n tracked).speedTest n temp :=
      (State.fullEvaluation_tracking sensed valid).trans (by rw [Sector.evaluated_tracking sensed valid])
    have tested : tracked.testPasses c = true ↔ passes := tracked.testPasses_iff c
    rw [whole]
    refine ⟨fun pass clear => ?_, fun pass engaged => ?_, fun fail clear => ?_, fun fail engaged => ?_⟩
    · exact State.speedTest_changes (tested.mpr pass) clear
    · exact State.speedTest_defers (tested.mpr pass) engaged
    · exact State.speedTest_keeps_clear (Bool.eq_false_iff.mpr (mt tested.mp fail)) clear
    · exact State.speedTest_keeps_engaged (Bool.eq_false_iff.mpr (mt tested.mp fail)) engaged

end Sys2Proof.Machine
end

section
/-! ### SENSOR SET and SECTOR SET: the names and the supplied fields (R106, R107, R114, R153, R156) -/

namespace Sys2Proof.Machine

/-- A value that a request may leave out is tested only where it is supplied (R154). -/
theorem optAll_iff {α : Type} {p : α → Bool} {o : Option α} : optAll p o = true ↔ ∀ x, o = some x → p x = true := by
  cases o <;> simp [optAll]

namespace State

/-- A reference in the place of a record of class `cls`, whose numbers stay below `bound` (R156). -/
def refBelow (s : State) (cls : RecordClass) (bound : Nat) (ref : RecordRef) : Except Status (Fin bound) := do
  let t ← s.resolve ref
  requireClass t cls
  if h : t.number < bound then return ⟨t.number, h⟩ else throw .outOfRange

theorem refSector_eq (s : State) (ref : RecordRef) : s.refSector ref = s.refBelow .sector 16 ref := rfl

theorem refSensor_eq (s : State) (ref : RecordRef) : s.refSensor ref = s.refBelow .sensor 8 ref := rfl

theorem refBelow_error {s : State} {cls : RecordClass} {bound : Nat} {ref : RecordRef} {st : Status}
    (bad : s.resolve ref = .error st) : s.refBelow cls bound ref = .error st := by
  rw [refBelow, bad]
  rfl

theorem refBelow_of_resolve {s : State} {cls : RecordClass} {bound : Nat} {ref : RecordRef} {t : Target}
    (resolved : s.resolve ref = .ok t) : s.refBelow cls bound ref =
      if t.cls = cls then if low : t.number < bound then .ok ⟨t.number, low⟩ else .error .outOfRange
      else .error .noReference := by
  rw [refBelow, resolved, except_ok_bind, requireClass, require_bind]
  simp only [decide_eq_true_iff]
  rfl

/-- What a reference yields in the place of a record that carries no generation (R156). -/
theorem refBelow_yields (s : State) (cls : RecordClass) (bound : Nat) (ref : RecordRef) :
    (∀ st, s.resolve ref = .error st → s.refBelow cls bound ref = .error st) ∧
    ∀ t, s.resolve ref = .ok t →
      (t.cls ≠ cls → s.refBelow cls bound ref = .error .noReference) ∧
      (t.cls = cls → bound ≤ t.number → s.refBelow cls bound ref = .error .outOfRange) ∧
      ∀ n : Fin bound, t.cls = cls → t.number = n.val → s.refBelow cls bound ref = .ok n := by
  refine ⟨fun st bad => refBelow_error bad, fun t resolved => ?_⟩
  rw [refBelow_of_resolve resolved]
  refine ⟨fun other => if_neg other, fun same outside => ?_, fun n same number => ?_⟩
  · rw [if_pos same, dif_neg (Nat.not_lt.mpr outside)]
  · rw [if_pos same, dif_pos (number ▸ n.isLt)]
    exact congrArg Except.ok (Fin.ext number)

end State

/-! #### The values of R106 and of R107 -/

theorem optSectorNo_val (n : SectorNo) : optSectorNo (some n.val) = some n := dif_pos n.isLt

theorem gainAllowed_iff {n : Nat} : gainAllowed n = true ↔ n = 1 ∨ n = 2 ∨ n = 4 ∨ n = 8 := by
  simp [gainAllowed, or_assoc]

theorem sensorValuesAllowed_iff {i : SensorSetItems} {g : ChannelConfig} : sensorValuesAllowed i g = true ↔
    (∀ x, i.gain = some x → x = 1 ∨ x = 2 ∨ x = 4 ∨ x = 8) ∧ (∀ x, i.offsetTrim = some x → -15 ≤ x ∧ x ≤ 15) ∧
    (∀ x, i.interval = some x → 1 ≤ x ∧ x ≤ 60) ∧ (∀ x, i.sector = some (some x) → x ≤ 15) ∧
    (sensorApplied i g).positive ≠ (sensorApplied i g).negative := by
  have sector : optAll (optAll fun n => n ≤ 15) i.sector = true ↔ ∀ x, i.sector = some (some x) → x ≤ 15 := by
    simp only [optAll_iff, decide_eq_true_iff]
    exact ⟨fun all x supplied => all _ supplied x rfl, fun all y supplied x same => all x (same ▸ supplied)⟩
  rw [sensorValuesAllowed, Bool.and_eq_true, Bool.and_eq_true, Bool.and_eq_true, Bool.and_eq_true, sector]
  simp only [optAll_iff, gainAllowed_iff, inRangeInt, Bool.and_eq_true, decide_eq_true_iff, and_assoc]

theorem sectorValuesAllowed_iff {i : SectorSetItems} : sectorValuesAllowed i = true ↔
    (∀ x, i.stand = some x → x ≤ 3) ∧ (∀ x, i.fixedTemp = some x → -300 ≤ x ∧ x ≤ 600) ∧
    (∀ x, i.hysteresis = some x → 5 ≤ x ∧ x ≤ 200) ∧ (∀ x, i.settle = some x → 5 ≤ x ∧ x ≤ 600) ∧
    ∀ x, i.glide = some x → 8 ≤ x ∧ x ≤ 1536 := by
  simp only [sectorValuesAllowed, optAll_iff, plausible_iff, Bool.and_eq_true, decide_eq_true_iff, and_assoc,
    Nat.lt_succ_iff]

theorem sectorApplied_stand {i : SectorSetItems} {n : Fin 4} (supplied : i.stand = some n.val) (g : SectorConfig) :
    (sectorApplied i g).stand = n := by
  simp [sectorApplied, supplied]

theorem sectorApplied_stand_none {i : SectorSetItems} (absent : i.stand = none) (g : SectorConfig) :
    (sectorApplied i g).stand = g.stand := by
  simp [sectorApplied, absent]

theorem sensorApplied_sector {i : SensorSetItems} {o : Option Nat} (supplied : i.sector = some o) (g : ChannelConfig) :
    (sensorApplied i g).sector = optSectorNo o := by
  simp [sensorApplied, supplied]

theorem sensorApplied_sector_none {i : SensorSetItems} (absent : i.sector = none) (g : ChannelConfig) :
    (sensorApplied i g).sector = g.sector := by
  simp [sensorApplied, absent]

end Sys2Proof.Machine
end

section
/-! ### SENSOR SET: its tests and the channel it leaves (R101, R106) -/

namespace Sys2Proof.Machine

namespace State

variable {s : State} {i : SensorSetItems} {k : ChannelNo}

/-! #### The tests (R106) -/

theorem testSensorSet_error {st : Status} (bad : s.refSensor i.sensor = .error st) :
    s.testSensorSet i = .error st := by
  rw [testSensorSet, bad]
  rfl

theorem testSensorSet_badValue (named : s.refSensor i.sensor = .ok k)
    (bad : sensorValuesAllowed i (s.channel k).config = false) : s.testSensorSet i = .error .badValue := by
  rw [testSensorSet, named, except_ok_bind, require_bind, if_neg (Bool.eq_false_iff.mp bad)]

theorem testSensorSet_busy (named : s.refSensor i.sensor = .ok k)
    (allowed : sensorValuesAllowed i (s.channel k).config = true) {st : Status} (busy : s.longOperation = some st) :
    s.testSensorSet i = .error st := by
  rw [testSensorSet, named, except_ok_bind, require_bind, if_pos allowed, requireNoLongOperation_some busy]
  rfl

theorem testSensorSet_ok (named : s.refSensor i.sensor = .ok k)
    (allowed : sensorValuesAllowed i (s.channel k).config = true) (free : s.longOperation = none) :
    s.testSensorSet i = .ok k := by
  rw [testSensorSet, named, except_ok_bind, require_bind, if_pos allowed, requireNoLongOperation_none free]
  rfl

end State

/-! #### The channel after a taken request (R101, R106) -/

theorem measurementChanged_iff {old new : ChannelConfig} : measurementChanged old new = true ↔
    old.positive ≠ new.positive ∨ old.negative ≠ new.negative ∨ old.gain ≠ new.gain ∨
    old.offsetTrim ≠ new.offsetTrim ∨ old.probe ≠ new.probe := by
  simp only [measurementChanged, Bool.or_eq_true, decide_eq_true_iff, or_assoc]

namespace Channel

variable {c : Channel} {new : ChannelConfig}

theorem configure_enabling (off : c.config.enabled = false) (on : new.enabled = true) : c.configure new =
    { c with config := new, state := .warming, window := [], average := none, toNext := new.interval * 1500 } := by
  simp only [configure, off, on]
  rfl

theorem configure_disabling (on : c.config.enabled = true) (off : new.enabled = false) : c.configure new =
    { c with config := new, state := .off, window := [], average := none, reading := none, toNext := 0 } := by
  simp only [configure, off, on]

theorem configure_disabled (off : c.config.enabled = false) (still : new.enabled = false) :
    c.configure new = { c with config := new } := by
  simp only [configure, off, still]

/-- A channel that stays enabled: a change of measurement and a change of interval act each by itself. -/
theorem configure_enabled (on : c.config.enabled = true) (still : new.enabled = true) : c.configure new =
    let toNext := if c.config.interval = new.interval then c.toNext else new.interval * 1500
    if measurementChanged c.config new = true then
      { c with
        config := new, state := .warming, window := [], average := none, toNext := toNext
        reading := c.reading.map fun x => { x with void := true } }
    else { c with config := new, toNext := toNext } := by
  simp only [configure, on, still]
  by_cases interval : c.config.interval = new.interval
  · rw [if_pos interval, if_neg (not_not.mpr interval)]
    rfl
  · rw [if_neg interval, if_pos interval]
    split <;> rfl

end Channel

/-! #### The sectors concerned (R106; log 36) -/

theorem sectorsToEvaluate_eq (old new : ChannelConfig) : sectorsToEvaluate old new =
    if old.enabled ≠ new.enabled ∨ (old.enabled = true ∧ measurementChanged old new = true) ∨
        old.sector ≠ new.sector then
      old.sector.toList ++ if new.sector = old.sector then [] else new.sector.toList
    else [] := by
  simp only [sectorsToEvaluate, needsEvaluation, Bool.or_eq_true, Bool.and_eq_true, decide_eq_true_iff, or_assoc]

namespace State

/-! #### Several status evaluations (R109, R111) -/

theorem statusEvaluation_withPort (s : State) (p : Port) (n : SectorNo) :
    ({ s with port := p } : State).statusEvaluation n = { s.statusEvaluation n with port := p } := by
  rw [statusEvaluation_eq, statusEvaluation_eq]
  rfl

theorem statusEvaluations_withPort (s : State) (p : Port) (ns : List SectorNo) :
    ns.foldl statusEvaluation { s with port := p } = { ns.foldl statusEvaluation s with port := p } := by
  induction ns generalizing s with
  | nil => rfl
  | cons n ns ih => rw [List.foldl_cons, statusEvaluation_withPort, ih, List.foldl_cons]

theorem statusEvaluations_frame (s : State) (ns : List SectorNo) : ns.foldl statusEvaluation s =
    { s with
      sectors := (ns.foldl statusEvaluation s).sectors, notices := (ns.foldl statusEvaluation s).notices } := by
  induction ns generalizing s with
  | nil => rfl
  | cons n ns ih =>
    rw [List.foldl_cons, ih, statusEvaluation_eq]
    rfl

/-- Status evaluations change no configuration, no speed and no epoch (R109). -/
theorem sector_statusEvaluations (s : State) (ns : List SectorNo) (n : SectorNo) :
    let t := ns.foldl statusEvaluation s
    ((t.sector n).speed, (t.sector n).epoch, (t.sector n).config) =
      ((s.sector n).speed, (s.sector n).epoch, (s.sector n).config) := by
  refine foldl_keeps (fun t => ((t.sector n).speed, (t.sector n).epoch, (t.sector n).config)) _ (fun t m => ?_) ns s
  by_cases same : n = m
  · subst same
    rw [sector_statusEvaluation]
    rfl
  · have other : (t.statusEvaluation m).sector n = t.sector n := by
      rw [statusEvaluation_eq]
      exact sector_setSector_other t _ same
    rw [other]

/-! #### The block after a taken request (R106) -/

/-- The sectors and notices once the channel is configured and the sectors concerned are evaluated. -/
def sensorEvaluated (s : State) (k : ChannelNo) (new : ChannelConfig) : State :=
  (sectorsToEvaluate (s.channel k).config new).foldl statusEvaluation
    (s.setChannel k ((s.channel k).configure new))

theorem sensorEvaluated_frame (s : State) (k : ChannelNo) (new : ChannelConfig) : s.sensorEvaluated k new =
    { s with
      channels := s.channels.upd k ((s.channel k).configure new)
      sectors := (s.sensorEvaluated k new).sectors, notices := (s.sensorEvaluated k new).notices } :=
  statusEvaluations_frame _ _

/-- The block after a SENSOR SET that is taken, but for its reply. -/
theorem applySensorSet_released (s : State) (k : ChannelNo) (i : SensorSetItems) {new : ChannelConfig}
    (applied : sensorApplied i (s.channel k).config = new) :
    s.released.applySensorSet k i =
      { s with
        channels := s.channels.upd k ((s.channel k).configure new)
        sectors := (s.sensorEvaluated k new).sectors, notices := (s.sensorEvaluated k new).notices
        port := { s.released.port with cursor := .sensor k }, image := s.endWait.image } := by
  have evaluated : (sectorsToEvaluate (s.channel k).config new).foldl statusEvaluation
      (s.released.setChannel k ((s.channel k).configure new)) =
        { s.sensorEvaluated k new with port := s.released.port } :=
    statusEvaluations_withPort (s.setChannel k ((s.channel k).configure new)) s.released.port _
  rw [sensorEvaluated_frame] at evaluated
  subst applied
  refine (congrArg (fun t => (setCursor t (.sensor k)).endWait) evaluated).trans ?_
  exact endWait_eq_of_image rfl

end State

end Sys2Proof.Machine
end

section
/-! ### SENSOR SET (R101, R106, R109, R111, R155) -/

namespace Sys2Proof.Machine

variable {s : State} {tag : Byte} {i : SensorSetItems} {k : ChannelNo}

theorem exec_sensorSet_refused (ready : s.ready) (formed : SensorSetFormed i = true) {st : Status}
    (refused : s.testSensorSet i = .error st) :
    exec (.sensorSet ⟨tag, some i⟩) s = .next (s.released.answered tag st []) := by
  have same : s.released.testSensorSet i = .error st := refused
  have ran : s.released.requestSensorSet i = (s.released, refusal st) := by rw [State.requestSensorSet, same]
  exact congrArg Host.Outcome.next (serveNow_answer (r := ⟨tag, some i⟩) (run := fun i s => s.requestSensorSet i) ready
    rfl formed ran)

/-- The block after a SENSOR SET that is taken. -/
def State.sensorSet (s : State) (k : ChannelNo) (i : SensorSetItems) (tag : Byte) : State :=
  let new := sensorApplied i (s.channel k).config
  let t : State :=
    { s with
      channels := s.channels.upd k ((s.channel k).configure new)
      sectors := (s.sensorEvaluated k new).sectors, notices := (s.sensorEvaluated k new).notices
      image := s.endWait.image }
  { t with port := s.portAnsweredAt (.sensor k) tag .ok (t.sensorImage k) }

theorem exec_sensorSet_taken (ready : s.ready) (formed : SensorSetFormed i = true)
    (ok : s.testSensorSet i = .ok k) : exec (.sensorSet ⟨tag, some i⟩) s = .next (s.sensorSet k i tag) := by
  have same : s.released.testSensorSet i = .ok k := ok
  have ran : s.released.requestSensorSet i =
      (s.released.applySensorSet k i, okBody ((s.released.applySensorSet k i).sensorImage k)) := by
    rw [State.requestSensorSet, same]
  rw [s.applySensorSet_released k i rfl] at ran
  exact congrArg Host.Outcome.next (serveNow_answer (r := ⟨tag, some i⟩) (run := fun i s => s.requestSensorSet i) ready
    rfl formed ran)

theorem channel_sensorSet : (s.sensorSet k i tag).channel k =
    (s.channel k).configure (sensorApplied i (s.channel k).config) := Table.get_upd_same ..

theorem channel_sensorSet_other {j : ChannelNo} (other : j ≠ k) : (s.sensorSet k i tag).channel j = s.channel j :=
  Table.get_upd_other _ _ other

theorem sector_sensorSet (n : SectorNo) :
    ((s.sensorSet k i tag).sector n).speed = (s.sector n).speed ∧
    ((s.sensorSet k i tag).sector n).epoch = (s.sector n).epoch ∧
    ((s.sensorSet k i tag).sector n).config = (s.sector n).config := by
  have kept := State.sector_statusEvaluations
    (s.setChannel k ((s.channel k).configure (sensorApplied i (s.channel k).config)))
    (sectorsToEvaluate (s.channel k).config (sensorApplied i (s.channel k).config)) n
  simp only [Prod.mk.injEq] at kept
  exact kept

/-- Settles O43: SENSOR SET configures one channel, and the status evaluations of the sectors concerned read the
channels as it leaves them. -/
theorem sensorSetStored : Obligations.SensorSetStored := by
  unfold Obligations.SensorSetStored
  refine ⟨fun s n => ⟨s.validAverages_eq n, ?_⟩, fun s ref => s.refBelow_yields .sensor 8 ref,
    fun i g => ⟨rfl, rfl, rfl, rfl, rfl, rfl, rfl,
      fun absent => sensorApplied_sector_none absent g, fun removed => sensorApplied_sector removed g,
      fun n moved => (sensorApplied_sector moved g).trans (optSectorNo_val n), sensorValuesAllowed_iff⟩,
    fun s tag i st ready formed bad => exec_sensorSet_refused ready formed (State.testSensorSet_error bad),
    fun s tag ref ready => ?_, fun s tag i k ready formed named => ?_⟩
  · rw [State.statusEvaluation_eq, Sector.evaluated_eq, State.degradationNoted, State.validAverages_eq]
    rfl
  · exact congrArg Host.Outcome.next (serve_unformed ⟨tag, some _⟩ _ _ s ready rfl (Bool.and_false _))
  · intro c new
    refine ⟨fun bad => exec_sensorSet_refused ready formed (State.testSensorSet_badValue named bad), fun allowed =>
      ⟨fun st busy => exec_sensorSet_refused ready formed (State.testSensorSet_busy named allowed busy), fun free =>
        ⟨_, exec_sensorSet_taken ready formed (State.testSensorSet_ok named allowed free), ?_⟩⟩⟩
    rw [channel_sensorSet]
    refine ⟨Channel.configure_enabling, Channel.configure_disabling, Channel.configure_disabled,
      Channel.configure_enabled, fun j other => channel_sensorSet_other other, sector_sensorSet, ?_, measurementChanged_iff, rfl, rfl⟩
    rw [← sectorsToEvaluate_eq]
    exact ⟨rfl, rfl⟩

end Sys2Proof.Machine
end

section
/-! ### SECTOR SET: its tests (R114) -/

namespace Sys2Proof.Machine

namespace State

variable {s : State} {i : SectorSetItems} {n : SectorNo}

theorem sectorLinked_iff : s.sectorLinked n = true ↔ ∃ f l, (s.feed f).lead = some l ∧
    ((s.feed f).sector = n ∧ (s.feed l).sector ≠ n ∨ (s.feed f).sector ≠ n ∧ (s.feed l).sector = n) := by
  have apart (p q : Prop) [Decidable p] [Decidable q] : (decide p != decide q) = true ↔ p ∧ ¬ q ∨ ¬ p ∧ q := by
    by_cases p <;> by_cases q <;> simp [*]
  rw [sectorLinked, List.any_eq_true]
  refine exists_congr fun f => ?_
  cases lead : (s.feed f).lead with
  | none => simp
  | some l => simp [apart, allFeeds]

theorem testSectorSet_error {st : Status} (bad : s.refSector i.sector = .error st) : s.testSectorSet i = .error st := by
  rw [testSectorSet, bad]
  rfl

theorem testSectorSet_badValue (named : s.refSector i.sector = .ok n) (bad : sectorValuesAllowed i = false) :
    s.testSectorSet i = .error .badValue := by
  rw [testSectorSet, named, except_ok_bind, require_bind, if_neg (Bool.eq_false_iff.mp bad)]

theorem testSectorSet_busy (named : s.refSector i.sector = .ok n) (allowed : sectorValuesAllowed i = true)
    {st : Status} (busy : s.longOperation = some st) : s.testSectorSet i = .error st := by
  rw [testSectorSet, named, except_ok_bind, require_bind, if_pos allowed, requireNoLongOperation_some busy]
  rfl

theorem testSectorSet_idle (named : s.refSector i.sector = .ok n) (allowed : sectorValuesAllowed i = true)
    (free : s.longOperation = none) : s.testSectorSet i =
      if s.locked = true ∧ (i.mode.isSome = true ∨ i.fixedTemp.isSome = true) then .error .locked
      else if (sectorApplied i (s.sector n).config).stand ≠ (s.sector n).config.stand ∧ s.sectorLinked n = true then
        .error .inUse
      else .ok n := by
  have unlocked : (!(s.locked && (i.mode.isSome || i.fixedTemp.isSome))) = true ↔
      ¬ (s.locked = true ∧ (i.mode.isSome = true ∨ i.fixedTemp.isSome = true)) := by
    rw [Bool.not_eq_true', Bool.eq_false_iff, ne_eq, Bool.and_eq_true, Bool.or_eq_true]
  have unlinked (stand : Prop) [Decidable stand] : (decide stand || !s.sectorLinked n) = true ↔
      ¬ (¬ stand ∧ s.sectorLinked n = true) := by
    rw [Bool.or_eq_true, decide_eq_true_iff, Bool.not_eq_true', not_and_or, not_not, Bool.not_eq_true]
  rw [testSectorSet, named, except_ok_bind, require_bind, if_pos allowed, requireNoLongOperation_none free,
    except_ok_bind, require_bind, require_bind]
  simp only [unlocked, unlinked, ite_not]
  rfl

end State

end Sys2Proof.Machine
end

section
/-! ### SECTOR SET: the change of mode (R109, R111, R112, R115) -/

namespace Sys2Proof.Machine

/-- A change to `new` that ends in FIXED mode by a change of mode or temperature (R115). -/
abbrev fixesSpeed (old new : SectorConfig) : Prop :=
  new.mode = .fixed ∧ (old.mode = .sensed ∨ new.fixedTemp ≠ old.fixedTemp)

/-- A change to `new` that enters SENSED mode (R115). -/
abbrev entersSensed (old new : SectorConfig) : Prop := new.mode = .sensed ∧ old.mode = .fixed

theorem not_fixesSpeed_of_sensed {old new : SectorConfig} (sensed : new.mode = .sensed) : ¬ fixesSpeed old new :=
  fun fixes => nomatch sensed.symm.trans fixes.1

theorem not_entersSensed_of_same {old new : SectorConfig} (same : new.mode = old.mode) : ¬ entersSensed old new :=
  fun enters => nomatch enters.1.symm.trans (same.trans enters.2)

theorem not_fixesSpeed_of_same {old new : SectorConfig} (same : new.mode = old.mode)
    (kept : new.mode = .sensed ∨ new.fixedTemp = old.fixedTemp) : ¬ fixesSpeed old new := by
  rintro ⟨fixed, sensed | changed⟩
  · exact nomatch fixed.symm.trans (same.trans sensed)
  · exact changed (kept.resolve_left fun sensed => nomatch sensed.symm.trans fixed)

namespace Sector

/-- A sector that takes the speed of its fixed temperature at once (R115). -/
def fixedNow (e : Sector) : Sector :=
  let e' := { e with status := .fixed, awaitingFix := false, deferred := false }
  if speedAt e.config.fixedTemp = e.speed then e' else e'.changeSpeed (speedAt e.config.fixedTemp)

theorem fixedNow_same {e : Sector} (same : speedAt e.config.fixedTemp = e.speed) :
    e.fixedNow = { e with status := .fixed, awaitingFix := false, deferred := false } := if_pos same

theorem fixedNow_other {e : Sector} (other : speedAt e.config.fixedTemp ≠ e.speed) :
    e.fixedNow = { e with
      status := .fixed, awaitingFix := false, deferred := false, speed := speedAt e.config.fixedTemp
      epoch := e.epoch + 1, sinceChange := some 0, blocks := 0 } := if_neg other

theorem fixedNow_config (e : Sector) : e.fixedNow.config = e.config := by
  unfold fixedNow
  dsimp only
  split <;> rfl

end Sector

namespace State

variable {s : State} {n : SectorNo} {new : SectorConfig}

theorem queueFeeds_withPort (s : State) (p : Port) (fs : List FeedNo) :
    ({ s with port := p } : State).queueFeeds fs = { s.queueFeeds fs with port := p } := by
  induction fs generalizing s with
  | nil => rfl
  | cons f fs ih => exact ih (s.queueFeed f)

theorem fixSector_setSector (s : State) (n : SectorNo) (e : Sector) : (s.setSector n e).fixSector n =
    (s.setSector n e.fixedNow).queueFeeds
      (if speedAt e.config.fixedTemp ≠ e.speed then s.feedsOfSector n else []) := by
  unfold fixSector
  rw [sector_setSector, ite_not]
  dsimp only
  split
  · next same => rw [setSector_setSector, Sector.fixedNow_same same, queueFeeds_nil]
  · next other =>
    rw [setSector_setSector, changeSpeed_setSector, Sector.fixedNow_other other]
    rfl

theorem senseSector_setSector (s : State) (n : SectorNo) (e : Sector) (sensed : e.config.mode = .sensed) :
    (s.setSector n e).senseSector n =
      { s.setSector n ({ e with awaitingFix := true }.evaluated (s.validAverages n)) with
        notices := if s.validAverages n = [] ∧ e.status ≠ .degraded then
            s.notices.raise (.sensorFault (.sector n)) else s.notices } := by
  have averages (e : Sector) : (s.setSector n e).validAverages n = s.validAverages n := rfl
  rw [senseSector, sector_setSector, setSector_setSector, statusEvaluation_eq, degradationNoted]
  simp only [averages, sector_setSector, setSector_setSector, sensed, true_and]
  rfl

/-! #### What the change of mode leaves (R115) -/

/-- Sector `n` once its configuration is `new`. -/
def modeSector (s : State) (n : SectorNo) (new : SectorConfig) : Sector :=
  let e := { s.sector n with config := new }
  if fixesSpeed (s.sector n).config new then e.fixedNow
  else if entersSensed (s.sector n).config new then { e with awaitingFix := true }.evaluated (s.validAverages n)
  else e

/-- The feeds that the change of mode queues. -/
def modeFeeds (s : State) (n : SectorNo) (new : SectorConfig) : List FeedNo :=
  if fixesSpeed (s.sector n).config new ∧ speedAt new.fixedTemp ≠ (s.sector n).speed then s.feedsOfSector n else []

/-- The notices after the change of mode. -/
def modeNotices (s : State) (n : SectorNo) (new : SectorConfig) : Notices :=
  if entersSensed (s.sector n).config new ∧ s.validAverages n = [] ∧ (s.sector n).status ≠ .degraded then
    s.notices.raise (.sensorFault (.sector n))
  else s.notices

theorem modeSector_config (s : State) (n : SectorNo) (new : SectorConfig) : (s.modeSector n new).config = new := by
  unfold modeSector
  dsimp only
  split
  · exact Sector.fixedNow_config _
  · split <;> rfl

theorem modeSector_fixes (fixes : fixesSpeed (s.sector n).config new) :
    s.modeSector n new = { s.sector n with config := new }.fixedNow := if_pos fixes

theorem modeSector_enters (enters : entersSensed (s.sector n).config new) : s.modeSector n new =
    { s.sector n with config := new, awaitingFix := true }.evaluated (s.validAverages n) := by
  rw [modeSector, if_neg (not_fixesSpeed_of_sensed enters.1), if_pos enters]

theorem modeSector_stays (fixes : ¬ fixesSpeed (s.sector n).config new)
    (enters : ¬ entersSensed (s.sector n).config new) : s.modeSector n new = { s.sector n with config := new } := by
  rw [modeSector, if_neg fixes, if_neg enters]

theorem modeFeeds_fixes (fixes : fixesSpeed (s.sector n).config new) : s.modeFeeds n new =
    if speedAt new.fixedTemp ≠ (s.sector n).speed then s.feedsOfSector n else [] :=
  if_congr (and_iff_right fixes) rfl rfl

theorem modeFeeds_stays (fixes : ¬ fixesSpeed (s.sector n).config new) : s.modeFeeds n new = [] :=
  if_neg fun queues => fixes queues.1

theorem modeNotices_enters (enters : entersSensed (s.sector n).config new) : s.modeNotices n new =
    if s.validAverages n = [] ∧ (s.sector n).status ≠ .degraded then s.notices.raise (.sensorFault (.sector n))
    else s.notices :=
  if_congr (and_iff_right enters) rfl rfl

theorem modeNotices_stays (enters : ¬ entersSensed (s.sector n).config new) : s.modeNotices n new = s.notices :=
  if_neg fun noted => enters noted.1

/-- The block once the change of mode has been made. -/
def modeActed (s : State) (n : SectorNo) (new : SectorConfig) : State :=
  { (s.setSector n (s.modeSector n new)).queueFeeds (s.modeFeeds n new) with notices := s.modeNotices n new }

/-- What a change of mode or of the fixed temperature does (R115). -/
theorem actOnMode_setSector (s : State) (n : SectorNo) (new : SectorConfig) :
    (s.setSector n { s.sector n with config := new }).actOnMode n (s.sector n).config =
      s.modeActed n new := by
  have fixed (fixes : fixesSpeed (s.sector n).config new) :
      (s.setSector n { s.sector n with config := new }).fixSector n = s.modeActed n new := by
    rw [modeActed, fixSector_setSector, modeSector_fixes fixes, modeFeeds_fixes fixes,
      modeNotices_stays fun enters => not_fixesSpeed_of_sensed enters.1 fixes, queueFeeds_frame]
    rfl
  have stayed (fixes : ¬ fixesSpeed (s.sector n).config new) (enters : ¬ entersSensed (s.sector n).config new) :
      s.setSector n { s.sector n with config := new } = s.modeActed n new := by
    rw [modeActed, modeSector_stays fixes enters, modeFeeds_stays fixes, modeNotices_stays enters, queueFeeds_nil]
    rfl
  unfold actOnMode
  rw [sector_setSector]
  dsimp only
  split
  · next old sensed =>
    have enters : entersSensed (s.sector n).config new := ⟨sensed, old⟩
    rw [modeActed, senseSector_setSector _ _ _ sensed, modeSector_enters enters, modeNotices_enters enters,
      modeFeeds_stays (not_fixesSpeed_of_sensed sensed), queueFeeds_nil]
  · next old now => exact fixed ⟨now, .inl old⟩
  · next old now =>
    have enters := not_entersSensed_of_same (now.trans old.symm)
    split
    · next same => exact stayed (not_fixesSpeed_of_same (now.trans old.symm) (.inr same)) enters
    · next other => exact fixed ⟨now, .inr other⟩
  · next old now =>
    exact stayed (not_fixesSpeed_of_sensed now) (not_entersSensed_of_same (now.trans old.symm))

end State

end Sys2Proof.Machine
end

section
/-! ### SECTOR SET (R84, R112, R114, R115, R155) -/

namespace Sys2Proof.Machine

variable {s : State} {tag : Byte} {i : SectorSetItems} {n : SectorNo} {new : SectorConfig}

theorem exec_sectorSet_refused (ready : s.ready) (formed : SectorSetFormed i = true) {st : Status}
    (refused : s.testSectorSet i = .error st) :
    exec (.sectorSet ⟨tag, some i⟩) s = .next (s.released.answered tag st []) := by
  have same : s.released.testSectorSet i = .error st := refused
  have ran : s.released.requestSectorSet i = (s.released, refusal st) := by rw [State.requestSectorSet, same]
  exact congrArg Host.Outcome.next (serveNow_answer (r := ⟨tag, some i⟩) (run := fun i s => s.requestSectorSet i) ready
    rfl formed ran)

namespace State

/-- The block after a SECTOR SET that is taken, but for its reply. -/
def withSector (s : State) (n : SectorNo) (new : SectorConfig) : State :=
  { s.modeActed n new with image := s.endWait.image }

/-- The block after a SECTOR SET that is taken. -/
def sectorSet (s : State) (n : SectorNo) (new : SectorConfig) (tag : Byte) : State :=
  { s.withSector n new with port := s.portAnsweredAt (.sector n) tag .ok ((s.withSector n new).sectorImage n) }

theorem applySectorSet_released (applied : sectorApplied i (s.sector n).config = new) :
    s.released.applySectorSet n i =
      { s.withSector n new with port := { s.released.port with cursor := .sector n } } := by
  have port : (s.released.setSector n (s.modeSector n new)).queueFeeds (s.modeFeeds n new) =
      { (s.setSector n (s.modeSector n new)).queueFeeds (s.modeFeeds n new) with port := s.released.port } :=
    queueFeeds_withPort (s.setSector n (s.modeSector n new)) s.released.port _
  have acted := (s.released.actOnMode_setSector n new).trans
    (congrArg (fun t : State => { t with notices := s.modeNotices n new }) port)
  subst applied
  refine (congrArg (fun t => (setCursor t (.sector n)).endWait) acted).trans ?_
  exact endWait_eq_of_image (queueFeeds_image ..)

theorem sectorSet_frame (s : State) (n : SectorNo) (new : SectorConfig) (tag : Byte) : s.sectorSet n new tag =
    let t := s.sectorSet n new tag
    { s with
      sectors := t.sectors, feeds := t.feeds, resolver := t.resolver, notices := t.notices, port := t.port
      image := s.endWait.image } := by
  unfold sectorSet withSector modeActed
  rw [queueFeeds_frame]
  rfl

theorem sectorSet_sectors : (s.sectorSet n new tag).sectors = s.sectors.upd n (s.modeSector n new) := by
  simp only [sectorSet, withSector, modeActed, queueFeeds_sectors, setSector_sectors]

theorem sector_sectorSet : (s.sectorSet n new tag).sector n = s.modeSector n new := by
  rw [sector, sectorSet_sectors, Table.get_upd_same]

theorem sector_sectorSet_other {m : SectorNo} (other : m ≠ n) : (s.sectorSet n new tag).sector m = s.sector m := by
  rw [sector, sectorSet_sectors, Table.get_upd_other _ _ other]
  rfl

/-! #### The feeds of a sector whose speed changes (R84, R112) -/

theorem mem_feedsOfSector {f : FeedNo} : f ∈ s.feedsOfSector n ↔ (s.feed f).sector = n := by
  simp [feedsOfSector, allFeeds]

theorem feedsOfSector_nodup (s : State) (n : SectorNo) : (s.feedsOfSector n).Nodup := (List.nodup_finRange 96).filter _

theorem feed_sectorSet (f : FeedNo) : (s.sectorSet n new tag).feed f =
    ((s.setSector n (s.modeSector n new)).queueFeeds (s.modeFeeds n new)).feed f := by
  simp only [feed, sectorSet, withSector, modeActed]

theorem feed_sectorSet_queued (queues : s.modeFeeds n new = s.feedsOfSector n) {f : FeedNo}
    (inside : (s.feed f).sector = n) : (s.sectorSet n new tag).feed f = (s.feed f).queued := by
  rw [feed_sectorSet, queues]
  exact feed_queueFeeds_mem (s.feedsOfSector_nodup n) (mem_feedsOfSector.mpr inside)

theorem feed_sectorSet_other (queues : s.modeFeeds n new = s.feedsOfSector n) {f : FeedNo}
    (outside : (s.feed f).sector ≠ n) : (s.sectorSet n new tag).feed f = s.feed f := by
  rw [feed_sectorSet, queues]
  exact feed_queueFeeds_other _ (mt mem_feedsOfSector.mp outside)

theorem sectorSet_resolver : (s.sectorSet n new tag).resolver = s.queuedAll (s.modeFeeds n new) := by
  simp only [sectorSet, withSector, modeActed, queueFeeds_resolver]
  rfl

theorem sectorSet_unqueued (empty : s.modeFeeds n new = []) :
    (s.sectorSet n new tag).feeds = s.feeds ∧ (s.sectorSet n new tag).resolver = s.resolver := by
  unfold sectorSet withSector modeActed
  rw [empty]
  exact ⟨rfl, rfl⟩

/-- The reply carries LOOK's image of the sector, which reads no field of the port (log 41). -/
theorem sectorSet_port : (s.sectorSet n new tag).port =
    s.portAnsweredAt (.sector n) tag .ok ((s.sectorSet n new tag).sectorImage n) :=
  congrArg (s.portAnsweredAt (.sector n) tag .ok)
    (sectorImage_frame (s.withSector n new) _ (s.withSector n new).watches (s.withSector n new).notices n).symm

theorem sectorSet_notices : (s.sectorSet n new tag).notices = s.modeNotices n new := rfl

end State

theorem exec_sectorSet_taken (ready : s.ready) (formed : SectorSetFormed i = true) (ok : s.testSectorSet i = .ok n) :
    exec (.sectorSet ⟨tag, some i⟩) s = .next (s.sectorSet n (sectorApplied i (s.sector n).config) tag) := by
  have same : s.released.testSectorSet i = .ok n := ok
  have ran : s.released.requestSectorSet i =
      (s.released.applySectorSet n i, okBody ((s.released.applySectorSet n i).sectorImage n)) := by
    rw [State.requestSectorSet, same]
  have image (p : Port) : State.sectorImage { s.withSector n (sectorApplied i (s.sector n).config) with port := p } n =
      (s.withSector n (sectorApplied i (s.sector n).config)).sectorImage n :=
    State.sectorImage_frame _ p _ _ n
  rw [State.applySectorSet_released rfl, image] at ran
  exact congrArg Host.Outcome.next (serveNow_answer (r := ⟨tag, some i⟩) (run := fun i s => s.requestSectorSet i) ready
    rfl formed ran)

/-- Settles O44: a taken SECTOR SET stores the configuration, and then fixes the speed, enters SENSED mode, or stays. -/
theorem sectorSetStored : Obligations.SectorSetStored := by
  unfold Obligations.SectorSetStored
  refine ⟨fun s ref => s.refBelow_yields .sector 16 ref, fun i g => ⟨fun absent => sectorApplied_stand_none absent g,
      fun n supplied => sectorApplied_stand supplied g, rfl, rfl, rfl, rfl, rfl, sectorValuesAllowed_iff⟩,
    fun s n => State.sectorLinked_iff,
    fun s tag i st ready formed bad => exec_sectorSet_refused ready formed (State.testSectorSet_error bad),
    fun s tag ref ready => congrArg Host.Outcome.next (serve_unformed ⟨tag, some _⟩ _ _ s ready rfl (Bool.and_false _)),
    fun s tag i n ready formed named => ?_⟩
  intro e new
  refine ⟨fun st refused => exec_sectorSet_refused ready formed refused,
    fun bad => exec_sectorSet_refused ready formed (State.testSectorSet_badValue named bad),
    fun st allowed busy => exec_sectorSet_refused ready formed (State.testSectorSet_busy named allowed busy),
    fun allowed free => State.testSectorSet_idle named allowed free,
    fun ok => ⟨_, exec_sectorSet_taken ready formed ok, ?_⟩⟩
  change (State.sector (s.sectorSet n new tag) n).config = new ∧ _
  rw [State.sector_sectorSet]
  refine ⟨s.modeSector_config n new, fun m other => State.sector_sectorSet_other other, fun fixed changed => ?_,
    fun sensed left => ?_, fun same kept => ?_, fun unmoved => ?_, State.sectorSet_port, s.sectorSet_frame n new tag⟩
  · have fixes : fixesSpeed e.config new := ⟨fixed, changed⟩
    have notices : s.modeNotices n new = s.notices :=
      State.modeNotices_stays fun enters => not_fixesSpeed_of_sensed enters.1 fixes
    rw [State.modeSector_fixes fixes]
    by_cases same : speedAt new.fixedTemp = e.speed
    · rw [Sector.fixedNow_same (e := { s.sector n with config := new }) same]
      exact ⟨rfl, rfl, rfl, same.symm, fun other => absurd same other, fun _ => ⟨rfl, rfl⟩, rfl, (if_pos same).symm,
        notices⟩
    · have queues : s.modeFeeds n new = s.feedsOfSector n := (State.modeFeeds_fixes fixes).trans (if_pos same)
      rw [Sector.fixedNow_other (e := { s.sector n with config := new }) same]
      exact ⟨rfl, rfl, rfl, rfl, fun _ => ⟨rfl, rfl, fun f => State.feed_sectorSet_queued queues,
        fun f => State.feed_sectorSet_other queues, State.sectorSet_resolver.trans (congrArg s.queuedAll queues)⟩,
        fun equal => absurd equal same, rfl, (if_neg same).symm, notices⟩
  · have enters : entersSensed e.config new := ⟨sensed, left⟩
    have notFixed : ¬ new.mode = .fixed := fun fixed => nomatch sensed.symm.trans fixed
    rw [State.modeSector_enters enters, Sector.evaluated_eq, ← meanOf_eq, if_neg notFixed]
    exact ⟨rfl, State.modeNotices_enters enters⟩
  · have enters := not_entersSensed_of_same same
    exact ⟨State.modeSector_stays (not_fixesSpeed_of_same same kept) enters, State.modeNotices_stays enters⟩
  · refine State.sectorSet_unqueued (if_neg ?_)
    rintro ⟨⟨fixed, changed⟩, moved⟩
    rcases unmoved with sensed | equal | ⟨old, kept⟩
    · exact nomatch sensed.symm.trans fixed
    · exact moved equal
    · exact changed.elim (fun sensed => nomatch old.symm.trans sensed) fun other => other kept

end Sys2Proof.Machine
end

section
/-! ### What the Climate Unit keeps within its ranges (R100, R105, R107, R108) -/

namespace Sys2Proof.Machine

/-! #### Means and speeds (R100, R108, R109) -/

/-- A quotient between two integers stays between them when it is rounded. -/
theorem roundDiv_between {n d low high : Int} (pos : 0 < d) (above : d * low ≤ n) (below : n ≤ d * high) :
    low ≤ roundDiv n d ∧ roundDiv n d ≤ high := by
  obtain ⟨near, -⟩ := roundDiv_rounds n pos
  rw [← abs_two, ← abs_mul, abs_le] at near
  constructor
  · by_contra less
    nlinarith
  · by_contra more
    nlinarith

/-- The mean of plausible temperatures is plausible (R100, R109). -/
theorem plausible_of_meanOf {ts : List Int} (all : ∀ t ∈ ts, plausible t = true) {m : Int} (mean : meanOf ts = some m) :
    plausible m = true := by
  rw [meanOf_eq] at mean
  split at mean
  · cases mean
  · next nonempty =>
    cases mean
    have count : 0 < (ts.length : Int) := Int.natCast_pos.mpr (List.length_pos_iff.mpr nonempty)
    have low := List.card_nsmul_le_sum ts (-300) fun t mem => (plausible_iff.mp (all t mem)).1
    have high := List.sum_le_card_nsmul ts 600 fun t mem => (plausible_iff.mp (all t mem)).2
    rw [nsmul_eq_mul] at low high
    exact plausible_iff.mpr (roundDiv_between count low high)

namespace Channel

variable {c : Channel}

theorem sound_of_window {d : Channel} (sound : c.sound) (window : d.window = c.window)
    (average : d.average = c.average) : d.sound := by
  rw [Channel.sound, window, average]
  exact sound

theorem sound_of_empty (window : c.window = []) (average : c.average = none) : c.sound := by
  rw [Channel.sound, window, average]
  exact ⟨Nat.zero_le 8, nofun, rfl⟩

theorem plausible_average (sound : c.sound) {a : Int} (average : c.average = some a) : plausible a = true :=
  plausible_of_meanOf sound.2.1 (sound.2.2.symm.trans average)

theorem accept_sound (sound : c.sound) (code : Int) {t : Int} (inside : plausible t = true) :
    (c.accept code t).sound := by
  obtain ⟨held, all, -⟩ := sound
  have window : (c.accept code t).window = if c.window.length = 8 then c.window.tail ++ [t] else c.window ++ [t] :=
    pushReading_eq held t
  refine ⟨?_, fun x mem => ?_, rfl⟩
  · rw [window]
    split_ifs with full
    · simp [full]
    · rw [List.length_append, List.length_singleton]
      omega
  · have among : x ∈ c.window ∨ x = t := by
      rw [window] at mem
      split_ifs at mem with full
      · exact (List.mem_append.mp mem).imp List.mem_of_mem_tail List.mem_singleton.mp
      · exact (List.mem_append.mp mem).imp id List.mem_singleton.mp
    rcases among with old | rfl
    · exact all x old
    · exact inside

theorem configure_sound (sound : c.sound) (new : ChannelConfig) : (c.configure new).sound := by
  cases old : c.config.enabled <;> cases now : new.enabled
  · rw [configure_disabled old now]
    exact sound_of_window sound rfl rfl
  · rw [configure_enabling old now]
    exact sound_of_empty rfl rfl
  · rw [configure_disabling old now]
    exact sound_of_empty rfl rfl
  · rw [configure_enabled old now]
    dsimp only
    split
    · exact sound_of_empty rfl rfl
    · exact sound_of_window sound rfl rfl

end Channel

namespace Sector

variable {e : Sector}

theorem sound_of_speed {d : Sector} (sound : e.sound) (speed : d.speed = e.speed)
    (temp : d.config.fixedTemp = e.config.fixedTemp) : d.sound := by
  rw [Sector.sound, speed, temp]
  exact sound

theorem sound_of_temp {d : Sector} (sound : e.sound) (speed : d.speed = e.speed)
    (temp : plausible d.config.fixedTemp = true) : d.sound := by
  rw [Sector.sound, speed]
  exact ⟨sound.1, sound.2.1, temp⟩

theorem changeSpeed_sound (fixed : plausible e.config.fixedTemp = true) {t : Int} (inside : plausible t = true) :
    (e.changeSpeed (speedAt t)).sound := by
  obtain ⟨cold, hot⟩ := plausible_iff.mp inside
  obtain ⟨low, high⟩ := speedAt_bounds cold hot
  exact ⟨low, high, fixed⟩

theorem fixedNow_sound (sound : e.sound) : e.fixedNow.sound := by
  unfold fixedNow
  dsimp only
  split
  · exact sound_of_speed sound rfl rfl
  · exact changeSpeed_sound sound.2.2 sound.2.2

/-- A sector after a load (R116). -/
theorem replaced_sound (sound : e.sound) {g : SectorConfig} (inside : plausible g.fixedTemp = true) :
    (e.replaced g).sound := by
  unfold replaced
  dsimp only
  split
  · split
    · exact sound_of_temp sound rfl inside
    · exact changeSpeed_sound inside inside
  · exact sound_of_temp sound rfl inside

end Sector

/-! #### What `ClimateSound` reads -/

theorem waitingImage_eq_some {x : ImageStatus} {g : Image} : x.waitingImage = some g ↔ x = .loading (.held g) := by
  cases x with
  | loading phase => cases phase <;> simp [ImageStatus.waitingImage]
  | _ => simp [ImageStatus.waitingImage]

namespace State

variable {s t : State}

/-- The windows and averages, the speeds and fixed temperatures, and an image that waits. -/
def climate (s : State) : (ChannelNo → List Int × Option Int) × (SectorNo → Int × Int) × Option Image :=
  (fun k => ((s.channel k).window, (s.channel k).average),
    fun n => ((s.sector n).speed, (s.sector n).config.fixedTemp), s.image.waitingImage)

theorem climate_congr (channels : t.channels = s.channels) (sectors : t.sectors = s.sectors)
    (image : t.image.waitingImage = s.image.waitingImage) : t.climate = s.climate := by
  simp only [climate, channel, sector, channels, sectors, image]

theorem setChannel_climate (s : State) (k : ChannelNo) {c : Channel} (window : c.window = (s.channel k).window)
    (average : c.average = (s.channel k).average) : (s.setChannel k c).climate = s.climate := by
  have same (j : ChannelNo) : (((s.setChannel k c).channel j).window, ((s.setChannel k c).channel j).average) =
      ((s.channel j).window, (s.channel j).average) := by
    by_cases own : j = k
    · rw [own, channel_setChannel, window, average]
    · rw [channel_setChannel_other s c own]
  exact Prod.ext (funext same) rfl

theorem setSector_climate (s : State) (n : SectorNo) {e : Sector} (speed : e.speed = (s.sector n).speed)
    (temp : e.config.fixedTemp = (s.sector n).config.fixedTemp) : (s.setSector n e).climate = s.climate := by
  have same (m : SectorNo) : (((s.setSector n e).sector m).speed, ((s.setSector n e).sector m).config.fixedTemp) =
      ((s.sector m).speed, (s.sector m).config.fixedTemp) := by
    by_cases own : m = n
    · rw [own, sector_setSector, speed, temp]
    · rw [sector_setSector_other s e own]
  exact Prod.ext rfl (Prod.ext (funext same) rfl)

theorem statusEvaluation_climate (s : State) (n : SectorNo) : (s.statusEvaluation n).climate = s.climate := by
  rw [statusEvaluation_eq]
  exact s.setSector_climate n rfl rfl

theorem queueFeeds_climate (s : State) (fs : List FeedNo) : (s.queueFeeds fs).climate = s.climate := by
  rw [queueFeeds_frame]
  rfl

end State

namespace ClimateSound

variable {s t : State}

theorem congr (sound : ClimateSound s) (same : t.climate = s.climate) : ClimateSound t := by
  simp only [State.climate, Prod.mk.injEq] at same
  obtain ⟨channels, sectors, image⟩ := same
  obtain ⟨held, ranged, waiting⟩ := sound
  refine ⟨fun k => ?_, fun n => ?_, fun g loading => ?_⟩
  · obtain ⟨window, average⟩ := Prod.mk.inj (congrFun channels k)
    exact Channel.sound_of_window (held k) window average
  · obtain ⟨speed, temp⟩ := Prod.mk.inj (congrFun sectors n)
    exact Sector.sound_of_speed (ranged n) speed temp
  · exact waiting g (waitingImage_eq_some.mp (image.symm.trans (waitingImage_eq_some.mpr loading)))

/-- A change of the image status after which no image waits. -/
theorem of_unheld (sound : ClimateSound s) (channels : t.channels = s.channels) (sectors : t.sectors = s.sectors)
    (image : t.image.waitingImage = none) : ClimateSound t := by
  refine ⟨fun k => ?_, fun n => ?_, fun g loading => ?_⟩
  · rw [State.channel, channels]
    exact sound.1 k
  · rw [State.sector, sectors]
    exact sound.2.1 n
  · rw [loading] at image
    cases image

theorem setChannel (sound : ClimateSound s) (k : ChannelNo) {c : Channel} (own : c.sound) :
    ClimateSound (s.setChannel k c) := by
  refine ⟨fun j => ?_, sound.2⟩
  by_cases same : j = k
  · rw [same, State.channel_setChannel]
    exact own
  · rw [State.channel_setChannel_other s c same]
    exact sound.1 j

theorem setSector (sound : ClimateSound s) (n : SectorNo) {e : Sector} (own : e.sound) :
    ClimateSound (s.setSector n e) := by
  refine ⟨sound.1, fun m => ?_, sound.2.2⟩
  by_cases same : m = n
  · rw [same, State.sector_setSector]
    exact own
  · rw [State.sector_setSector_other s e same]
    exact sound.2.1 m

end ClimateSound

end Sys2Proof.Machine
end

section
/-! ### The Climate Unit keeps its ranges (R101, R104, R105, R106, R109 to R116) -/

namespace Sys2Proof.Machine

namespace State

variable {s : State}

/-- A sector's sensed temperature, where it has one, is that of plausible averages (R109). -/
theorem plausible_validAverages (sound : ClimateSound s) (n : SectorNo) :
    ∀ t ∈ s.validAverages n, plausible t = true := by
  intro t mem
  rw [validAverages_eq, List.mem_filterMap] at mem
  obtain ⟨k, -, average⟩ := mem
  split at average
  · exact Channel.plausible_average (sound.1 k) average
  · cases average

theorem modeSector_sound {n : SectorNo} {new : SectorConfig} (sound : (s.sector n).sound)
    (temp : plausible new.fixedTemp = true) : (s.modeSector n new).sound := by
  have stored : ({ s.sector n with config := new } : Sector).sound := Sector.sound_of_temp sound rfl temp
  unfold modeSector
  dsimp only
  split
  · exact Sector.fixedNow_sound stored
  · split
    · exact Sector.sound_of_speed stored rfl rfl
    · exact stored

/-- A SECTOR SET that passes its tests leaves a plausible fixed temperature (R114). -/
theorem sectorApplied_plausible {i : SectorSetItems} (allowed : sectorValuesAllowed i = true) {g : SectorConfig}
    (temp : plausible g.fixedTemp = true) : plausible (sectorApplied i g).fixedTemp = true := by
  obtain ⟨-, supplied, -⟩ := sectorValuesAllowed_iff.mp allowed
  show plausible (i.fixedTemp.getD g.fixedTemp) = true
  cases given : i.fixedTemp with
  | none => exact temp
  | some t => exact plausible_iff.mpr (supplied t given)

theorem testSectorSet_ok {i : SectorSetItems} {n : SectorNo} (ok : s.testSectorSet i = .ok n) :
    sectorValuesAllowed i = true := by
  simp only [testSectorSet, except_bind_ok, require_ok] at ok
  obtain ⟨-, -, -, allowed, -⟩ := ok
  exact allowed

theorem raise_climate (s : State) (o : Notice) : (s.raise o).climate = s.climate := rfl

theorem endWait_climate (s : State) : s.endWait.climate = s.climate :=
  climate_congr s.endWait_channels s.endWait_sectors (waitingImage_of_storage s.endWait_storage)

end State

namespace ClimateSound

variable {s : State}

/-! #### Readings and evaluations (R104, R105, R109, R110) -/

theorem changeSpeed (sound : ClimateSound s) (n : SectorNo) {t : Int} (inside : plausible t = true) :
    ClimateSound (s.changeSpeed n (speedAt t)) :=
  (sound.setSector n (Sector.changeSpeed_sound (sound.2.1 n).2.2 inside)).congr (State.queueFeeds_climate _ _)

theorem speedTest (sound : ClimateSound s) (n : SectorNo) {t : Int} (inside : plausible t = true) :
    ClimateSound (s.speedTest n t) := by
  unfold State.speedTest
  dsimp only
  split
  · have undeferred : (s.setSector n { s.sector n with deferred := false }).climate = s.climate :=
      s.setSector_climate n rfl rfl
    exact (sound.congr undeferred).changeSpeed n inside
  all_goals exact sound.congr (s.setSector_climate n rfl rfl)

theorem fullEvaluation (sound : ClimateSound s) (n : SectorNo) : ClimateSound (s.fullEvaluation n) := by
  have evaluated := sound.congr (s.statusEvaluation_climate n)
  have formed : ((s.statusEvaluation n).sector n).sensedTemp = meanOf (s.validAverages n) := by
    rw [State.sector_statusEvaluation]
    rfl
  unfold State.fullEvaluation
  dsimp only
  split
  · next t _ sensed =>
    exact evaluated.speedTest n (plausible_of_meanOf (State.plausible_validAverages sound n) (formed.symm.trans sensed))
  · exact evaluated

theorem applyReading (sound : ClimateSound s) (k : ChannelNo) (code : Int) : ClimateSound (s.applyReading k code) := by
  have evaluated {u : State} (sound : ClimateSound u) (o : Option SectorNo) : ClimateSound (u.evaluateOptional o) := by
    cases o with
    | none => exact sound
    | some n => exact sound.fullEvaluation n
  by_cases rejected : atRangeEnd code = true ∨ plausible (readingTemp (s.channel k).config code) = false
  · rw [State.applyReading_rejected rejected]
    have emptied : ((s.channel k).reject code).sound := Channel.sound_of_empty rfl rfl
    exact evaluated ((sound.setChannel k emptied).congr (State.raise_climate _ _)) _
  · rw [not_or, Bool.not_eq_true, Bool.not_eq_false] at rejected
    obtain ⟨inside, plausible⟩ := rejected
    rw [State.applyReading_accepted inside plausible]
    exact evaluated (sound.setChannel k (Channel.accept_sound (sound.1 k) code plausible)) _

/-! #### SENSOR SET and SECTOR SET (R106, R114, R115) -/

theorem requestSensorSet (sound : ClimateSound s) (i : SensorSetItems) : ClimateSound (s.requestSensorSet i).1 := by
  have evaluated (u : State) (ns : List SectorNo) : (ns.foldl State.statusEvaluation u).climate = u.climate :=
    foldl_keeps State.climate _ State.statusEvaluation_climate ns u
  unfold State.requestSensorSet
  split
  · exact sound
  · next k _ =>
    refine congr ?_ (State.endWait_climate _)
    exact (sound.setChannel k (Channel.configure_sound (sound.1 k) _)).congr (evaluated _ _)

theorem requestSectorSet (sound : ClimateSound s) (i : SectorSetItems) : ClimateSound (s.requestSectorSet i).1 := by
  unfold State.requestSectorSet
  split
  · exact sound
  · next n ok =>
    refine congr ?_ (State.endWait_climate _)
    have temp := State.sectorApplied_plausible (State.testSectorSet_ok ok) (sound.2.1 n).2.2
    have acted := s.actOnMode_setSector n (sectorApplied i (s.sector n).config)
    refine congr (sound.setSector n (State.modeSector_sound (sound.2.1 n) temp)) ?_
    exact (congrArg State.climate acted).trans (State.queueFeeds_climate _ _)

/-! #### A load (R116, R168, R169) -/

theorem replaceTables (sound : ClimateSound s) {g : Image} (temps : ∀ n, plausible (g.sectors.get n).fixedTemp = true) :
    ClimateSound (s.replaceTables g) := by
  have tables : (∀ k, ((s.withTables g).channel k).sound) ∧ ∀ n, ((s.withTables g).sector n).sound := by
    refine ⟨fun k => ?_, fun n => ?_⟩
    · have channel : (s.withTables g).channel k = (s.channel k).replaced (g.channels.get k) := Table.get_tab _ k
      rw [channel]
      exact Channel.sound_of_empty rfl rfl
    · have sector : (s.withTables g).sector n = (s.sector n).replaced (g.sectors.get n) := Table.get_tab _ n
      rw [sector]
      exact Sector.replaced_sound (sound.2.1 n) (temps n)
  have requeued : (s.withTables g).requeueAll.channels = (s.withTables g).channels ∧
      (s.withTables g).requeueAll.sectors = (s.withTables g).sectors :=
    ⟨State.queueFeeds_channels _ _, State.queueFeeds_sectors _ _⟩
  unfold State.replaceTables
  rw [State.rebuildDependencies_eq]
  generalize (s.withTables g).requeueAll = u at requeued
  obtain ⟨channels, sectors⟩ := requeued
  exact of_unheld (s := { s.withTables g with image := .idle }) ⟨tables.1, tables.2, nofun⟩ channels sectors rfl

end ClimateSound

/-! #### The fixed temperatures of an image that passes its tests (R168) -/

theorem mem_of_mapM {α β : Type} {read : α → Option β} {xs : List α} {ys : List β} (passed : xs.mapM read = some ys) :
    ∀ y ∈ ys, ∃ x, read x = some y := by
  induction xs generalizing ys with
  | nil =>
    cases passed
    exact nofun
  | cons x xs ih =>
    rw [List.mapM_cons] at passed
    simp only [Option.bind_eq_bind, Option.bind_eq_some_iff, Option.pure_def, Option.some.injEq] at passed
    obtain ⟨z, first, zs, rest, rfl⟩ := passed
    intro y mem
    rcases List.mem_cons.mp mem with rfl | later
    · exact ⟨x, first⟩
    · exact ih rest y later

/-- Each record of a table that passes its reading passes by itself. -/
theorem readTable_get {α β : Type} {n : Nat} {read : α → Option β} {xs : List α} {table : Table β n}
    (passed : readTable n read xs = some table) (k : Fin n) : ∃ x, read x = some (table.get k) := by
  unfold readTable at passed
  split at passed
  · next ys all =>
    split at passed
    · cases passed
      exact mem_of_mapM all _ (List.getElem_mem _)
    · cases passed
  · cases passed

theorem readSectorRecord_plausible {r : RawSector} {g : SectorConfig} (passed : readSectorRecord r = some g) :
    plausible g.fixedTemp = true := by
  simp only [readSectorRecord, Option.bind_eq_bind, Option.bind_eq_some_iff, whenTrue] at passed
  obtain ⟨stand, -, mode, -, inRange⟩ := passed
  split at inRange
  · next allowed =>
    cases inRange
    simp only [sectorConfigInRange, Bool.and_eq_true, and_assoc] at allowed
    exact allowed.1
  · cases inRange

theorem readRecords_plausible {r : RawImage} {g : Image} (passed : readRecords r = some g) (n : SectorNo) :
    plausible (g.sectors.get n).fixedTemp = true := by
  simp only [readRecords, Option.bind_eq_bind, Option.bind_eq_some_iff] at passed
  obtain ⟨feeds, -, profiles, -, sectors, read, rest⟩ := passed
  have stored : g.sectors = sectors := by
    obtain ⟨channels, -, policy, -, crossStand, -, mask, -, made⟩ := rest
    cases made
    rfl
  obtain ⟨raw, one⟩ := readTable_get read n
  rw [stored]
  exact readSectorRecord_plausible one

theorem readRecords_of_validate {c : FlashContents} {g : Image} (valid : validate c = some g) :
    ∃ r, readRecords r = some g := by
  unfold validate at valid
  split at valid
  · cases valid
  · cases valid
  · next records _ =>
    split at valid
    · split at valid
      · next read =>
        unfold whenTrue at valid
        split at valid
        · cases valid
          exact ⟨records, read⟩
        · cases valid
      · cases valid
    · cases valid

theorem validate_plausible {c : FlashContents} {g : Image} (valid : validate c = some g) (n : SectorNo) :
    plausible (g.sectors.get n).fixedTemp = true := by
  obtain ⟨r, read⟩ := readRecords_of_validate valid
  exact readRecords_plausible read n

namespace ClimateSound

variable {s : State}

theorem finishRead (sound : ClimateSound s) (answer : FlashAnswer) : ClimateSound (s.finishRead answer) := by
  have read (c : FlashContents) : ClimateSound { s with flash := c } := ⟨sound.1, sound.2.1, sound.2.2⟩
  unfold State.finishRead
  dsimp only
  split
  · exact sound.of_unheld rfl rfl rfl
  · next g valid =>
    split
    · refine ⟨sound.1, sound.2.1, fun h held => ?_⟩
      cases held
      exact validate_plausible valid
    · exact (read _).replaceTables (validate_plausible valid)

end ClimateSound

end Sys2Proof.Machine
end

section
/-! ### Operations that write no window, no average, no speed and no fixed temperature -/

namespace Sys2Proof.Machine

namespace State

variable (s : State)

/-! #### The operations shared by commands -/

theorem watchTest_climate (a : Access) (r : RecordName) : (s.watchTest a r).1.climate = s.climate :=
  climate_congr (s.watchTest_channels a r) (s.watchTest_sectors a r) (congrArg _ (s.watchTest_image a r))

theorem notifyPolicy_climate (o : PolicyOutcome) (d : PolicyDetail) : (s.notifyPolicy o d).climate = s.climate :=
  climate_congr (s.notifyPolicy_channels o d) (s.notifyPolicy_sectors o d) (congrArg _ (s.notifyPolicy_image o d))

theorem dropOptional_climate (old : Option Handle) : (s.dropOptional old).climate = s.climate := by
  rw [dropOptional_frame]
  rfl

theorem replaceReference_climate (old : Option Handle) (new : HandleIx) :
    (s.replaceReference old new).climate = s.climate :=
  climate_congr (s.replaceReference_channels old new) (s.replaceReference_sectors old new)
    (congrArg _ (s.replaceReference_image old new))

theorem freeHandle_climate (h : HandleIx) : (s.freeHandle h).climate = s.climate :=
  climate_congr (s.freeHandle_channels h) (s.freeHandle_sectors h) (congrArg _ (s.freeHandle_image h))

theorem nextMove_climate : s.nextMove.climate = s.climate :=
  climate_congr s.nextMove_channels s.nextMove_sectors (congrArg _ s.nextMove_image)

theorem afterAbandon_climate : s.afterAbandon.climate = s.climate :=
  climate_congr s.afterAbandon_channels s.afterAbandon_sectors (congrArg _ s.afterAbandon_image)

theorem endMove_climate : s.endMove.climate = s.climate := by
  unfold endMove
  dsimp only
  split
  · rfl
  · exact nextMove_climate _

theorem endTransaction_climate : s.endTransaction.1.climate = s.climate := by
  obtain ⟨p, e⟩ := s.endTransaction_frame
  rw [e]
  rfl

theorem changeSources_climate (c : OverrideSource) (o : Override) : (s.changeSources c o).climate = s.climate := by
  unfold changeSources
  dsimp only
  split <;> rfl

theorem setAlarm_climate (level : Bool) : (s.setAlarm level).climate = s.climate := by
  unfold setAlarm
  dsimp only
  split
  · rfl
  · exact changeSources_climate _ _ _

theorem takeChange_climate {α : Type} (tested : Except Status α) (record : α → RecordName) {effect : α → State → State}
    (same : ∀ a u, (effect a u).climate = u.climate) : (s.takeChange tested record effect).1.climate = s.climate := by
  cases tested with
  | error st => rfl
  | ok a =>
    have watched := s.watchTest_climate .portChange (record a)
    cases stop : s.stops .portChange (record a) with
    | true =>
      rw [takeChange_stopped s record effect a stop]
      exact watched
    | false =>
      rw [takeChange_taken s record effect a stop, endWait_climate, afterAbandon_climate, same]
      exact watched

/-! #### The effects of the change requests (R12 to R20, R36 to R49) -/

theorem applyFeedChange_climate (f : FeedNo) (c : FeedChange) : (s.applyFeedChange f c).climate = s.climate := by
  rw [applyFeedChange_frame]
  rfl

theorem applyLead_climate (p : LeadPlan) : (s.applyLead p).climate = s.climate := by
  rw [applyLead_frame]
  rfl

theorem applyClearFeed_climate (f : FeedNo) : (s.applyClearFeed f).climate = s.climate := by
  rw [applyClearFeed_frame]
  rfl

theorem applyBind_climate (p : BindPlan) : (s.applyBind p).climate = s.climate :=
  (notifyPolicy_climate _ _ _).trans (replaceReference_climate _ _ _)

theorem applyUnbind_climate (f : FeedNo) : (s.applyUnbind f).climate = s.climate := dropOptional_climate _ _

theorem applyBindOverride_climate (p : BindPlan) : (s.applyBindOverride p).climate = s.climate :=
  (notifyPolicy_climate _ _ _).trans (replaceReference_climate _ _ _)

theorem applyUnbindOverride_climate (f : FeedNo) : (s.applyUnbindOverride f).climate = s.climate :=
  dropOptional_climate _ _

theorem applyRetire_climate (h : HandleIx) : (s.applyRetire h).climate = s.climate := by
  unfold applyRetire
  dsimp only
  split
  · split
    · exact s.freeHandle_climate h
    · rfl
  all_goals rfl

theorem applyRevive_climate (h : HandleIx) : (s.applyRevive h).climate = s.climate := by
  unfold applyRevive
  dsimp only
  split <;> rfl

theorem applyCreate_climate (p : CreatePlan) : (s.applyCreate p).climate = s.climate := by
  unfold applyCreate referToBase
  dsimp only
  split
  · rfl
  · exact notifyPolicy_climate _ _ _

theorem applyProfileChange_climate (h : HandleIx) (c : ProfileChange) :
    (s.applyProfileChange h c).climate = s.climate := by
  unfold applyProfileChange
  dsimp only
  split
  · exact queueFeeds_climate _ _
  · rfl

theorem applyEditSections_climate (sections : List EqSection) (p : EditPlan) :
    (s.applyEditSections sections p).climate = s.climate := queueFeeds_climate _ _

theorem applyBase_climate (p : BasePlan) : (s.applyBase p).climate = s.climate := by
  refine (queueFeeds_climate _ _).trans ?_
  unfold changeBaseReference
  split
  · exact dropOptional_climate _ _
  · exact (notifyPolicy_climate _ _ _).trans (replaceReference_climate _ _ _)

/-! #### The change requests, whole; SET over several records, and the edits that wait (R61, R160) -/

theorem setFeedsLoop_climate (field : Nat) (v : Int) (fs : List FeedNo) (done : Nat) :
    (setFeedsLoop field v fs done s).1.climate = s.climate := by
  induction fs generalizing s done with
  | nil => rfl
  | cons f fs ih =>
    have one : (s.setOneFeed f field v).1.climate = s.climate :=
      s.takeChange_climate _ _ fun c u => u.applyFeedChange_climate f c
    unfold setFeedsLoop
    split
    · next e =>
      rw [e] at one
      exact (ih _ _).trans one
    · next e =>
      rw [e] at one
      exact one

theorem setProfilesLoop_climate (field : Nat) (v : Int) (ns : List Nat) (named : Option Nat) (done : Nat) :
    (setProfilesLoop field v ns named done s).1.climate = s.climate := by
  induction ns generalizing s named done with
  | nil => rfl
  | cons n ns ih =>
    have one : (s.setOneProfile n (named.getD (s.presentGen .profile n)) field v).1.climate = s.climate :=
      s.takeChange_climate _ _ fun p u => u.applyProfileChange_climate p.1 p.2
    unfold setProfilesLoop
    dsimp only
    split
    · rfl
    · split
      · next e =>
        rw [e] at one
        exact (ih _ _ _).trans one
      · next e =>
        rw [e] at one
        exact one

theorem requestSet_climate (i : SetItems) : (s.requestSet i).1.climate = s.climate := by
  unfold requestSet
  split
  · rfl
  · split
    · exact s.setFeedsLoop_climate _ _ _ _
    · exact s.setProfilesLoop_climate _ _ _ _ _
    all_goals rfl

theorem requestLead_climate (i : LeadItems) : (s.requestLead i).1.climate = s.climate := by
  unfold requestLead
  exact s.takeChange_climate _ _ fun p u => u.applyLead_climate p

theorem requestClearFeed_climate (ref : RecordRef) : (s.requestClearFeed ref).1.climate = s.climate := by
  unfold requestClearFeed
  exact s.takeChange_climate _ _ fun f u => u.applyClearFeed_climate f

theorem requestBind_climate (i : BindItems) : (s.requestBind i).1.climate = s.climate := by
  unfold requestBind
  exact s.takeChange_climate _ _ fun p u => u.applyBind_climate p

theorem requestUnbind_climate (ref : RecordRef) : (s.requestUnbind ref).1.climate = s.climate := by
  unfold requestUnbind
  exact s.takeChange_climate _ _ fun f u => u.applyUnbind_climate f

theorem requestBindOverride_climate (i : BindItems) : (s.requestBindOverride i).1.climate = s.climate := by
  unfold requestBindOverride
  exact s.takeChange_climate _ _ fun p u => u.applyBindOverride_climate p

theorem requestUnbindOverride_climate (ref : RecordRef) : (s.requestUnbindOverride ref).1.climate = s.climate := by
  unfold requestUnbindOverride
  exact s.takeChange_climate _ _ fun f u => u.applyUnbindOverride_climate f

theorem requestRetire_climate (ref : RecordRef) : (s.requestRetire ref).1.climate = s.climate := by
  unfold requestRetire
  exact s.takeChange_climate _ _ fun h u => u.applyRetire_climate h

theorem requestRevive_climate (ref : RecordRef) : (s.requestRevive ref).1.climate = s.climate := by
  unfold requestRevive
  exact s.takeChange_climate _ _ fun h u => u.applyRevive_climate h

theorem requestNew_climate (tested : Except Status CreatePlan) : (s.requestNew tested).1.climate = s.climate := by
  unfold requestNew
  exact s.takeChange_climate _ _ fun p u => u.applyCreate_climate p

theorem requestEditSections_climate (i : EditSectionsItems) : (s.requestEditSections i).1.climate = s.climate := by
  unfold requestEditSections
  exact s.takeChange_climate _ _ fun p u => u.applyEditSections_climate i.sections p

theorem requestBase_climate (i : BaseItems) : (s.requestBase i).1.climate = s.climate := by
  unfold requestBase
  exact s.takeChange_climate _ _ fun p u => u.applyBase_climate p

theorem editOrWait_climate (ref : RecordRef) (edit : WaitingEdit) {now : State × Answer}
    (edited : now.1.climate = s.climate) : (s.editOrWait ref edit now).1.climate = s.climate := by
  unfold editOrWait
  split
  · rfl
  · exact edited

theorem completeMove_climate : s.completeMove.climate = s.climate := by
  have edited (u : State) (e : WaitingEdit) : (u.runEdit e).1.climate = u.climate := by
    cases e with
    | sections i => exact u.requestEditSections_climate i
    | base i => exact u.requestBase_climate i
    | set job => exact u.setProfilesLoop_climate _ _ _ _ _
  unfold completeMove
  split
  · next m _ =>
    refine (endMove_climate _).trans ?_
    unfold takeWaitingEdit
    split
    · next tag e _ =>
      dsimp only
      unfold placeEditReply
      split <;> exact edited (s.settleMove m) e
    · rfl
  · rfl

/-! #### The requests that test no access (R57, R64, R70, R82, R130, R148, R157, R159, R164 to R167) -/

theorem lookLoop_climate (cls : RecordClass) (rs : List RecordName) (images : List (List Byte)) :
    (lookLoop cls rs images s).1.climate = s.climate := by
  induction rs generalizing s images with
  | nil => rfl
  | cons r rs ih =>
    have tested := s.watchTest_climate .portLook r
    unfold lookLoop
    dsimp only
    split
    · exact tested
    · exact (ih _ _).trans tested

theorem look_climate (i : LookItems) : (s.look i).1.climate = s.climate := by
  unfold look
  split
  · rfl
  · exact lookLoop_climate s _ _ _

theorem find_climate (i : FindItems) : (s.find i).1.climate = s.climate := by
  unfold find
  split
  · rfl
  · dsimp only
    split <;> rfl

theorem changeMask_climate (m : Option NoticeSet) : (s.changeMask m).1.climate = s.climate := by
  unfold changeMask
  split
  · rfl
  · split
    · rfl
    · split
      · rfl
      · exact endWait_climate _

theorem requestPolicySet_climate (cs : List PolicyChange) : (s.requestPolicySet cs).1.climate = s.climate := by
  unfold requestPolicySet
  split
  · rfl
  · split
    · rfl
    · split
      · rfl
      · exact endWait_climate _

theorem requestCrossStandSet_climate (v : Option PolicyOutcome) :
    (s.requestCrossStandSet v).1.climate = s.climate := by
  unfold requestCrossStandSet
  split
  · rfl
  · split
    · rfl
    · exact endWait_climate _

theorem changeHolds_climate (set : SectorSet) (yes : Bool) : (s.changeHolds set yes).1.climate = s.climate := by
  unfold changeHolds
  split <;> rfl

theorem requestCompactStart_climate : s.requestCompactStart.1.climate = s.climate := by
  unfold requestCompactStart
  split
  · exact nextMove_climate s
  · rfl

theorem requestCompactStop_climate : s.requestCompactStop.1.climate = s.climate := by
  unfold requestCompactStop
  split <;> rfl

theorem requestRebuild_climate : s.requestRebuild.1.climate = s.climate := by
  unfold requestRebuild
  split
  · rfl
  · rw [rebuildDependencies_eq]
    rfl

theorem requestSave_climate : s.requestSave.1.climate = s.climate := by
  refine climate_congr ?_ ?_ (waitingImage_of_storage s.requestSave_storage)
  all_goals
    unfold requestSave
    split <;> rfl

theorem requestLoad_climate : s.requestLoad.1.climate = s.climate := by
  refine climate_congr ?_ ?_ (waitingImage_of_storage s.requestLoad_storage)
  all_goals
    unfold requestLoad
    split
    · rfl
    · split <;> rfl

theorem reconfigure_climate : s.reconfigure.climate = s.climate := queueFeeds_climate s s.heldFeeds

theorem requestWatchSet_climate (i : WatchSetItems) : (s.requestWatchSet i).1.climate = s.climate := by
  unfold requestWatchSet
  split
  · rfl
  · split
    · exact reconfigure_climate _
    · rfl

theorem requestWatchClear_climate (n : Nat) : (s.requestWatchClear n).1.climate = s.climate := by
  unfold requestWatchClear
  split
  · rfl
  · exact reconfigure_climate _

theorem requestReadWatch_climate (n : Nat) : (s.requestReadWatch n).1.climate = s.climate := by
  unfold requestReadWatch
  split <;> rfl

/-! #### The block boundary and the Resolver (R86, R93 to R98, R107, R121, R136) -/

theorem countBlocks_climate : s.countBlocks.climate = s.climate := by
  have sector (n : SectorNo) : (s.countBlocks.sector n).speed = (s.sector n).speed ∧
      (s.countBlocks.sector n).config = (s.sector n).config := by
    have counted : s.countBlocks.sector n = (s.sector n).countBlock := Table.get_tab _ n
    rw [counted, Sector.countBlock]
    split <;> exact ⟨rfl, rfl⟩
  have channel (k : ChannelNo) : s.countBlocks.channel k = (s.channel k).countBlock := Table.get_tab _ k
  simp only [climate, sector, channel, waitingImage_of_storage s.countBlocks_storage]
  rfl

theorem boundary_climate : s.updateHolds.stepFeeds.countBlocks.climate = s.climate := by
  obtain ⟨fs, render, e⟩ := s.boundary_touched
  rw [countBlocks_climate, e]
  exact foldl_keeps climate _ (fun u f => u.watchTest_climate .take (.feed f)) fs _

theorem concludeResolution_climate (f : FeedNo) : (s.concludeResolution f).climate = s.climate := by
  have watched := s.watchTest_climate .autoChange (.feed f)
  cases computed : s.resolution f with
  | error r =>
    rw [concludeResolution_error computed]
    rfl
  | ok r =>
    cases stop : s.stops .autoChange (.feed f) with
    | true =>
      rw [concludeResolution_stopped computed stop]
      exact watched
    | false =>
      rw [concludeResolution_taken computed stop, succeed_eq, queueFeeds_climate]
      exact watched

end State

end Sys2Proof.Machine
end

section
/-! ### Every command keeps the climate ranges (R100, R107, R108) -/

namespace Sys2Proof.Machine

namespace ClimateSound

variable {s t : State}

theorem served (sound : ClimateSound s) {α : Type} (r : Request α) (formed : α → Bool) {run : α → State → State × Work}
    (keeps : ∀ a u, (run a u).1.climate = u.climate) : ClimateSound (serve r formed run s) :=
  State.serve_keeps (fun _ _ sound => ⟨sound.1, sound.2.1, sound.2.2⟩) r formed sound
    fun a u sound => sound.congr (keeps a u)

theorem servedNow (sound : ClimateSound s) {α : Type} (r : Request α) (formed : α → Bool)
    {run : α → State → State × Answer} (keeps : ∀ a u, ClimateSound u → ClimateSound (run a u).1) :
    ClimateSound (serveNow r formed run s) :=
  State.serveNow_keeps (fun _ _ sound => ⟨sound.1, sound.2.1, sound.2.2⟩) r formed sound keeps

/-- A request that writes nothing of the ranges. -/
theorem servedElsewhere (sound : ClimateSound s) {α : Type} (r : Request α) (formed : α → Bool)
    {run : α → State → State × Answer} (same : ∀ a u, (run a u).1.climate = u.climate) :
    ClimateSound (serveNow r formed run s) :=
  sound.servedNow r formed fun a u sound => sound.congr (same a u)

/-- A command whose next state is given. -/
theorem of_next {u : State} (h : (Host.Outcome.next u : Result) = .next t) (sound : ClimateSound u) :
    ClimateSound t := by
  cases h
  exact sound

theorem coldStartEnd (sound : ClimateSound s) (startup : StartupPin) {t : State}
    (h : exec (.coldStartEnd startup) s = .next t) : ClimateSound t := by
  refine of_next h ?_
  split
  · have begun : ∀ u : State, ClimateSound u → ClimateSound u.sampleAlarm := fun u sound => by
      unfold State.sampleAlarm
      split
      · exact sound.congr (u.changeSources_climate _ _)
      · exact sound
    refine begun _ (sound.of_unheld rfl rfl ?_)
    cases startup <;> rfl
  · exact sound

theorem exec (sound : ClimateSound s) {c : Instr} (h : exec c s = .next t) : ClimateSound t := by
  cases c with
  | coldStart => exact of_next h (climateSound_reset.congr rfl)
  | coldStartEnd startup => exact sound.coldStartEnd startup h
  | alarmAssertion => exact of_next h (sound.congr (s.setAlarm_climate true))
  | alarmDeassertion => exact of_next h (sound.congr (s.setAlarm_climate false))
  | transactionBegin =>
    refine of_next h (sound.congr ?_)
    split
    · rfl
    · unfold State.beginTransaction
      split <;> rfl
  | discardedRequest =>
    refine of_next h (sound.congr ?_)
    split
    · split <;> rfl
    · rfl
  | badFrame tag reason =>
    refine of_next h (sound.congr ?_)
    split
    · rfl
    · dsimp only
      split <;> exact s.endTransaction_climate
  | badCommand tag => exact of_next h (sound.servedElsewhere _ _ fun _ _ => rfl)
  | nop q => exact of_next h (sound.servedElsewhere q _ fun _ _ => rfl)
  | status q => exact of_next h (sound.servedElsewhere q _ fun _ _ => rfl)
  | look q => exact of_next h (sound.servedElsewhere q _ fun i u => u.look_climate i)
  | set q => exact of_next h (sound.served q _ fun i u => u.requestSet_climate i)
  | find q => exact of_next h (sound.servedElsewhere q _ fun i u => u.find_climate i)
  | createProfile q => exact of_next h (sound.servedElsewhere q _ fun c u => u.requestNew_climate (u.testCreate c))
  | clone q => exact of_next h (sound.servedElsewhere q _ fun ref u => u.requestNew_climate (u.testClone ref))
  | editSections q =>
    exact of_next h (sound.served q _ fun i u => u.editOrWait_climate _ _ (u.requestEditSections_climate i))
  | base q => exact of_next h (sound.served q _ fun i u => u.editOrWait_climate _ _ (u.requestBase_climate i))
  | retire q => exact of_next h (sound.servedElsewhere q _ fun ref u => u.requestRetire_climate ref)
  | revive q => exact of_next h (sound.servedElsewhere q _ fun ref u => u.requestRevive_climate ref)
  | bind q => exact of_next h (sound.servedElsewhere q _ fun i u => u.requestBind_climate i)
  | unbind q => exact of_next h (sound.servedElsewhere q _ fun ref u => u.requestUnbind_climate ref)
  | bindOverride q => exact of_next h (sound.servedElsewhere q _ fun i u => u.requestBindOverride_climate i)
  | unbindOverride q => exact of_next h (sound.servedElsewhere q _ fun ref u => u.requestUnbindOverride_climate ref)
  | lead q => exact of_next h (sound.servedElsewhere q _ fun i u => u.requestLead_climate i)
  | clearFeed q => exact of_next h (sound.servedElsewhere q _ fun ref u => u.requestClearFeed_climate ref)
  | hold q => exact of_next h (sound.servedElsewhere q _ fun set u => u.changeHolds_climate set true)
  | release q => exact of_next h (sound.servedElsewhere q _ fun set u => u.changeHolds_climate set false)
  | engage q => exact of_next h (sound.servedElsewhere q _ fun _ u => u.changeSources_climate _ _)
  | disengage q => exact of_next h (sound.servedElsewhere q _ fun _ u => u.changeSources_climate _ _)
  | compactStart q => exact of_next h (sound.servedElsewhere q _ fun _ u => u.requestCompactStart_climate)
  | compactStop q => exact of_next h (sound.servedElsewhere q _ fun _ u => u.requestCompactStop_climate)
  | rebuildDependencies q => exact of_next h (sound.servedElsewhere q _ fun _ u => u.requestRebuild_climate)
  | save q => exact of_next h (sound.servedElsewhere q _ fun _ u => u.requestSave_climate)
  | load q => exact of_next h (sound.servedElsewhere q _ fun _ u => u.requestLoad_climate)
  | watchSet q => exact of_next h (sound.servedElsewhere q _ fun i u => u.requestWatchSet_climate i)
  | watchClear q => exact of_next h (sound.servedElsewhere q _ fun n u => u.requestWatchClear_climate n)
  | readWatch q => exact of_next h (sound.servedElsewhere q _ fun n u => u.requestReadWatch_climate n)
  | sensorSet q => exact of_next h (sound.servedNow q _ fun i u sound => sound.requestSensorSet i)
  | sectorSet q => exact of_next h (sound.servedNow q _ fun i u sound => sound.requestSectorSet i)
  | policySet q => exact of_next h (sound.servedElsewhere q _ fun cs u => u.requestPolicySet_climate cs)
  | crossStandSet q => exact of_next h (sound.servedElsewhere q _ fun v u => u.requestCrossStandSet_climate v)
  | readNotices q => exact of_next h (sound.servedElsewhere q _ fun _ _ => rfl)
  | clearNotices q => exact of_next h (sound.servedElsewhere q _ fun _ _ => rfl)
  | noticeMask q => exact of_next h (sound.servedElsewhere q _ fun m u => u.changeMask_climate m)
  | blockBoundary =>
    refine of_next h (sound.congr ?_)
    split
    · rfl
    · exact s.boundary_climate
  | transitionComplete f =>
    refine of_next h (sound.congr ?_)
    dsimp only
    split
    · split <;> rfl
    · rfl
  | sinceChangeTick n =>
    refine of_next h (sound.congr ?_)
    dsimp only
    split
    · split
      · exact s.setSector_climate n rfl rfl
      · rfl
    · rfl
  | conversionStart k =>
    refine of_next h (sound.congr ?_)
    dsimp only
    split
    · exact s.setChannel_climate k rfl rfl
    · rfl
  | readingComplete k measured =>
    refine of_next h ?_
    dsimp only
    split
    · exact sound.congr (s.setChannel_climate k rfl rfl)
    · split
      · refine applyReading (sound.congr (s.setChannel_climate k ?_ ?_)) k _
        all_goals
          unfold Channel.endReading
          split <;> rfl
      · exact sound
  | resolutionStart =>
    refine of_next h (sound.congr ?_)
    split <;> rfl
  | resolutionComplete =>
    refine of_next h (sound.congr ?_)
    split
    · rfl
    · split
      · rfl
      · exact State.concludeResolution_climate _ _
  | moveComplete => exact of_next h (sound.congr s.completeMove_climate)
  | deferredEdit =>
    refine of_next h (sound.congr ?_)
    split
    · exact s.completeMove_climate
    · rfl
  | saveComplete readBack =>
    refine of_next h ?_
    split
    · exact sound.of_unheld rfl rfl rfl
    all_goals exact sound
  | loadReadComplete answer =>
    refine of_next h ?_
    split
    · exact sound.finishRead answer
    all_goals exact sound
  | heldLoadReplacement =>
    refine of_next h ?_
    split
    · next g held =>
      split
      · exact sound
      · exact sound.replaceTables (sound.2.2 g held)
    all_goals exact sound
  | startupWaitExpiry =>
    refine of_next h ?_
    split
    · exact sound.of_unheld rfl rfl rfl
    all_goals exact sound
  | replyPlacement =>
    refine of_next h (sound.congr ?_)
    split <;> rfl

end ClimateSound

/-- Settles O59: a window takes plausible temperatures alone, and a speed is that of a mean of plausible averages or of
a fixed temperature in its range. -/
theorem climateStaysSound : Obligations.ClimateStaysSound := by
  unfold Obligations.ClimateStaysSound
  intro s t sound h
  unfold step at h
  split at h
  · cases h
    exact sound
  · next c rest _ =>
    have dequeued : ClimateSound { s with pending := rest } := ⟨sound.1, sound.2.1, sound.2.2⟩
    exact dequeued.exec h

end Sys2Proof.Machine
end

section
/-! ### HOLD and RELEASE (R129, R130, R131) -/

namespace Sys2Proof.Machine

variable {s : State} {tag : Byte} {set : SectorSet}

namespace State

theorem holds_requestHolds (yes : Bool) (n : SectorNo) : (s.requestHolds set yes).holds.get n =
    ⟨(s.holds.get n).held, if set.getLsbD n.val then yes else (s.holds.get n).request⟩ := by
  have stored : (s.requestHolds set yes).holds.get n =
      if set.getLsbD n.val then (s.holds.get n).ask yes else s.holds.get n := Table.get_tab _ n
  rw [stored]
  split <;> rfl

/-- The reply names the requests as they are now, and the held flags as they were. -/
theorem holdBody_requestHolds (yes : Bool) : (s.requestHolds set yes).holdBody =
    bytes2 (sectorSetOf fun n => ((s.requestHolds set yes).holds.get n).request) ++
      bytes2 (sectorSetOf fun n => (s.holds.get n).held) := by
  have held (n : SectorNo) : ((s.requestHolds set yes).holds.get n).held = (s.holds.get n).held := by
    rw [holds_requestHolds]
  simp only [holdBody, held]

theorem changeHolds_empty (yes : Bool) : s.changeHolds 0 yes = (s, refusal .badValue) := if_pos rfl

theorem changeHolds_named (named : set ≠ 0) (yes : Bool) :
    s.changeHolds set yes = (s.requestHolds set yes, okBody (s.requestHolds set yes).holdBody) := if_neg named

end State

/-- HOLD and RELEASE are one request, but for what the hold requests become. -/
theorem exec_hold_release (yes : Bool) :
    exec (if yes then .hold ⟨tag, some set⟩ else .release ⟨tag, some set⟩) s =
      .next (serveNow ⟨tag, some set⟩ anyItems (fun set s => s.changeHolds set yes) s) := by
  cases yes <;> rfl

theorem exec_hold_release_empty (ready : s.ready) (yes : Bool) :
    exec (if yes then .hold ⟨tag, some 0⟩ else .release ⟨tag, some 0⟩) s =
      .next (s.released.answered tag .badValue []) := by
  rw [exec_hold_release, serveNow_answer ready rfl rfl (State.changeHolds_empty yes)]
  rfl

theorem exec_hold_release_named (ready : s.ready) (named : set ≠ 0) (yes : Bool) :
    exec (if yes then .hold ⟨tag, some set⟩ else .release ⟨tag, some set⟩) s =
      .next ((s.released.requestHolds set yes).answered tag .ok (s.released.requestHolds set yes).holdBody) := by
  rw [exec_hold_release, serveNow_answer ready rfl rfl (State.changeHolds_named named yes)]
  rfl

/-- Settles O45: the requests of the sectors named are stored, and the held flags wait for the next boundary. -/
theorem holdsRequested : Obligations.HoldsRequested := by
  unfold Obligations.HoldsRequested
  intro s tag set ready
  refine ⟨fun empty => ?_, fun named yes => ⟨_, exec_hold_release_named ready named yes, fun n => ?_, ?_⟩⟩
  · subst empty
    exact ⟨exec_hold_release_empty ready true, exec_hold_release_empty ready false⟩
  · exact State.holds_requestHolds (s := s.released) yes n
  · rw [State.holdBody_requestHolds]
    rfl

end Sys2Proof.Machine
end

section
/-! ### TRANSITION_COMPLETE (R122) -/

namespace Sys2Proof.Machine

namespace FeedRender

variable (x : FeedRender) {y : Transition}

/-- On NORMAL a transition other than FADE-OUT leaves its target as ACTIVE. -/
theorem complete_target (kind : y.kind ≠ .fadeOut) (source : x.source = .normal) :
    x.complete y = { x with transition := none, active := y.target } := by
  cases which : y.kind with
  | fadeOut => exact absurd which kind
  | glide => simp [complete, which, source]
  | fadeIn => simp [complete, which, source]
  | crossfade => simp [complete, which, source]

theorem complete_fadeOut_normal (kind : y.kind = .fadeOut) (source : x.source = .normal) :
    x.complete y = { x with transition := none, active := none } := by
  simp [complete, kind, source]

theorem complete_fadeOut_mute (kind : y.kind = .fadeOut) (source : x.source = .mute) :
    x.complete y = { x with transition := none } := by
  simp [complete, kind, source]

theorem complete_standby (kind : y.kind = .glide ∨ y.kind = .crossfade) (source : x.source = .standby) :
    x.complete y = { x with transition := none, standbyInPlay := y.target } := by
  rcases kind with kind | kind <;> simp [complete, kind, source]

end FeedRender

section

variable {s : State} {f : FeedNo} {y : Transition} (inFlight : (s.renderOf f).transition = some y)

include inFlight

theorem exec_transitionComplete_underWay (short : y.blocksDone ≠ y.length) :
    exec (.transitionComplete f) s = .next s := by
  show execTransitionComplete f s = .next s
  simp only [execTransitionComplete, inFlight, if_neg short]

theorem exec_transitionComplete_ended (reached : y.blocksDone = y.length) :
    exec (.transitionComplete f) s = .next (s.setRender f ((s.renderOf f).complete y)) := by
  show execTransitionComplete f s = _
  simp only [execTransitionComplete, inFlight, if_pos reached]

end

/-- Settles O49, by the kind of the transition and the source of the output. -/
theorem transitionCompletes : Obligations.TransitionCompletes := by
  unfold Obligations.TransitionCompletes
  intro s f y inFlight x ended
  refine ⟨exec_transitionComplete_underWay inFlight, fun reached => ?_⟩
  rw [exec_transitionComplete_ended inFlight reached]
  refine ⟨fun target => ?_, fun kind source => ?_, fun kind source => ?_, fun kind source => ?_⟩
  · have kind : y.kind ≠ .fadeOut := by
      rcases target with ⟨kind, -⟩ | ⟨kind, -⟩ | ⟨kind, -⟩ <;> simp [kind]
    have source : x.source = .normal := by
      rcases target with ⟨-, source⟩ | ⟨-, source⟩ | ⟨-, source⟩ <;> exact source
    rw [FeedRender.complete_target _ kind source]
  · rw [FeedRender.complete_fadeOut_normal _ kind source]
  · rw [FeedRender.complete_fadeOut_mute _ kind source]
  · rw [FeedRender.complete_standby _ kind source]

end Sys2Proof.Machine
end

section
/-! ### The block boundary outside the feeds (R107, R129, R136, R144, R145) -/

namespace Sys2Proof.Machine

namespace State

variable {s t : State}

/-! #### The watch tests of the takes -/

/-- The watch test reads the watches and the notices alone. -/
theorem watchTest_congr (watches : t.watches = s.watches) (notices : t.notices = s.notices) (a : Access)
    (r : RecordName) : (t.watchTest a r).1.watches = (s.watchTest a r).1.watches ∧
      (t.watchTest a r).1.notices = (s.watchTest a r).1.notices := by
  have stops : t.stops a r = s.stops a r := by rw [stops, watches, ← stops]
  refine ⟨Table.ext_get fun i => ?_, ?_⟩
  · rw [watchTest_watches, watchTest_watches, watches, stops]
  · rw [watchTest_notices, watchTest_notices, watches, notices]

theorem takesTested_congr (watches : t.watches = s.watches) (notices : t.notices = s.notices) (fs : List FeedNo) :
    (t.takesTested fs).watches = (s.takesTested fs).watches ∧
      (t.takesTested fs).notices = (s.takesTested fs).notices := by
  induction fs generalizing s t with
  | nil => exact ⟨watches, notices⟩
  | cons f fs ih =>
    obtain ⟨watched, noticed⟩ := watchTest_congr watches notices .take (.feed f)
    exact ih watched noticed

/-- The takes of a boundary meet the watches, which change nothing but themselves and the notices (R145). -/
theorem takesTested_frame (s : State) (fs : List FeedNo) : s.takesTested fs =
    { s with watches := (s.takesTested fs).watches, notices := (s.takesTested fs).notices } := by
  induction fs generalizing s with
  | nil => rfl
  | cons f fs ih =>
    let u := (s.watchTest .take (.feed f)).1
    have tested : u = { s with watches := u.watches, notices := u.notices } := s.watchTest_frame .take (.feed f)
    calc u.takesTested fs
        = { u with watches := (u.takesTested fs).watches, notices := (u.takesTested fs).notices } := ih u
      _ = { s with watches := (u.takesTested fs).watches, notices := (u.takesTested fs).notices } :=
          congrArg (fun v : State => { v with
            watches := (u.takesTested fs).watches, notices := (u.takesTested fs).notices }) tested

/-! #### What the clocks count -/

theorem sector_countBlocks (s : State) (n : SectorNo) : s.countBlocks.sector n = { s.sector n with
    blocks := if (s.sector n).sinceChange.isSome then (s.sector n).blocks + 1 else (s.sector n).blocks } := by
  have counted : s.countBlocks.sector n = (s.sector n).countBlock := Table.get_tab _ n
  rw [counted, Sector.countBlock]
  split <;> rfl

theorem channel_countBlocks (s : State) (k : ChannelNo) : s.countBlocks.channel k = { s.channel k with
    toNext := (s.channel k).toNext - 1
    reading := (s.channel k).reading.map fun x => { x with blocksLeft := x.blocksLeft - 1 } } := Table.get_tab _ k

/-! #### A whole boundary -/

/-- What a boundary does outside the feeds, whatever render states it leaves. -/
theorem boundaryKept (s : State) (render : Table FeedRender 96) (fs : List FeedNo) :
    BoundaryKept s ((s.updateHolds.applyOverride.takesTested fs).withRender render).countBlocks fs := by
  have same := takesTested_congr (s := s) (t := s.updateHolds.applyOverride) rfl rfl fs
  obtain ⟨watches, notices⟩ := same
  rw [takesTested_frame, watches, notices]
  constructor
  case holds => exact fun n => Table.get_tab _ n
  case sectors => exact fun n => sector_countBlocks _ n
  case channels => exact fun k => channel_countBlocks _ k
  case image => cases image : s.image <;> simp [withRender, countBlocks, ImageStatus.countBlock, image]
  case watches => rfl
  case notices => rfl
  case frame => rfl

/-- A boundary whose operation touches each feed once: what it does outside the feeds, and to each of them. -/
theorem exec_blockBoundary_touching {due : FeedNo → Bool} {P : FeedNo → FeedRender → Prop}
    (high : s.pins.resetLow = false)
    (each : ∀ u f, Midway s u → u.renderOf f = s.renderOf f →
      ∃ y, P f y ∧ boundaryFeed s.override.state s.override.applied u f = u.touched f (due f) y) :
    ∃ t, exec .blockBoundary s = .next t ∧ BoundaryKept s t (allFeeds.filter due) ∧ ∀ f, P f (t.renderOf f) := by
  have start : Midway s s.updateHolds.applyOverride := ⟨rfl, rfl, rfl, rfl, fun _ _ => rfl⟩
  obtain ⟨render, stepped, held, -⟩ := foldl_touched each allFeeds (List.nodup_finRange 96) _ start fun _ _ => rfl
  refine ⟨((s.updateHolds.applyOverride.takesTested (allFeeds.filter due)).withRender render).countBlocks, ?_,
    s.boundaryKept render _, fun f => held f (List.mem_finRange f)⟩
  have ran : s.updateHolds.stepFeeds = _ := stepped
  rw [← ran]
  exact congrArg Host.Outcome.next (if_neg (by simp [high]))

end State

end Sys2Proof.Machine
end

section
/-! ### What plays during a transition (R119, R120) -/

namespace Sys2Proof.Machine

/-- Tap slip moves the delay by at most 512 sub-samples (R120). -/
theorem glideMethod_eq (old new : Int) :
    glideMethod old new = if |new - old| ≤ 512 then .tapSlip else .tapCrossfade := by
  have size : (new - old).natAbs ≤ 512 ↔ |new - old| ≤ 512 := by rw [Int.abs_eq_natAbs]; omega
  simp only [glideMethod, Config.tapSlipMax, size]

theorem Level.toward_begin (a b : Level) {length : Nat} (some : 0 < length) : a.toward b 0 length = a := by
  simp [Level.toward, Nat.not_le.mpr some]

theorem Level.toward_end (a b : Level) (length : Nat) : a.toward b length length = b := by simp [Level.toward]

/-- The voice of a glide differs from the target's own in its delay alone. -/
theorem Setting.glidingVoice_eq (old : Int) (new : Setting) (done length : Nat) :
    ∃ delay, new.glidingVoice old done length = ⟨delay, new.sections, new.gain, new.polarity, new.bus, .full⟩ ∧
      (done = length → delay = .steady new.outputDelay) ∧
      (done < length → delay = .moving (if |new.outputDelay - old| ≤ 512 then .tapSlip else .tapCrossfade)
        old new.outputDelay done length) := by
  refine ⟨_, rfl, fun ended => if_pos ended.ge, fun short => ?_⟩
  rw [← glideMethod_eq]
  exact if_neg (Nat.not_le.mpr short)

end Sys2Proof.Machine
end

section
/-! ### A boundary where the override's state is already applied (R121, R123, R126, R128, R129, R138) -/

namespace Sys2Proof.Machine

theorem State.boundaryFeed_settled (o : OverrideState) : State.boundaryFeed o o = State.stepFeed := by
  cases o <;> rfl

/-- Settles O46: each feed is touched by its own step alone, and what plays is read off the transition's record. -/
theorem blockBoundarySteps : Obligations.BlockBoundarySteps := by
  unfold Obligations.BlockBoundarySteps
  refine ⟨fun s high settled => ?_, fun old new done length => congrArg some (glideMethod_eq _ _),
    fun x left old new target done length => ?_⟩
  · refine State.exec_blockBoundary_touching high fun u f midway same => ?_
    rw [settled, State.boundaryFeed_settled]
    exact midway.stepFeed same
  · intro during falling rising
    refine ⟨fun a b => ⟨Level.toward_begin a b, Level.toward_end a b length⟩, ?_, rfl, rfl, List.append_nil _, rfl, ?_⟩
    · obtain ⟨delay, alone, rest⟩ := Setting.glidingVoice_eq old.outputDelay new done length
      exact ⟨delay, congrArg List.singleton alone, rest⟩
    · cases target <;> rfl

end Sys2Proof.Machine
end

section
/-! ### What each operation on a feed's render state keeps (R117, R122, R125, R126, R128, R137, R138, R141) -/

namespace Sys2Proof.Machine

/-- The rule of R117 for one feed: PENDING never beside a silence order, standby in play only on STANDBY. -/
def FeedRender.Sound (x : FeedRender) : Prop :=
  (x.silenceOrder = true → x.pending = none) ∧ (x.source ≠ .standby → x.standbyInPlay = none)

theorem renderSound_iff {s : State} : RenderSound s ↔ ∀ f, (s.renderOf f).Sound := Iff.rfl

namespace FeedRender

/-- A completion changes ACTIVE, the transition, and on STANDBY standby in play. -/
theorem complete_keeps (x : FeedRender) (y : Transition) :
    (x.complete y).silenceOrder = x.silenceOrder ∧ (x.complete y).pending = x.pending ∧
      (x.complete y).source = x.source ∧ (x.source ≠ .standby → (x.complete y).standbyInPlay = x.standbyInPlay) := by
  cases kind : y.kind <;> cases source : x.source <;> simp [complete, kind, source]

namespace Sound

variable {x : FeedRender}

/-- A silence order carried out or replaced leaves the rule of the standby in play alone. -/
theorem without_order {y : FeedRender} (sound : x.Sound) (order : y.silenceOrder = false) (source : y.source = x.source)
    (inPlay : y.standbyInPlay = x.standbyInPlay) : y.Sound := by
  refine ⟨fun placed => ?_, fun off => ?_⟩
  · rw [order] at placed
    cases placed
  · rw [inPlay]
    exact sound.2 (source ▸ off)

theorem complete (sound : x.Sound) (y : Transition) : (x.complete y).Sound := by
  obtain ⟨order, pending, source, inPlay⟩ := x.complete_keeps y
  refine ⟨fun placed => ?_, fun off => ?_⟩
  · rw [pending]
    exact sound.1 (order ▸ placed)
  · rw [source] at off
    rw [inPlay off]
    exact sound.2 off

theorem advance (sound : x.Sound) (y : Transition) : (x.advance y).Sound := by
  unfold FeedRender.advance
  dsimp only
  split
  · exact sound.complete _
  · exact sound

theorem cutShort (sound : x.Sound) : x.cutShort.Sound := by
  unfold FeedRender.cutShort
  split
  · exact sound.complete _
  · exact sound

theorem dropQuietly (sound : x.Sound) : x.dropQuietly.Sound := by
  unfold FeedRender.dropQuietly
  split
  · exact sound.without_order rfl rfl rfl
  · exact sound

theorem carrySilence (sound : x.Sound) : x.carrySilence.Sound := by
  unfold FeedRender.carrySilence
  split
  · exact sound.without_order rfl rfl rfl
  · exact sound.dropQuietly
  · exact sound.dropQuietly

theorem take (sound : x.Sound) (p : Setting) (glide : Nat) : (x.take p glide).Sound := by
  unfold FeedRender.take
  dsimp only
  split
  · exact ⟨fun _ => rfl, sound.2⟩
  · split <;> exact ⟨fun _ => rfl, sound.2⟩

theorem updateStandby (sound : x.Sound) (source : x.source = .standby) (glide : Nat) :
    (x.updateStandby glide).Sound := by
  unfold FeedRender.updateStandby
  split
  · exact sound
  · split
    · split
      · exact ⟨sound.1, fun off => absurd source off⟩
      · exact sound
    · exact sound
    · exact sound

theorem lateStandby (sound : x.Sound) : x.lateStandby.Sound := by
  unfold FeedRender.lateStandby
  split
  · exact ⟨sound.1, fun off => absurd rfl off⟩
  · exact sound

theorem leaveNormal (sound : x.Sound) (sw : Bool) (left : OutputLeft) : (x.leaveNormal sw left).Sound := by
  unfold FeedRender.leaveNormal
  split
  · exact ⟨sound.1, fun off => absurd rfl off⟩
  · exact ⟨sound.1, fun _ => rfl⟩

theorem engage (sound : x.Sound) (sw : Bool) : (x.engage sw).Sound := sound.cutShort.dropQuietly.leaveNormal sw _

theorem returned (sound : x.Sound) (left : OutputLeft) (taken : Option Setting) : (x.return left taken).Sound := by
  unfold FeedRender.return
  dsimp only
  split
  · exact ⟨fun _ => rfl, fun _ => rfl⟩
  · split <;> exact ⟨sound.1, fun _ => rfl⟩
  · exact ⟨fun _ => rfl, fun _ => rfl⟩
  · exact ⟨sound.1, fun _ => rfl⟩

/-! #### Delivery (R96, R97) -/

/-- A silence order is placed where the normal setting is silence, and PENDING is removed with it. -/
theorem delivered (sound : x.Sound) (normal standby : Option Setting) :
    ((x.deliverNormal normal).deliverStandby standby).Sound := by
  rw [delivered_eq]
  refine ⟨fun placed => ?_, sound.2⟩
  obtain ⟨-, silence⟩ : normal ≠ x.settled ∧ normal = none := of_decide_eq_true placed
  subst silence
  exact ite_self none

end Sound

end FeedRender

end Sys2Proof.Machine
end

section
/-! ### The block boundary, the Resolver and the watches keep the rule of R117 (R96, R121, R136, R148) -/

namespace Sys2Proof.Machine

namespace RenderSound

variable {s t : State}

theorem congr (sound : RenderSound s) (same : t.render = s.render) : RenderSound t := by
  intro f
  rw [State.renderOf, same]
  exact sound f

theorem setRender (sound : RenderSound s) (f : FeedNo) {x : FeedRender} (own : x.Sound) :
    RenderSound (s.setRender f x) := by
  refine renderSound_iff.mpr fun g => ?_
  by_cases same : g = f
  · rw [same, State.renderOf_setRender]
    exact own
  · rw [State.renderOf_setRender_other s x same]
    exact sound g

theorem testTake (sound : RenderSound s) (f : FeedNo) : RenderSound (s.testTake f).1 := by
  cases takeable : s.takeable f with
  | none =>
    rw [State.testTake_undue takeable]
    exact sound
  | some p =>
    have tested : RenderSound (s.watchTest .take (.feed f)).1 := sound.congr (s.watchTest_render ..)
    cases stop : s.stops .take (.feed f) with
    | true =>
      rw [State.testTake_stopped takeable stop]
      exact tested.setRender f (sound f)
    | false =>
      rw [State.testTake_taken takeable stop]
      exact tested

theorem stepTake (sound : RenderSound s) (f : FeedNo) : RenderSound (s.stepTake f) := by
  have tested := sound.testTake f
  unfold State.stepTake
  split
  · next u p e =>
    rw [e] at tested
    exact tested.setRender f (FeedRender.Sound.take (tested f) p _)
  · next u e =>
    rw [e] at tested
    exact tested

theorem stepFeed (sound : RenderSound s) (f : FeedNo) : RenderSound (s.stepFeed f) := by
  have own : (s.renderOf f).Sound := sound f
  unfold State.stepFeed
  dsimp only
  split
  · exact sound.setRender f own.carrySilence
  · split
    · exact sound.setRender f (own.advance _)
    · next source => exact sound.setRender f (own.updateStandby source _)
    · split
      · exact sound.setRender f own.lateStandby
      · exact sound
    · exact sound.stepTake f

theorem engageFeed (sound : RenderSound s) (f : FeedNo) : RenderSound (s.engageFeed f) := by
  have own : (s.renderOf f).Sound := sound f
  unfold State.engageFeed
  split
  · exact sound.stepFeed f
  · exact sound.setRender f (own.engage false)
  · exact sound.setRender f (own.engage true)

theorem disengageFeed (sound : RenderSound s) (f : FeedNo) : RenderSound (s.disengageFeed f) := by
  have abandoned : ({ s.renderOf f with transition := none } : FeedRender).Sound := sound f
  have tested := (sound.setRender f abandoned.dropQuietly).testTake f
  have returned := tested.setRender f (FeedRender.Sound.returned (tested f) (s.renderOf f).outputAtBoundary
    ((s.setRender f ({ s.renderOf f with transition := none } : FeedRender).dropQuietly).testTake f).2)
  unfold State.disengageFeed
  dsimp only
  split
  · exact sound.stepFeed f
  · exact returned
  · exact returned

theorem boundaryFeed (sound : RenderSound s) (state applied : OverrideState) (f : FeedNo) :
    RenderSound (State.boundaryFeed state applied s f) := by
  cases state <;> cases applied
  · exact sound.stepFeed f
  · exact sound.disengageFeed f
  · exact sound.engageFeed f
  · exact sound.stepFeed f

theorem blockBoundary (sound : RenderSound s) : RenderSound s.updateHolds.stepFeeds.countBlocks := by
  have start : RenderSound s.updateHolds.applyOverride := sound
  have stepped : RenderSound s.updateHolds.stepFeeds :=
    List.foldlRecOn (motive := RenderSound) allFeeds _ start fun _ sound f _ => sound.boundaryFeed _ _ f
  exact stepped

theorem concludeResolution (sound : RenderSound s) (f : FeedNo) : RenderSound (s.concludeResolution f) := by
  have watched : RenderSound (s.watchTest .autoChange (.feed f)).1 := sound.congr (s.watchTest_render ..)
  cases computed : s.resolution f with
  | error r =>
    rw [State.concludeResolution_error computed]
    exact sound
  | ok r =>
    cases stop : s.stops .autoChange (.feed f) with
    | true =>
      rw [State.concludeResolution_stopped computed stop]
      exact watched
    | false =>
      rw [State.concludeResolution_taken computed stop, State.succeed_eq]
      refine congr (watched.setRender f (FeedRender.Sound.delivered (watched f) r.normal r.standby)) ?_
      exact State.queueFeeds_render ..

theorem reconfigure (sound : RenderSound s) : RenderSound s.reconfigure := by
  have queued : RenderSound (s.queueFeeds s.heldFeeds) := sound.congr (s.queueFeeds_render _)
  refine renderSound_iff.mpr fun f => ?_
  have unstopped : s.reconfigure.renderOf f = ((s.queueFeeds s.heldFeeds).renderOf f).unstop := Table.get_tab _ f
  rw [unstopped]
  exact queued f

theorem requestWatchSet (sound : RenderSound s) (i : WatchSetItems) : RenderSound (s.requestWatchSet i).1 := by
  unfold State.requestWatchSet
  split
  · exact sound
  · split
    · exact reconfigure (s := s.setWatch _ _) sound
    · exact sound

theorem requestWatchClear (sound : RenderSound s) (n : Nat) : RenderSound (s.requestWatchClear n).1 := by
  unfold State.requestWatchClear
  split
  · exact sound
  · exact reconfigure (s := s.setWatch _ _) sound

end RenderSound

end Sys2Proof.Machine
end

section
/-! ### Operations that leave the render states alone -/

namespace Sys2Proof.Machine

namespace State

variable (s : State)

/-! #### Change requests (R10, R12 to R20, R35 to R49, R160) -/

theorem takeChange_render {α : Type} (tested : Except Status α) (record : α → RecordName) {effect : α → State → State}
    (same : ∀ a u, (effect a u).render = u.render) : (s.takeChange tested record effect).1.render = s.render := by
  cases tested with
  | error st => rfl
  | ok a =>
    have watched := s.watchTest_render .portChange (record a)
    cases stop : s.stops .portChange (record a) with
    | true =>
      rw [takeChange_stopped s record effect a stop]
      exact watched
    | false =>
      rw [takeChange_taken s record effect a stop, endWait_render, afterAbandon_render, same]
      exact watched

theorem applyFeedChange_render (f : FeedNo) (c : FeedChange) : (s.applyFeedChange f c).render = s.render := by
  rw [applyFeedChange_frame]

theorem applyLead_render (p : LeadPlan) : (s.applyLead p).render = s.render := by
  rw [applyLead_frame]

theorem applyClearFeed_render (f : FeedNo) : (s.applyClearFeed f).render = s.render := by
  rw [applyClearFeed_frame]

theorem applyBind_render (p : BindPlan) : (s.applyBind p).render = s.render :=
  (notifyPolicy_render _ _ _).trans (replaceReference_render _ _ _)

theorem applyUnbind_render (f : FeedNo) : (s.applyUnbind f).render = s.render := dropOptional_render _ _

theorem applyBindOverride_render (p : BindPlan) : (s.applyBindOverride p).render = s.render :=
  (notifyPolicy_render _ _ _).trans (replaceReference_render _ _ _)

theorem applyUnbindOverride_render (f : FeedNo) : (s.applyUnbindOverride f).render = s.render :=
  dropOptional_render _ _

theorem applyRetire_render (h : HandleIx) : (s.applyRetire h).render = s.render := by
  unfold applyRetire
  dsimp only
  split
  · split
    · exact s.freeHandle_render h
    · rfl
  all_goals rfl

theorem applyRevive_render (h : HandleIx) : (s.applyRevive h).render = s.render := by
  unfold applyRevive
  dsimp only
  split <;> rfl

theorem applyCreate_render (p : CreatePlan) : (s.applyCreate p).render = s.render := by
  unfold applyCreate referToBase
  dsimp only
  split
  · rfl
  · exact notifyPolicy_render _ _ _

theorem applyProfileChange_render (h : HandleIx) (c : ProfileChange) :
    (s.applyProfileChange h c).render = s.render := by
  unfold applyProfileChange
  dsimp only
  split
  · exact queueFeeds_render _ _
  · rfl

theorem applyEditSections_render (sections : List EqSection) (p : EditPlan) :
    (s.applyEditSections sections p).render = s.render := queueFeeds_render _ _

theorem applyBase_render (p : BasePlan) : (s.applyBase p).render = s.render := by
  refine (queueFeeds_render _ _).trans ?_
  unfold changeBaseReference
  split
  · exact dropOptional_render _ _
  · exact (notifyPolicy_render _ _ _).trans (replaceReference_render _ _ _)

theorem setFeedsLoop_render (field : Nat) (v : Int) (fs : List FeedNo) (done : Nat) :
    (setFeedsLoop field v fs done s).1.render = s.render := by
  induction fs generalizing s done with
  | nil => rfl
  | cons f fs ih =>
    have one : (s.setOneFeed f field v).1.render = s.render :=
      s.takeChange_render _ _ fun c u => u.applyFeedChange_render f c
    unfold setFeedsLoop
    split
    · next e =>
      rw [e] at one
      exact (ih _ _).trans one
    · next e =>
      rw [e] at one
      exact one

theorem setProfilesLoop_render (field : Nat) (v : Int) (ns : List Nat) (named : Option Nat) (done : Nat) :
    (setProfilesLoop field v ns named done s).1.render = s.render := by
  induction ns generalizing s named done with
  | nil => rfl
  | cons n ns ih =>
    have one : (s.setOneProfile n (named.getD (s.presentGen .profile n)) field v).1.render = s.render :=
      s.takeChange_render _ _ fun p u => u.applyProfileChange_render p.1 p.2
    unfold setProfilesLoop
    dsimp only
    split
    · rfl
    · split
      · next e =>
        rw [e] at one
        exact (ih _ _ _).trans one
      · next e =>
        rw [e] at one
        exact one

theorem requestSet_render (i : SetItems) : (s.requestSet i).1.render = s.render := by
  unfold requestSet
  split
  · rfl
  · split
    · exact s.setFeedsLoop_render _ _ _ _
    · exact s.setProfilesLoop_render _ _ _ _ _
    all_goals rfl

theorem requestLead_render (i : LeadItems) : (s.requestLead i).1.render = s.render := by
  unfold requestLead
  exact s.takeChange_render _ _ fun p u => u.applyLead_render p

theorem requestClearFeed_render (ref : RecordRef) : (s.requestClearFeed ref).1.render = s.render := by
  unfold requestClearFeed
  exact s.takeChange_render _ _ fun f u => u.applyClearFeed_render f

theorem requestBind_render (i : BindItems) : (s.requestBind i).1.render = s.render := by
  unfold requestBind
  exact s.takeChange_render _ _ fun p u => u.applyBind_render p

theorem requestUnbind_render (ref : RecordRef) : (s.requestUnbind ref).1.render = s.render := by
  unfold requestUnbind
  exact s.takeChange_render _ _ fun f u => u.applyUnbind_render f

theorem requestBindOverride_render (i : BindItems) : (s.requestBindOverride i).1.render = s.render := by
  unfold requestBindOverride
  exact s.takeChange_render _ _ fun p u => u.applyBindOverride_render p

theorem requestUnbindOverride_render (ref : RecordRef) : (s.requestUnbindOverride ref).1.render = s.render := by
  unfold requestUnbindOverride
  exact s.takeChange_render _ _ fun f u => u.applyUnbindOverride_render f

theorem requestRetire_render (ref : RecordRef) : (s.requestRetire ref).1.render = s.render := by
  unfold requestRetire
  exact s.takeChange_render _ _ fun h u => u.applyRetire_render h

theorem requestRevive_render (ref : RecordRef) : (s.requestRevive ref).1.render = s.render := by
  unfold requestRevive
  exact s.takeChange_render _ _ fun h u => u.applyRevive_render h

theorem requestNew_render (tested : Except Status CreatePlan) : (s.requestNew tested).1.render = s.render := by
  unfold requestNew
  exact s.takeChange_render _ _ fun p u => u.applyCreate_render p

theorem requestEditSections_render (i : EditSectionsItems) : (s.requestEditSections i).1.render = s.render := by
  unfold requestEditSections
  exact s.takeChange_render _ _ fun p u => u.applyEditSections_render i.sections p

theorem requestBase_render (i : BaseItems) : (s.requestBase i).1.render = s.render := by
  unfold requestBase
  exact s.takeChange_render _ _ fun p u => u.applyBase_render p

/-! #### Moves, and the edits that wait for them (R60, R61) -/

theorem editOrWait_render (ref : RecordRef) (edit : WaitingEdit) {now : State × Answer}
    (edited : now.1.render = s.render) : (s.editOrWait ref edit now).1.render = s.render := by
  unfold editOrWait
  split
  · rfl
  · exact edited

theorem runEdit_render (e : WaitingEdit) : (s.runEdit e).1.render = s.render := by
  cases e with
  | sections i => exact s.requestEditSections_render i
  | base i => exact s.requestBase_render i
  | set job => exact s.setProfilesLoop_render _ _ _ _ _

theorem endMove_render : s.endMove.render = s.render := by
  unfold endMove
  dsimp only
  split
  · rfl
  · exact nextMove_render _

theorem completeMove_render : s.completeMove.render = s.render := by
  unfold completeMove
  split
  · next m _ =>
    refine (endMove_render _).trans ?_
    unfold takeWaitingEdit
    split
    · next tag e _ =>
      dsimp only
      unfold placeEditReply
      split <;> exact (s.settleMove m).runEdit_render e
    · rfl
  · rfl

/-! #### The requests that test no access (R57, R64, R70, R74, R82, R130, R148, R157, R159, R164 to R167) -/

theorem lookLoop_render (cls : RecordClass) (rs : List RecordName) (images : List (List Byte)) :
    (lookLoop cls rs images s).1.render = s.render := by
  induction rs generalizing s images with
  | nil => rfl
  | cons r rs ih =>
    have tested := s.watchTest_render .portLook r
    unfold lookLoop
    dsimp only
    split
    · exact tested
    · exact (ih _ _).trans tested

theorem look_render (i : LookItems) : (s.look i).1.render = s.render := by
  unfold look
  split
  · rfl
  · exact lookLoop_render s _ _ _

theorem find_render (i : FindItems) : (s.find i).1.render = s.render := by
  unfold find
  split
  · rfl
  · dsimp only
    split <;> rfl

theorem changeMask_render (m : Option NoticeSet) : (s.changeMask m).1.render = s.render := by
  unfold changeMask
  split
  · rfl
  · split
    · rfl
    · split
      · rfl
      · exact endWait_render _

theorem requestPolicySet_render (cs : List PolicyChange) : (s.requestPolicySet cs).1.render = s.render := by
  unfold requestPolicySet
  split
  · rfl
  · split
    · rfl
    · split
      · rfl
      · exact endWait_render _

theorem requestCrossStandSet_render (v : Option PolicyOutcome) : (s.requestCrossStandSet v).1.render = s.render := by
  unfold requestCrossStandSet
  split
  · rfl
  · split
    · rfl
    · exact endWait_render _

theorem changeHolds_render (set : SectorSet) (yes : Bool) : (s.changeHolds set yes).1.render = s.render := by
  unfold changeHolds
  split <;> rfl

theorem requestCompactStart_render : s.requestCompactStart.1.render = s.render := by
  unfold requestCompactStart
  split
  · exact nextMove_render s
  · rfl

theorem requestCompactStop_render : s.requestCompactStop.1.render = s.render := by
  unfold requestCompactStop
  split <;> rfl

theorem requestRebuild_render : s.requestRebuild.1.render = s.render := by
  unfold requestRebuild
  split
  · rfl
  · rw [rebuildDependencies_eq]

theorem requestSave_render : s.requestSave.1.render = s.render := by
  unfold requestSave
  split <;> rfl

theorem requestLoad_render : s.requestLoad.1.render = s.render := by
  unfold requestLoad
  split
  · rfl
  · split <;> rfl

theorem requestReadWatch_render (n : Nat) : (s.requestReadWatch n).1.render = s.render := by
  unfold requestReadWatch
  split <;> rfl

/-! #### The Climate Unit (R104 to R106, R109, R114, R115) -/

theorem applyReading_render (k : ChannelNo) (code : Int) : (s.applyReading k code).render = s.render := by
  have evaluated (u : State) (o : Option SectorNo) : (u.evaluateOptional o).render = u.render := by
    cases o with
    | none => rfl
    | some n => exact u.fullEvaluation_render n
  unfold applyReading
  dsimp only
  rw [evaluated]
  split <;> rfl

theorem requestSensorSet_render (i : SensorSetItems) : (s.requestSensorSet i).1.render = s.render := by
  have evaluated (u : State) (ns : List SectorNo) : (ns.foldl statusEvaluation u).render = u.render :=
    foldl_keeps State.render _ statusEvaluation_render ns u
  unfold requestSensorSet
  split
  · rfl
  · exact (endWait_render _).trans (evaluated _ _)

theorem actOnMode_render (n : SectorNo) (old : SectorConfig) : (s.actOnMode n old).render = s.render := by
  have fixed : (s.fixSector n).render = s.render := by
    unfold fixSector
    dsimp only
    split
    · rfl
    · exact changeSpeed_render _ _ _
  unfold actOnMode
  dsimp only
  split
  · exact statusEvaluation_render _ _
  · exact fixed
  · split
    · rfl
    · exact fixed
  · rfl

theorem requestSectorSet_render (i : SectorSetItems) : (s.requestSectorSet i).1.render = s.render := by
  unfold requestSectorSet
  split
  · rfl
  · exact (endWait_render _).trans (actOnMode_render _ _ _)

/-! #### Pins, the release, and a load (R134, R150, R167, R169) -/

theorem setAlarm_render (level : Bool) : (s.setAlarm level).render = s.render := by
  unfold setAlarm
  dsimp only
  split
  · rfl
  · exact changeSources_render _ _ _

theorem sampleAlarm_render : s.sampleAlarm.render = s.render := by
  unfold sampleAlarm
  split
  · exact changeSources_render _ _ _
  · rfl

theorem endTransaction_render : s.endTransaction.1.render = s.render := by
  obtain ⟨p, e⟩ := s.endTransaction_frame
  rw [e]

theorem replaceTables_render (g : Image) : (s.replaceTables g).render = s.render := by
  have requeued : (s.withTables g).requeueAll.render = s.render := queueFeeds_render _ _
  unfold replaceTables
  rw [rebuildDependencies_eq]
  generalize (s.withTables g).requeueAll = u at requeued
  exact requeued

theorem finishRead_render (answer : FlashAnswer) : (s.finishRead answer).render = s.render := by
  unfold finishRead
  dsimp only
  split
  · rfl
  · split
    · rfl
    · exact replaceTables_render _ _

end State

end Sys2Proof.Machine
end

section
/-! ### Every command keeps the rule of R117 -/

namespace Sys2Proof.Machine

namespace RenderSound

variable {s t : State}

theorem servedNow (sound : RenderSound s) {α : Type} (r : Request α) (formed : α → Bool)
    {run : α → State → State × Answer} (keeps : ∀ a u, RenderSound u → RenderSound (run a u).1) :
    RenderSound (serveNow r formed run s) :=
  State.serveNow_keeps (fun _ _ sound => sound) r formed sound keeps

/-- A request whose run leaves the render states alone. -/
theorem served (sound : RenderSound s) {α : Type} (r : Request α) (formed : α → Bool) {run : α → State → State × Work}
    (same : ∀ a u, (run a u).1.render = u.render) : RenderSound (serve r formed run s) :=
  State.serve_keeps (fun _ _ sound => sound) r formed sound fun a u sound => sound.congr (same a u)

theorem servedElsewhere (sound : RenderSound s) {α : Type} (r : Request α) (formed : α → Bool)
    {run : α → State → State × Answer} (same : ∀ a u, (run a u).1.render = u.render) :
    RenderSound (serveNow r formed run s) :=
  sound.servedNow r formed fun a u sound => sound.congr (same a u)

/-- A command whose next state is given. -/
theorem of_next {u : State} (h : (Host.Outcome.next u : Result) = .next t) (sound : RenderSound u) : RenderSound t := by
  cases h
  exact sound

theorem transitionComplete (sound : RenderSound s) (f : FeedNo) (h : Machine.exec (.transitionComplete f) s = .next t) :
    RenderSound t := by
  refine of_next h ?_
  dsimp only
  split
  · split
    · exact sound.setRender f (FeedRender.Sound.complete (sound f) _)
    · exact sound
  · exact sound

theorem exec (sound : RenderSound s) {c : Instr} (h : exec c s = .next t) : RenderSound t := by
  cases c with
  | coldStart => exact of_next h renderSound_reset
  | coldStartEnd startup =>
    refine of_next h ?_
    split
    · exact sound.congr (State.sampleAlarm_render _)
    · exact sound
  | alarmAssertion => exact of_next h (sound.congr (s.setAlarm_render true))
  | alarmDeassertion => exact of_next h (sound.congr (s.setAlarm_render false))
  | transactionBegin =>
    refine of_next h (sound.congr ?_)
    split
    · rfl
    · unfold State.beginTransaction
      split <;> rfl
  | discardedRequest =>
    refine of_next h (sound.congr ?_)
    split
    · split <;> rfl
    · rfl
  | badFrame tag reason =>
    refine of_next h (sound.congr ?_)
    split
    · rfl
    · dsimp only
      split <;> exact s.endTransaction_render
  | badCommand tag => exact of_next h (sound.servedElsewhere _ _ fun _ _ => rfl)
  | nop q => exact of_next h (sound.servedElsewhere q _ fun _ _ => rfl)
  | status q => exact of_next h (sound.servedElsewhere q _ fun _ _ => rfl)
  | look q => exact of_next h (sound.servedElsewhere q _ fun i u => u.look_render i)
  | set q => exact of_next h (sound.served q _ fun i u => u.requestSet_render i)
  | find q => exact of_next h (sound.servedElsewhere q _ fun i u => u.find_render i)
  | createProfile q => exact of_next h (sound.servedElsewhere q _ fun c u => u.requestNew_render (u.testCreate c))
  | clone q => exact of_next h (sound.servedElsewhere q _ fun ref u => u.requestNew_render (u.testClone ref))
  | editSections q =>
    exact of_next h (sound.served q _ fun i u => u.editOrWait_render _ _ (u.requestEditSections_render i))
  | base q => exact of_next h (sound.served q _ fun i u => u.editOrWait_render _ _ (u.requestBase_render i))
  | retire q => exact of_next h (sound.servedElsewhere q _ fun ref u => u.requestRetire_render ref)
  | revive q => exact of_next h (sound.servedElsewhere q _ fun ref u => u.requestRevive_render ref)
  | bind q => exact of_next h (sound.servedElsewhere q _ fun i u => u.requestBind_render i)
  | unbind q => exact of_next h (sound.servedElsewhere q _ fun ref u => u.requestUnbind_render ref)
  | bindOverride q => exact of_next h (sound.servedElsewhere q _ fun i u => u.requestBindOverride_render i)
  | unbindOverride q => exact of_next h (sound.servedElsewhere q _ fun ref u => u.requestUnbindOverride_render ref)
  | lead q => exact of_next h (sound.servedElsewhere q _ fun i u => u.requestLead_render i)
  | clearFeed q => exact of_next h (sound.servedElsewhere q _ fun ref u => u.requestClearFeed_render ref)
  | hold q => exact of_next h (sound.servedElsewhere q _ fun set u => u.changeHolds_render set true)
  | release q => exact of_next h (sound.servedElsewhere q _ fun set u => u.changeHolds_render set false)
  | engage q => exact of_next h (sound.servedElsewhere q _ fun _ u => u.changeSources_render _ _)
  | disengage q => exact of_next h (sound.servedElsewhere q _ fun _ u => u.changeSources_render _ _)
  | compactStart q => exact of_next h (sound.servedElsewhere q _ fun _ u => u.requestCompactStart_render)
  | compactStop q => exact of_next h (sound.servedElsewhere q _ fun _ u => u.requestCompactStop_render)
  | rebuildDependencies q => exact of_next h (sound.servedElsewhere q _ fun _ u => u.requestRebuild_render)
  | save q => exact of_next h (sound.servedElsewhere q _ fun _ u => u.requestSave_render)
  | load q => exact of_next h (sound.servedElsewhere q _ fun _ u => u.requestLoad_render)
  | watchSet q => exact of_next h (sound.servedNow q _ fun i u sound => sound.requestWatchSet i)
  | watchClear q => exact of_next h (sound.servedNow q _ fun n u sound => sound.requestWatchClear n)
  | readWatch q => exact of_next h (sound.servedElsewhere q _ fun n u => u.requestReadWatch_render n)
  | sensorSet q => exact of_next h (sound.servedElsewhere q _ fun i u => u.requestSensorSet_render i)
  | sectorSet q => exact of_next h (sound.servedElsewhere q _ fun i u => u.requestSectorSet_render i)
  | policySet q => exact of_next h (sound.servedElsewhere q _ fun cs u => u.requestPolicySet_render cs)
  | crossStandSet q => exact of_next h (sound.servedElsewhere q _ fun v u => u.requestCrossStandSet_render v)
  | readNotices q => exact of_next h (sound.servedElsewhere q _ fun _ _ => rfl)
  | clearNotices q => exact of_next h (sound.servedElsewhere q _ fun _ _ => rfl)
  | noticeMask q => exact of_next h (sound.servedElsewhere q _ fun m u => u.changeMask_render m)
  | blockBoundary =>
    refine of_next h ?_
    split
    · exact sound
    · exact sound.blockBoundary
  | transitionComplete f => exact sound.transitionComplete f h
  | sinceChangeTick n =>
    refine of_next h (sound.congr ?_)
    dsimp only
    split
    · split <;> rfl
    · rfl
  | conversionStart k =>
    refine of_next h (sound.congr ?_)
    dsimp only
    split <;> rfl
  | readingComplete k measured =>
    refine of_next h (sound.congr ?_)
    dsimp only
    split
    · rfl
    · split
      · exact State.applyReading_render _ _ _
      · rfl
  | resolutionStart =>
    refine of_next h (sound.congr ?_)
    split <;> rfl
  | resolutionComplete =>
    refine of_next h ?_
    split
    · exact sound
    · split
      · exact sound
      · exact concludeResolution (s := s.clearInFlight) sound _
  | moveComplete => exact of_next h (sound.congr s.completeMove_render)
  | deferredEdit =>
    refine of_next h (sound.congr ?_)
    split
    · exact s.completeMove_render
    · rfl
  | saveComplete readBack =>
    refine of_next h (sound.congr ?_)
    split <;> rfl
  | loadReadComplete answer =>
    refine of_next h (sound.congr ?_)
    split
    · exact s.finishRead_render answer
    all_goals rfl
  | heldLoadReplacement =>
    refine of_next h (sound.congr ?_)
    split
    · split
      · rfl
      · exact s.replaceTables_render _
    all_goals rfl
  | startupWaitExpiry =>
    refine of_next h (sound.congr ?_)
    split <;> rfl
  | replyPlacement =>
    refine of_next h (sound.congr ?_)
    split <;> rfl

end RenderSound

/-- Settles O58: a PENDING is written where its silence order falls, and a feed that leaves STANDBY gives up its standby
in play. -/
theorem renderStaysSound : Obligations.RenderStaysSound := by
  unfold Obligations.RenderStaysSound
  intro s t sound h
  unfold step at h
  split at h
  · cases h
    exact sound
  · next c rest _ =>
    have dequeued : RenderSound { s with pending := rest } := sound
    exact dequeued.exec h

end Sys2Proof.Machine
end

section
/-! ### The sources of the override (R133, R134, R135) -/

namespace Sys2Proof.Machine

/-! #### The state that the sources give (R133) -/

namespace Override

theorem fromSources_alarm_active (o : Override) :
    ({ o with alarmActive := true } : Override).fromSources = .engaged := rfl

theorem fromSources_alarm_released (o : Override) : ({ o with alarmActive := false } : Override).fromSources =
    if o.portActive then .engaged else .clear := rfl

theorem fromSources_port_active (o : Override) :
    ({ o with portActive := true } : Override).fromSources = .engaged :=
  if_pos (Bool.or_true _)

theorem fromSources_port_released (o : Override) : ({ o with portActive := false } : Override).fromSources =
    if o.alarmActive then .engaged else .clear := by
  simp only [fromSources, Bool.or_false]

end Override

namespace State

/-- A change of the sources touches the Override Unit, and the notices where the state has changed. -/
theorem changeSources_eq (s : State) (c : OverrideSource) (o : Override) : s.changeSources c o =
    { s with
      override := { o with state := o.fromSources }
      notices := if s.override.state = o.fromSources then s.notices
        else s.notices.raise (.override o.fromSources c) } := by
  unfold changeSources
  by_cases same : s.override.state = o.fromSources
  · simp only [same, if_true]
  · simp only [if_neg same, if_neg (Ne.symm same)]
    rfl

theorem setAlarm_resetLow {s : State} (low : s.pins.resetLow = true) (level : Bool) :
    s.setAlarm level = { s with pins := { s.pins with alarm := level } } := if_pos low

theorem setAlarm_resetHigh {s : State} (high : s.pins.resetLow = false) (level : Bool) : s.setAlarm level =
    ({ s with pins := { s.pins with alarm := level } }).changeSources .alarm
      { s.override with alarmActive := level } := if_neg (by simp [high])

end State

/-! #### The ALARM line (R133, R134) -/

/-- Settles O6: with RESET low the level alone is kept, with RESET high it is a change of the alarm source. -/
theorem alarmLine : Obligations.AlarmLine := by
  unfold Obligations.AlarmLine
  refine ⟨fun s low => ⟨?_, ?_⟩, fun s high => ⟨?_, ?_⟩⟩
  · exact congrArg Host.Outcome.next (State.setAlarm_resetLow low true)
  · exact congrArg Host.Outcome.next (State.setAlarm_resetLow low false)
  · refine congrArg Host.Outcome.next ?_
    rw [State.setAlarm_resetHigh high, State.changeSources_eq, Override.fromSources_alarm_active]
  · refine congrArg Host.Outcome.next ?_
    rw [State.setAlarm_resetHigh high, State.changeSources_eq, Override.fromSources_alarm_released]

/-! #### ENGAGE and DISENGAGE (R135) -/

section

variable {s : State} {r : Request Unit} (items : r.items = some ()) (ready : s.ready)

include items ready

theorem exec_engage : exec (.engage r) s =
    .next ((s.released.setPortSource true).1.answered r.tag .ok (s.released.setPortSource true).1.override.bytes) :=
  congrArg Host.Outcome.next <| serveNow_answer (formed := anyItems) (run := fun _ s => s.setPortSource true)
    ready items rfl rfl

theorem exec_disengage : exec (.disengage r) s =
    .next ((s.released.setPortSource false).1.answered r.tag .ok (s.released.setPortSource false).1.override.bytes) :=
  congrArg Host.Outcome.next <| serveNow_answer (formed := anyItems) (run := fun _ s => s.setPortSource false)
    ready items rfl rfl

end

theorem State.setPortSource_active (s : State) : (s.setPortSource true).1 =
    { s with
      override := { s.override with portActive := true, state := .engaged }
      notices := if s.override.state = .engaged then s.notices
        else s.notices.raise (.override .engaged .port) } := by
  rw [State.setPortSource, State.changeSources_eq, Override.fromSources_port_active]

theorem State.setPortSource_released (s : State) : (s.setPortSource false).1 =
    { s with
      override := { s.override with portActive := false, state := if s.override.alarmActive then .engaged else .clear }
      notices := if s.override.state = (if s.override.alarmActive then .engaged else .clear) then s.notices
        else s.notices.raise (.override (if s.override.alarmActive then .engaged else .clear) .port) } := by
  rw [State.setPortSource, State.changeSources_eq, Override.fromSources_port_released]

/-- An ALARM asserted while the state is ENGAGED changes no state, so it raises no notice. -/
theorem State.setAlarm_engaged {s : State} (high : s.pins.resetLow = false) (engaged : s.override.state = .engaged) :
    s.setAlarm true =
      { s with
        pins := { s.pins with alarm := true }
        override := { s.override with alarmActive := true, state := .engaged } } := by
  rw [State.setAlarm_resetHigh high, State.changeSources_eq, Override.fromSources_alarm_active, if_pos engaged]

/-- Settles O7: both requests are one change of the port source, and the ALARM that follows an ENGAGE finds ENGAGED. -/
theorem engageDisengage : Obligations.EngageDisengage := by
  unfold Obligations.EngageDisengage
  intro s r items ready
  refine ⟨?_, ?_, _, _, exec_engage items ready, rfl, ?_⟩
  · rw [exec_engage items ready, State.setPortSource_active]
    rfl
  · rw [exec_disengage items ready, State.setPortSource_released]
    rfl
  · rw [State.setPortSource_active, State.setAlarm_engaged]
    exacts [⟨rfl, rfl⟩, ready.1, rfl]

end Sys2Proof.Machine
end

section
/-! ### The engagement and the disengagement of the feeds (R125, R136, R137, R141) -/

namespace Sys2Proof.Machine

namespace FeedRender

variable {x : FeedRender}

/-! #### A transition in flight, cut short (R122, R125, R137) -/

theorem cutShort_none (idle : x.transition = none) : x.cutShort = x := by
  rw [cutShort, idle]

/-- On NORMAL a FADE-OUT ends in silence and any other transition in its target. -/
theorem cutShort_normal (source : x.source = .normal) {v : Transition} (inFlight : x.transition = some v) :
    x.cutShort = { x with transition := none, active := if v.kind = .fadeOut then none else v.target } := by
  rw [cutShort, inFlight]
  by_cases falls : v.kind = .fadeOut
  · rw [if_pos falls]
    exact complete_fadeOut_normal x falls source
  · rw [if_neg falls]
    exact complete_target x falls source

theorem outputAtBoundary_none (idle : x.transition = none) : x.outputAtBoundary = .ofSetting x.played := by
  rw [outputAtBoundary, idle]

theorem outputAtBoundary_some {v : Transition} (inFlight : x.transition = some v) :
    x.outputAtBoundary = .partWay v.kind v.left v.target (v.blocksDone + 1) v.length := by
  rw [outputAtBoundary, inFlight]
  rfl

theorem played_normal (source : x.source = .normal) : x.played = x.active := by
  rw [played, source]

theorem outputAfterCut_none (idle : x.transition = none) : x.outputAfterCut = .ofSetting x.played := by
  rw [outputAfterCut, idle, outputAtBoundary_none idle]

theorem outputAfterCut_some {v : Transition} (inFlight : x.transition = some v) :
    x.outputAfterCut = .atLevelOf x.cutShort.played (.partWay v.kind v.left v.target (v.blocksDone + 1) v.length) := by
  rw [outputAfterCut, inFlight, ← outputAtBoundary_some inFlight]

end FeedRender

/-- Settles O47: the engagement touches each feed once, a KEEP feed by its own step and the others by R137. -/
theorem engagementActs : Obligations.EngagementActs := by
  unfold Obligations.EngagementActs
  refine ⟨fun s high engaged clear => ?_, fun x source => ⟨fun idle => ⟨?_, ?_⟩, fun v inFlight => ?_⟩⟩
  · have touching := State.exec_blockBoundary_touching high fun u f midway same => by
      rw [engaged, clear]
      exact midway.engageFeed same
    obtain ⟨t, ran, kept, each⟩ := touching
    exact ⟨t, ran, kept, fun f keep => by simpa only [if_pos keep] using each f,
      fun f leaves => by simpa only [if_neg leaves] using each f⟩
  · exact FeedRender.cutShort_none idle
  · rw [FeedRender.outputAfterCut_none idle, FeedRender.played_normal source]
  · rw [FeedRender.outputAfterCut_some inFlight, FeedRender.cutShort_normal source inFlight]
    exact ⟨rfl, congrArg (OutputLeft.atLevelOf · _) (FeedRender.played_normal source)⟩

/-- Settles O48: the disengagement touches each feed once, a feed on NORMAL by its own step and the others by R141. -/
theorem disengagementReturns : Obligations.DisengagementReturns := by
  unfold Obligations.DisengagementReturns
  refine ⟨fun s high clear engaged => ?_, fun x => ⟨fun v inFlight => ?_, fun idle => ?_⟩⟩
  · have touching := State.exec_blockBoundary_touching high fun u f midway same => by
      rw [clear, engaged]
      exact midway.disengageFeed same
    obtain ⟨t, ran, kept, each⟩ := touching
    exact ⟨t, ran, kept, fun f normal => by simpa only [if_pos normal] using each f,
      fun f away => by simpa only [if_neg away] using each f⟩
  · exact FeedRender.outputAtBoundary_some inFlight
  · rw [FeedRender.outputAtBoundary_none idle, FeedRender.played]
    cases x.source <;> rfl

end Sys2Proof.Machine
end

section
/-! ### The end of cold start (R134, R149, R170) -/

namespace Sys2Proof.Machine

theorem Notices.raise_override_first {n : Notices} (clear : n.override = none) (st : OverrideState)
    (source : OverrideSource) : n.raise (.override st source) = { n with override := some (st, source) } := by
  rw [Notices.raise, clear, keepFirst]

/-- The ALARM line sampled by an Override Unit at its cold-start values (R134). -/
theorem State.sampleAlarm_cold {s : State} (cold : s.override = ⟨.clear, false, false, .clear⟩)
    (unflagged : s.notices.override = none) : s.sampleAlarm =
    { s with
      override := if s.pins.alarm then ⟨.engaged, true, false, .clear⟩ else ⟨.clear, false, false, .clear⟩
      notices := if s.pins.alarm then { s.notices with override := some (.engaged, .alarm) } else s.notices } := by
  unfold State.sampleAlarm
  by_cases asserted : s.pins.alarm = true
  · simp only [if_pos asserted]
    rw [State.changeSources_eq, Override.fromSources_alarm_active, cold, if_neg nofun,
      Notices.raise_override_first unflagged]
  · simp only [if_neg asserted]
    rw [← cold]

/-- Settles O4: the pins, the start reply and what STARTUP begins are stored, then the ALARM line is sampled. -/
theorem coldStartEnds : Obligations.ColdStartEnds := by
  unfold Obligations.ColdStartEnds
  intro s p low cold unflagged
  refine congrArg Host.Outcome.next ?_
  rw [if_pos low, State.sampleAlarm_cold]
  · cases p <;> rfl
  · exact cold
  · exact unflagged

end Sys2Proof.Machine
end

section
/-! ### Commands while RESET is low (R132, R133, R149, R170; log 4) -/

namespace Sys2Proof.Machine

/-- RESET is low and nothing of the block is under way. -/
structure State.AtRest (s : State) : Prop where
  resetLow : s.pins.resetLow = true
  transaction : s.port.transaction = none
  inProgress : s.port.inProgress = none
  move : s.pool.move = none
  queue : s.resolver.queue = []
  inFlight : s.resolver.inFlight = none
  channels : ∀ k, (s.channel k).config.enabled = false ∧ (s.channel k).reading = none
  sectors : ∀ n, (s.sector n).sinceChange = none
  render : ∀ f, (s.renderOf f).transition = none
  image : s.image = .idle

/-- The cold-start values are values at rest, whatever stands outside the part. -/
theorem State.atRest_reset (flash : FlashContents) (alarm : Bool) (startup : StartupPin) (pending : List Instr) :
    ({ State.reset with flash := flash, pins := ⟨true, alarm, startup⟩, pending := pending } : State).AtRest where
  resetLow := rfl
  transaction := rfl
  inProgress := rfl
  move := rfl
  queue := rfl
  inFlight := rfl
  channels k := by
    have channel : State.reset.channel k = Channel.reset k := Table.get_tab Channel.reset k
    exact channel ▸ ⟨rfl, rfl⟩
  sectors n := by
    have sector : State.reset.sector n = Sector.reset := Table.get_fill _ n
    exact sector ▸ rfl
  render f := by
    have render : State.reset.renderOf f = FeedRender.reset := Table.get_fill _ f
    exact render ▸ rfl
  image := rfl

section

variable {s : State} {c : Instr}

namespace State.AtRest

/-- The port ignores chip select, so a release finds no transaction to end. -/
theorem exec_release (rest : s.AtRest) (releases : isRelease c = true) : exec c s = .next s := by
  cases c with
  | discardedRequest =>
    refine congrArg Host.Outcome.next ?_
    rw [rest.transaction]
  | badFrame tag reason => exact congrArg Host.Outcome.next (if_pos rest.resetLow)
  | coldStart | coldStartEnd | alarmAssertion | alarmDeassertion | transactionBegin | blockBoundary
  | transitionComplete | sinceChangeTick | conversionStart | readingComplete | resolutionStart | resolutionComplete
  | moveComplete | deferredEdit | saveComplete | loadReadComplete | heldLoadReplacement | startupWaitExpiry
  | replyPlacement => cases releases
  | _ => exact congrArg Host.Outcome.next (serve_resetLow _ _ _ s rest.resetLow)

theorem completeMove (rest : s.AtRest) : s.completeMove = s := by
  rw [State.completeMove, rest.move]

/-- Every event of the block ends or continues something under way. -/
theorem exec_event (rest : s.AtRest) (event : isRelease c = false) (high : ∀ p, c ≠ .coldStartEnd p)
    (start : c ≠ .coldStart) (asserts : c ≠ .alarmAssertion) (deasserts : c ≠ .alarmDeassertion) :
    exec c s = .next s := by
  cases c with
  | coldStart => exact absurd rfl start
  | coldStartEnd p => exact absurd rfl (high p)
  | alarmAssertion => exact absurd rfl asserts
  | alarmDeassertion => exact absurd rfl deasserts
  | transactionBegin => exact congrArg Host.Outcome.next (if_pos (by rw [rest.resetLow]; rfl))
  | blockBoundary => exact congrArg Host.Outcome.next (if_pos rest.resetLow)
  | transitionComplete f =>
    refine congrArg Host.Outcome.next ?_
    simp only [rest.render f]
  | sinceChangeTick n =>
    refine congrArg Host.Outcome.next ?_
    simp only [rest.sectors n]
  | conversionStart k =>
    refine congrArg Host.Outcome.next (if_neg ?_)
    simp [(rest.channels k).1]
  | readingComplete k measured =>
    obtain ⟨disabled, unread⟩ := rest.channels k
    refine congrArg Host.Outcome.next ?_
    simp [Channel.readingVoid, unread, disabled]
  | resolutionStart =>
    refine congrArg Host.Outcome.next ?_
    simp only [rest.inFlight, rest.queue]
  | resolutionComplete =>
    refine congrArg Host.Outcome.next ?_
    simp only [rest.inFlight]
  | moveComplete => exact congrArg Host.Outcome.next rest.completeMove
  | deferredEdit =>
    refine congrArg Host.Outcome.next ?_
    rw [rest.completeMove, ite_self]
  | saveComplete readBack =>
    refine congrArg Host.Outcome.next ?_
    simp only [rest.image]
  | loadReadComplete answer =>
    refine congrArg Host.Outcome.next ?_
    simp only [rest.image]
  | heldLoadReplacement =>
    refine congrArg Host.Outcome.next ?_
    simp only [rest.image]
  | startupWaitExpiry =>
    refine congrArg Host.Outcome.next ?_
    simp only [rest.image]
  | replyPlacement =>
    refine congrArg Host.Outcome.next ?_
    simp only [rest.inProgress]
  | _ => cases event

end State.AtRest

end

/-- Settles O5: with RESET low no release is taken, and at the cold-start values no event finds anything under way. -/
theorem resetLowHolds : Obligations.ResetLowHolds := by
  unfold Obligations.ResetLowHolds
  intro c flash alarm startup pending s high start asserts deasserts
  have rest : s.AtRest := State.atRest_reset flash alarm startup pending
  cases releases : isRelease c with
  | true => exact rest.exec_release releases
  | false => exact rest.exec_event releases high start asserts deasserts

end Sys2Proof.Machine
end

section
/-! ### What a watch hits (R143, R144) -/

namespace Sys2Proof

namespace WatchConfig

variable {w : WatchConfig}

/-- The block begins at the largest multiple of the span not above the base (R144). -/
theorem blockStart_eq (w : WatchConfig) : w.blockStart = w.span * (w.base / w.span) := by
  have parts := Nat.div_add_mod w.base w.span
  unfold blockStart
  omega

theorem blockEnd_succ (span : 1 ≤ w.span) : w.blockEnd + 1 = w.blockStart + w.span := by
  unfold blockEnd
  omega

theorem le_blockEnd_iff (span : 1 ≤ w.span) {n : Nat} : n ≤ w.blockEnd ↔ n < w.blockStart + w.span := by
  rw [← blockEnd_succ span, Nat.lt_succ_iff]

/-- The records of a watch: the feeds or the profiles of its block (R143, R144). -/
theorem covers_iff (span : 1 ≤ w.span) (r : Machine.RecordName) :
    w.covers r = true ↔ w.enabled = true ∧
      ((∃ f : FeedNo, r = .feed f ∧ w.cls = .feed ∧ w.blockStart ≤ f.val ∧ f.val < w.blockStart + w.span) ∨
        ∃ h : Machine.Handle, r = .profile h ∧ w.cls = .profile ∧ w.blockStart ≤ h.ix.val + 1 ∧
          h.ix.val + 1 < w.blockStart + w.span) := by
  cases r with
  | feed f => simp [covers, Machine.RecordName.watchNumber, le_blockEnd_iff span, and_assoc]
  | profile h =>
    simp [covers, Machine.RecordName.watchNumber, Machine.handleNumber, le_blockEnd_iff span, and_assoc]
  | sector k => simp [covers, Machine.RecordName.watchNumber]
  | sensor k => simp [covers, Machine.RecordName.watchNumber]

/-- The accesses of a watch: those in its set, and with PORT-ONLY only those made at the port (R143, R144). -/
theorem observes_iff (w : WatchConfig) (a : Access) :
    w.observes a = true ↔
      (a = .portLook ∧ w.accesses.portLook = true ∨ a = .portChange ∧ w.accesses.portChange = true ∨
        a = .autoChange ∧ w.accesses.autoChange = true ∧ w.filter = .any ∨
        a = .take ∧ w.accesses.take = true ∧ w.filter = .any) := by
  cases a <;> simp [observes, AccessSet.has, Access.isPort]

theorem hits_iff (a : Access) (r : Machine.RecordName) :
    w.hits a r = true ↔ w.covers r = true ∧ w.observes a = true := by
  rw [hits, Bool.and_eq_true]

/-- The fields of a configuration, a byte each but for the word of the access set, whose high byte is 0 (R153). -/
theorem bytes_eq (c : WatchConfig) : c.bytes =
    [if c.enabled then 0 else 1, if c.cls = .feed then 0 else 1, BitVec.ofNat 8 c.base, BitVec.ofNat 8 c.span,
      BitVec.ofNat 8 ((if c.accesses.portLook then 1 else 0) + (if c.accesses.portChange then 2 else 0) +
        (if c.accesses.autoChange then 4 else 0) + (if c.accesses.take then 8 else 0)), 0,
      if c.filter = .any then 0 else 1, if c.action = .notify then 0 else 1] := by
  obtain ⟨enabled, cls, base, span, ⟨look, change, auto, take⟩, filter, action⟩ := c
  have enabledByte : BitVec.ofNat 8 (yesNoCode enabled) = if enabled then 0 else 1 := by cases enabled <;> rfl
  have classByte : BitVec.ofNat 8 cls.code = if cls = .feed then 0 else 1 := by cases cls <;> rfl
  have filterByte : BitVec.ofNat 8 filter.code = if filter = .any then 0 else 1 := by cases filter <;> rfl
  have actionByte : BitVec.ofNat 8 action.code = if action = .notify then 0 else 1 := by cases action <;> rfl
  have highByte : (AccessSet.mk look change auto take).code / 256 = 0 := by
    cases look <;> cases change <;> cases auto <;> cases take <;> rfl
  simp only [bytes, byte1, bytes2, enabledByte, classByte, filterByte, actionByte, highByte]
  rfl

end WatchConfig

end Sys2Proof
end

section
/-! ### The watch test and the bytes of a hit (R145, R148, R153) -/

namespace Sys2Proof.Machine

theorem State.stops_iff (s : State) (a : Access) (r : RecordName) :
    s.stops a r = true ↔
      ∃ i, (s.watches.get i).config.hits a r = true ∧ (s.watches.get i).config.action = .stop := by
  simp [State.stops]

/-- A hit as it is sent: the record, and a byte each for the access, stopped and repeat (R153). -/
theorem optHitBytes_some (r : RecordName) (a : Access) (stopped repeated : Bool) :
    optHitBytes (some ⟨r, a, stopped, repeated⟩) =
      r.bytes ++ [match a with
        | .portLook => 0#8
        | .portChange => 1
        | .autoChange => 2
        | .take => 3] ++ [if stopped then 0 else 1, if repeated then 0 else 1] := by
  have yesNoByte : ∀ b : Bool, byte1 (yesNoCode b) = [if b then 0 else 1] := fun b => by cases b <;> rfl
  rw [optHitBytes, yesNoByte, yesNoByte, List.append_assoc _ [_] [_], List.singleton_append]
  cases a <;> rfl

end Sys2Proof.Machine
end

section
/-! ### WATCH SET, WATCH CLEAR and READ WATCH (R84, R85, R143, R148) -/

namespace Sys2Proof.Machine

/-! #### The configurations and numbers that are taken (R143, R148) -/

theorem watchNo_val (n : WatchNo) : watchNo n.val = some n := dif_pos n.isLt

theorem watchNo_none {n : Nat} (outside : 2 ≤ n) : watchNo n = none := dif_neg outside.not_gt

theorem watchConfigAllowed_iff (c : WatchConfig) : watchConfigAllowed c = true ↔
    (c.span = 1 ∨ c.span = 2 ∨ c.span = 4 ∨ c.span = 8 ∨ c.span = 16) ∧ c.accesses ≠ ⟨false, false, false, false⟩ ∧
      (c.cls = .feed → c.base ≤ 95) ∧
      (c.cls = .profile → 1 ≤ c.base ∧ c.base ≤ 255 ∧ c.accesses.autoChange = false ∧ c.accesses.take = false) := by
  obtain ⟨enabled, cls, base, span, ⟨look, change, auto, take⟩, filter, action⟩ := c
  have spans : spanAllowed span = true ↔ span = 1 ∨ span = 2 ∨ span = 4 ∨ span = 8 ∨ span = 16 := by
    simp [spanAllowed, or_assoc]
  have accesses : (look || change || auto || take) = true ↔
      AccessSet.mk look change auto take ≠ ⟨false, false, false, false⟩ := by
    cases look <;> cases change <;> cases auto <;> cases take <;> decide
  simp only [watchConfigAllowed, accessesAllowed, Bool.and_eq_true, spans, accesses, and_assoc]
  cases cls with
  | feed => simp [baseInRange, and_comm]
  | profile =>
    simp only [baseInRange, Bool.and_eq_true, decide_eq_true_iff, Bool.not_eq_true', reduceCtorEq, false_implies,
      true_implies, true_and]
    tauto

/-! #### A reconfiguration (R84, R85, R148) -/

namespace State

variable (s : State)

theorem heldFeeds_nodup : s.heldFeeds.Nodup := (List.nodup_finRange 96).filter _

theorem mem_heldFeeds {f : FeedNo} : f ∈ s.heldFeeds ↔ (s.feed f).resolution = .held := by
  simp [heldFeeds, allFeeds]

theorem feed_reconfigure_held {f : FeedNo} (held : (s.feed f).resolution = .held) :
    s.reconfigure.feed f = (s.feed f).queued :=
  feed_queueFeeds_mem s.heldFeeds_nodup (s.mem_heldFeeds.mpr held)

theorem feed_reconfigure_other {f : FeedNo} (other : (s.feed f).resolution ≠ .held) :
    s.reconfigure.feed f = s.feed f :=
  s.feed_queueFeeds_other (mt s.mem_heldFeeds.mp other)

theorem reconfigure_resolver : s.reconfigure.resolver = s.queuedAll s.heldFeeds := s.queueFeeds_resolver s.heldFeeds

theorem renderOf_reconfigure (f : FeedNo) : s.reconfigure.renderOf f = (s.renderOf f).unstop :=
  (Table.get_tab _ f).trans (congrArg (fun t => (Table.get t f).unstop) (s.queueFeeds_render s.heldFeeds))

theorem reconfigure_frame : s.reconfigure =
    { s with feeds := s.reconfigure.feeds, resolver := s.reconfigure.resolver, render := s.reconfigure.render } :=
  congrArg (fun u : State => { u with render := s.reconfigure.render }) (s.queueFeeds_frame s.heldFeeds)

/-- A watch written, the watches reconfigured, and the request answered (R148, R150). -/
def rewatched (n : WatchNo) (w : Watch) (tag : Byte) (body : List Byte) : State :=
  (s.released.setWatch n w).reconfigure.answered tag .ok body

theorem rewatched_port (n : WatchNo) (w : Watch) (tag : Byte) (body : List Byte) :
    (s.rewatched n w tag body).port = s.portAnswered tag .ok body := by
  have port : (s.released.setWatch n w).reconfigure.port = s.released.port := queueFeeds_port ..
  show ({ (s.released.setWatch n w).reconfigure.port with inProgress := _ } : Port) = _
  rw [port]
  rfl

theorem reconfigured_rewatched (n : WatchNo) (w : Watch) (tag : Byte) (body : List Byte) :
    Reconfigured s (s.rewatched n w tag body) n w where
  watches := queueFeeds_watches ..
  heldQueued _ held := feed_reconfigure_held _ held
  othersKept _ other := feed_reconfigure_other _ other
  queue := reconfigure_resolver _
  unstopped f := renderOf_reconfigure _ f
  frame := by
    have watches : (s.rewatched n w tag body).watches = s.watches.upd n w := queueFeeds_watches ..
    rw [watches, rewatched_port]
    exact congrArg (fun u : State => u.answered tag .ok body) (s.released.setWatch n w).reconfigure_frame

end State

/-! #### The requests -/

section

variable {s : State}

theorem exec_watchSet_taken (ready : s.ready) {n : WatchNo} {c : WatchConfig} (r : Request WatchSetItems)
    (items : r.items = some ⟨n.val, c⟩) (allowed : watchConfigAllowed c = true) :
    exec (.watchSet r) s =
      .next (s.rewatched n ⟨c, (s.watches.get n).lastHit⟩ r.tag
        (c.bytes ++ Config.watchBlockBytes c.blockStart c.blockEnd)) := by
  refine congrArg Host.Outcome.next ((serveNow_ready r anyItems s _ ready items rfl).trans ?_)
  simp only [State.requestWatchSet, watchNo_val, allowed, if_true]
  rfl

theorem exec_watchSet_refused (ready : s.ready) {i : WatchSetItems} (r : Request WatchSetItems)
    (items : r.items = some i) (refused : 2 ≤ i.watch ∨ watchConfigAllowed i.config = false) :
    exec (.watchSet r) s = .next (s.released.answered r.tag .badValue []) := by
  have run : s.released.requestWatchSet i = (s.released, refusal .badValue) := by
    unfold State.requestWatchSet
    rcases refused with outside | banned
    · rw [watchNo_none outside]
    · rw [banned]
      cases watchNo i.watch <;> rfl
  refine congrArg Host.Outcome.next ((serveNow_ready r anyItems s _ ready items rfl).trans ?_)
  rw [run]
  rfl

variable (r : Request Nat)

theorem exec_watchClear_taken (ready : s.ready) {n : WatchNo} (items : r.items = some n.val) :
    exec (.watchClear r) s =
      .next (s.rewatched n (s.watches.get n).disabled r.tag (optHitBytes (s.watches.get n).lastHit)) := by
  refine congrArg Host.Outcome.next ((serveNow_ready r anyItems s _ ready items rfl).trans ?_)
  simp only [State.requestWatchClear, watchNo_val]
  rfl

theorem exec_watchClear_refused (ready : s.ready) {n : Nat} (items : r.items = some n) (outside : 2 ≤ n) :
    exec (.watchClear r) s = .next (s.released.answered r.tag .badValue []) := by
  refine congrArg Host.Outcome.next ((serveNow_ready r anyItems s _ ready items rfl).trans ?_)
  rw [State.requestWatchClear, watchNo_none outside]
  rfl

theorem exec_readWatch_taken (ready : s.ready) {n : WatchNo} (items : r.items = some n.val) :
    exec (.readWatch r) s = .next
      { s with
        watches := s.watches.upd n { s.watches.get n with lastHit := none }
        port := s.portAnswered r.tag .ok
          ((s.watches.get n).config.bytes ++ optHitBytes (s.watches.get n).lastHit) } := by
  refine congrArg Host.Outcome.next ((serveNow_ready r anyItems s _ ready items rfl).trans ?_)
  simp only [State.requestReadWatch, watchNo_val]
  rfl

theorem exec_readWatch_refused (ready : s.ready) {n : Nat} (items : r.items = some n) (outside : 2 ≤ n) :
    exec (.readWatch r) s = .next (s.released.answered r.tag .badValue []) := by
  refine congrArg Host.Outcome.next ((serveNow_ready r anyItems s _ ready items rfl).trans ?_)
  rw [State.requestReadWatch, watchNo_none outside]
  rfl

end

/-- Settles O16: what a watch hits, what the watch test leaves, the bytes sent, and the three requests. -/
theorem watchRequests : Obligations.WatchRequests := by
  unfold Obligations.WatchRequests
  refine ⟨fun w a r span => ?_, fun s a r => ?_, optHitBytes_some, WatchConfig.bytes_eq, fun s n ready => ⟨?_, ?_⟩,
    watchConfigAllowed_iff, fun s ready => ⟨?_, ?_, ?_⟩⟩
  · intro start
    have block : w.blockStart = start := w.blockStart_eq
    refine ⟨block, block ▸ WatchConfig.blockEnd_succ span, ?_⟩
    rw [WatchConfig.hits_iff, WatchConfig.covers_iff span, WatchConfig.observes_iff, block, and_assoc]
  · exact ⟨s.stops_iff a r, _, rfl, s.watchTest_watches a r, s.watchTest_notices a r, s.watchTest_frame a r⟩
  · intro r c items allowed
    exact ⟨_, exec_watchSet_taken ready r items allowed, s.reconfigured_rewatched .., s.rewatched_port ..⟩
  · intro r items
    exact ⟨_, exec_watchClear_taken r ready items, s.reconfigured_rewatched .., s.rewatched_port ..⟩
  · exact fun r n items => exec_readWatch_taken r ready items
  · exact fun r n items outside =>
      ⟨exec_readWatch_refused r ready items outside, exec_watchClear_refused r ready items outside⟩
  · exact fun r i items refused => exec_watchSet_refused ready r items refused

end Sys2Proof.Machine
end

section
/-! ### Transactions, releases that are discarded, and requests that are refused at once (R149 to R152, R154) -/

namespace Sys2Proof.Machine

variable (s : State)

/-! #### Transactions and the reply slot (R149, R150, R151) -/

namespace State

/-- The transaction that begins: the reply of the slot, judged, or NOT-READY with the tag of the request in progress. -/
def begun : Transaction :=
  match s.port.slot, s.port.inProgress with
  | some reply, _ => ⟨reply, true⟩
  | none, some p => ⟨⟨.notReady, p.tag, []⟩, false⟩
  | none, none => ⟨⟨.notReady, 0, []⟩, false⟩

theorem beginTransaction_eq :
    s.beginTransaction = { s with port := { s.port with slot := none, transaction := some s.begun } } := by
  unfold beginTransaction begun
  cases slot : s.port.slot with
  | some reply => rfl
  | none => cases s.port.inProgress <;> simp [slot]

theorem endTransaction_of_not_judging (begun : s.port.transaction.isSome = true) (unjudged : s.judging = false) :
    s.endTransaction = (s.released, false) := by
  obtain ⟨x, hx⟩ := Option.isSome_iff_exists.mp begun
  unfold judging at unjudged
  unfold endTransaction released
  simp only [hx] at unjudged
  simp [hx, unjudged]

theorem misoByte_of_transaction (high : s.pins.resetLow = false) {x : Transaction}
    (carries : s.port.transaction = some x) (i : Nat) : s.misoByte i = some (x.miso.frame[i]?.getD 0xFF) := by
  simp [misoByte, high, carries, Transaction.misoByte]

end State

theorem exec_transactionBegin (high : s.pins.resetLow = false) (none : s.port.transaction = none) :
    exec .transactionBegin s = .next s.beginTransaction := by
  refine congrArg Host.Outcome.next ?_
  simp [high, none]

theorem exec_replyPlacement_answered {tag : Byte} {a : Answer}
    (answered : s.port.inProgress = some ⟨tag, .answered a⟩) :
    exec .replyPlacement s = .next
      { s with port := { s.port with slot := some ⟨a.status, tag, a.body⟩, inProgress := none } } := by
  refine congrArg Host.Outcome.next ?_
  simp only [answered]

/-- Settles O8: a transaction carries the slot's reply or NOT-READY, framed, and an answered request fills the slot. -/
theorem transactionsAndReplies : Obligations.TransactionsAndReplies := by
  unfold Obligations.TransactionsAndReplies
  refine ⟨fun s high idle => ?_, fun s i low => if_pos low, fun s tag a => exec_replyPlacement_answered s⟩
  intro carried t r front
  have begins : s.beginTransaction = t := s.beginTransaction_eq
  exact ⟨begins ▸ exec_transactionBegin s high idle, fun i => t.misoByte_of_transaction high rfl i⟩

/-! #### Releases that are discarded (R150) -/

variable {s}

/-- Settles O9: a release ends the transaction, and one that carried NOT-READY leaves nothing to judge. -/
theorem discardedReleases : Obligations.DiscardedReleases := by
  unfold Obligations.DiscardedReleases
  intro c s releases high begun unjudged
  cases c with
  | discardedRequest =>
    obtain ⟨x, hx⟩ := Option.isSome_iff_exists.mp begun
    unfold State.judging at unjudged
    rw [hx] at unjudged
    refine congrArg Host.Outcome.next ?_
    simp only [hx, unjudged]
    rfl
  | badFrame tag reason =>
    refine congrArg Host.Outcome.next ?_
    simp [high, s.endTransaction_of_not_judging begun unjudged]
  | coldStart | coldStartEnd | alarmAssertion | alarmDeassertion | transactionBegin | blockBoundary
  | transitionComplete | sinceChangeTick | conversionStart | readingComplete | resolutionStart | resolutionComplete
  | moveComplete | deferredEdit | saveComplete | loadReadComplete | heldLoadReplacement | startupWaitExpiry
  | replyPlacement => cases releases
  | _ => exact congrArg Host.Outcome.next (serve_discarded _ _ _ s high begun unjudged)

/-! #### Requests that are refused at once (R152, R154; log 14) -/

theorem exec_badFrame_ready (ready : s.ready) (tag : Byte) (reason : FrameReason) :
    exec (.badFrame tag reason) s = .next
      { s with port := { s.port with transaction := none, slot := some ⟨.badFrame, tag, byte1 reason.code⟩ } } := by
  refine congrArg Host.Outcome.next ?_
  simp only [ready.1, endTransaction_of_judging s ready.2]
  rfl

theorem exec_unformed (ready : s.ready) {c : Instr} {tag : Byte} (unformed : unformedTag c = some tag) :
    exec c s = .next (s.released.answered tag .badValue []) := by
  cases c with
  | coldStart | coldStartEnd | alarmAssertion | alarmDeassertion | transactionBegin | discardedRequest | badFrame
  | badCommand | blockBoundary | transitionComplete | sinceChangeTick | conversionStart | readingComplete
  | resolutionStart | resolutionComplete | moveComplete | deferredEdit | saveComplete | loadReadComplete
  | heldLoadReplacement | startupWaitExpiry | replyPlacement => cases unformed
  | nop r | status r | look r | set r | find r | createProfile r | clone r | editSections r | base r | retire r
  | revive r | bind r | unbind r | bindOverride r | unbindOverride r | lead r | clearFeed r | hold r | release r
  | engage r | disengage r | compactStart r | compactStop r | rebuildDependencies r | save r | load r | watchSet r
  | watchClear r | readWatch r | sensorSet r | sectorSet r | policySet r | crossStandSet r | readNotices r
  | clearNotices r | noticeMask r =>
    obtain ⟨t, _ | items⟩ := r
    · cases unformed
      exact congrArg Host.Outcome.next (serve_noItems _ _ _ s ready rfl)
    · cases unformed

theorem accepts_numbered {accepted cls : RecordClass} (other : cls ≠ accepted) (number gen : Nat) :
    accepts accepted (.numbered cls number gen) = false := decide_eq_false other

/-- A request whose items fail R154's second test. -/
theorem next_serveNow_unformed {α : Type} (ready : s.ready) (tag : Byte) {formed : α → Bool} {a : α}
    (run : α → State → State × Answer) (fails : formed a = false) :
    (.next (serveNow ⟨tag, some a⟩ formed run s) : Result) = .next (s.released.answered tag .badValue []) :=
  congrArg Host.Outcome.next (serve_unformed ⟨tag, some a⟩ formed _ s ready rfl fails)

theorem next_serve_unformed {α : Type} (ready : s.ready) (tag : Byte) {formed : α → Bool} {a : α}
    (run : α → State → State × Work) (fails : formed a = false) :
    (.next (serve ⟨tag, some a⟩ formed run s) : Result) = .next (s.released.answered tag .badValue []) :=
  congrArg Host.Outcome.next (serve_unformed ⟨tag, some a⟩ formed _ s ready rfl fails)

/-- Settles O10: a malformed frame is answered with its reason, and each other bad request fails its test in `serve`. -/
theorem badRequestsRefused : Obligations.BadRequestsRefused := by
  unfold Obligations.BadRequestsRefused
  refine ⟨fun s tag reason ready => ?_, fun s tag ready => ?_,
    fun c s tag unformed ready => exec_unformed ready unformed, fun s tag cls number gen ready => ?_⟩
  · rw [exec_badFrame_ready ready]
    cases reason <;> rfl
  · exact congrArg Host.Outcome.next (serveNow_ready ⟨tag, some ()⟩ anyItems s _ ready rfl rfl)
  · intro ref refused
    have first {b c : Bool} (fails : b = false) : (b && c) = false := by rw [fails, Bool.false_and]
    have second {b c : Bool} (fails : c = false) : (b && c) = false := by rw [fails, Bool.and_false]
    refine ⟨fun other => ?_, fun other => ?_, fun notFeed notProfile field value count step => ?_,
      fun other i names => ?_, fun other i names => ?_⟩
    · have fails : accepts .feed ref = false := accepts_numbered other number gen
      exact ⟨next_serveNow_unformed ready tag _ fails, next_serveNow_unformed ready tag _ fails,
        next_serveNow_unformed ready tag _ fails, fun profile =>
        ⟨next_serveNow_unformed ready tag _ (first fails), next_serveNow_unformed ready tag _ (first fails),
          next_serveNow_unformed ready tag _ (first fails), next_serveNow_unformed ready tag _ (second fails)⟩⟩
    · have fails : accepts .profile ref = false := accepts_numbered other number gen
      exact ⟨next_serveNow_unformed ready tag _ fails, next_serveNow_unformed ready tag _ fails,
        next_serveNow_unformed ready tag _ fails, fun sections => next_serve_unformed ready tag _ fails, fun place =>
        ⟨next_serve_unformed ready tag _ (first fails), next_serve_unformed ready tag _ (second fails),
          next_serveNow_unformed ready tag _ (second fails), next_serveNow_unformed ready tag _ (second fails)⟩⟩
    · refine next_serve_unformed ready tag _ ?_
      rw [accepts_numbered notFeed, accepts_numbered notProfile]
      rfl
    · exact next_serveNow_unformed ready tag _ (first (names ▸ accepts_numbered other number gen))
    · exact next_serveNow_unformed ready tag _ (first (names ▸ accepts_numbered other number gen))

end Sys2Proof.Machine
end

section
/-! ### NOP, STATUS and the notices (R162, R163, R164, R165, R171) -/

namespace Sys2Proof.Machine

variable {s : State}

/-! #### Requests without further tests -/

/-- A request whose items meet no further test runs on the released state and is answered. -/
theorem next_serveNow_ready {α : Type} (ready : s.ready) (r : Request α) {a : α} (items : r.items = some a)
    (run : α → State → State × Answer) :
    (.next (serveNow r anyItems run s) : Result) =
      .next ((run a s.released).1.answered r.tag (run a s.released).2.status (run a s.released).2.body) :=
  congrArg Host.Outcome.next (serveNow_ready r anyItems s run ready items rfl)

/-! #### The NOTICE line, NOP and STATUS (R162, R164) -/

theorem NoticeKind.mem_all (k : NoticeKind) : k ∈ NoticeKind.all := by cases k <;> decide

theorem State.noticeLine_iff (s : State) : s.noticeLine = true ↔
    s.pins.resetLow = false ∧ ∃ k, s.notices.flagged k = true ∧ hasKind s.noticeMask k = true := by
  simp [State.noticeLine, NoticeKind.mem_all]

theorem Override.bytes_eq (o : Override) : o.bytes =
    [if o.state = .engaged then 1#8 else 0#8, if o.alarmActive then 0#8 else 1#8, if o.portActive then 0#8 else 1#8,
      if o.applied = .engaged then 1#8 else 0#8] := by
  obtain ⟨state, alarm, port, applied⟩ := o
  cases state <;> cases alarm <;> cases port <;> cases applied <;> rfl

theorem ImageStatus.bytes_eq (x : ImageStatus) : x.bytes = (match x with
    | .idle => [0]
    | .waiting blocks => [1, BitVec.ofNat 8 ((45000 - blocks) / 1500)]
    | .saving => [2]
    | .loading .reading => [3, 0]
    | .loading (.held _) => [3, 1]) := by
  obtain _ | _ | _ | phase := x
  case loading => cases phase <;> rfl
  all_goals rfl

/-- Settles O11: the line goes by the kinds, the bytes by the fields, and neither request changes the block. -/
theorem nopStatusAnswered : Obligations.NopStatusAnswered := by
  unfold Obligations.NopStatusAnswered
  refine ⟨State.noticeLine_iff, fun s => ⟨s.override.bytes_eq, s.image.bytes_eq, ?_⟩, fun s r items ready => ⟨?_, ?_⟩⟩
  · cases s.pool.compaction <;> rfl
  · exact next_serveNow_ready ready r items _
  · exact next_serveNow_ready ready r items _

/-! #### NOTICE MASK (R164, R165, R171) -/

/-- NOTICE MASK is answered as `changeMask` leaves the released state. -/
theorem exec_noticeMask_ready (r : Request (Option NoticeSet)) (ready : s.ready) {m : Option NoticeSet}
    (items : r.items = some m) {t : State} {a : Answer} (changed : s.released.changeMask m = (t, a)) :
    exec (.noticeMask r) s = .next (t.answered r.tag a.status a.body) := by
  refine (next_serveNow_ready ready r items _).trans ?_
  rw [changed]

theorem State.endWait_of_longOperation (s : State) (none : s.longOperation = none) :
    s.endWait = { s with image := .idle } := by
  unfold State.longOperation at none
  unfold State.endWait
  cases image : s.image with
  | idle => exact congrArg (fun x => { s with image := x }) image
  | waiting blocks => rfl
  | saving => rw [image] at none; cases none
  | loading phase => rw [image] at none; cases none

/-- Settles O15: the mask read, kept, changed, or kept from changing by a save or a load. -/
theorem noticeMaskSet : Obligations.NoticeMaskSet := by
  unfold Obligations.NoticeMaskSet
  refine fun s r ready => ⟨fun items => exec_noticeMask_ready r ready items rfl, fun m items => ⟨fun same => ?_,
    fun change free => ?_, fun st change busy => ?_⟩⟩
  · exact exec_noticeMask_ready r ready items (if_pos same)
  · refine exec_noticeMask_ready r ready items (a := okBody (bytes2 m.toNat)) ((if_neg change).trans ?_)
    rw [show s.released.longOperation = none from free]
    exact congrArg (·, _) (State.endWait_of_longOperation { s.released with noticeMask := m } free)
  · refine exec_noticeMask_ready r ready items (a := refusal st) ((if_neg change).trans ?_)
    rw [show s.released.longOperation = some st from busy]

/-! #### Raising, flags and details (R163; log 10) -/

/-- A kind with a detail is raised: the notices as they are where its flag is set, else with the detail. -/
theorem set_keepFirst {α β : Type} (n : β) (set : Option α → β) {held : Option α} (occurred : α) (same : set held = n) :
    set (keepFirst held occurred) = if held.isSome then n else set (some occurred) := by
  cases held with
  | none => rfl
  | some a => exact same

namespace Notices

variable (n : Notices)

theorem raise_spec :
    let kept := fun (held : Bool) (t : Notices) => if held then n else t
    (∀ f r, n.raise (.resolveFault f r) = kept n.resolveFault.isSome { n with resolveFault := some (f, r) }) ∧
    (∀ d, n.raise (.policy d) = kept n.policy.isSome { n with policy := some d }) ∧
    (∀ k, n.raise (.dependencyOverflow k) = kept n.dependencyOverflow.isSome { n with dependencyOverflow := some k }) ∧
    (∀ d, n.raise (.sensorFault d) = kept n.sensorFault.isSome { n with sensorFault := some d }) ∧
    n.raise (.watch 0) = { n with watch0 := true } ∧ n.raise (.watch 1) = { n with watch1 := true } ∧
    (∀ st c, n.raise (.override st c) = kept n.override.isSome { n with override := some (st, c) }) ∧
    n.raise .compactionDone = { n with compactionDone := true } ∧
    (∀ o, n.raise (.saveDone o) = kept n.saveDone.isSome { n with saveDone := some o }) ∧
    (∀ o, n.raise (.loadDone o) = kept n.loadDone.isSome { n with loadDone := some o }) ∧
    n.raise .imageInvalid = { n with imageInvalid := true } :=
  ⟨fun f r => set_keepFirst n (fun x => { n with resolveFault := x }) (f, r) rfl,
    fun d => set_keepFirst n (fun x => { n with policy := x }) d rfl,
    fun k => set_keepFirst n (fun x => { n with dependencyOverflow := x }) k rfl,
    fun d => set_keepFirst n (fun x => { n with sensorFault := x }) d rfl, rfl, rfl,
    fun st c => set_keepFirst n (fun x => { n with override := x }) (st, c) rfl, rfl,
    fun o => set_keepFirst n (fun x => { n with saveDone := x }) o rfl,
    fun o => set_keepFirst n (fun x => { n with loadDone := x }) o rfl, rfl⟩

end Notices


theorem NoticeKind.all_code (k : NoticeKind) : NoticeKind.all[k.code]? = some k := by cases k <;> rfl

theorem NoticeKind.code_of_all {i : Nat} {k : NoticeKind} (place : NoticeKind.all[i]? = some k) : i = k.code := by
  obtain ⟨inside, -⟩ := List.getElem?_eq_some_iff.mp place
  exact (List.getElem?_inj inside (by decide)).mp (place.trans k.all_code.symm)

/-- A set of kinds holds the bits it began with and the bit of each kind added. -/
theorem getLsbD_addKinds (kinds : List NoticeKind) (set : NoticeSet) (i : Nat) :
    (kinds.foldl (fun set k => set ||| (1#11 <<< k.code)) set).getLsbD i =
      (set.getLsbD i || kinds.any fun k => k.code = i) := by
  induction kinds generalizing set with
  | nil => simp
  | cons k ks ih =>
    have bit : (1#11 <<< k.code).getLsbD i = decide (k.code = i) := by
      have small : k.code < 11 := by cases k <;> decide
      rw [show 1#11 <<< k.code = BitVec.twoPow 11 k.code from rfl, BitVec.getLsbD_twoPow, decide_eq_true small,
        Bool.true_and]
    rw [List.foldl_cons, ih, List.any_cons, BitVec.getLsbD_or, bit, Bool.or_assoc]

namespace Notices

variable (n : Notices) (set : NoticeSet)

/-- The flags carry one bit a kind, at its place in the order of R163. -/
theorem getLsbD_flags (k : NoticeKind) : n.flags.getLsbD k.code = n.flagged k := by
  rw [flags, setOfKinds, getLsbD_addKinds, BitVec.getLsbD_zero, Bool.false_or, Bool.eq_iff_iff, List.any_eq_true]
  constructor
  · rintro ⟨j, held, same⟩
    have kind : j = k := Option.some.inj (by rw [← j.all_code, of_decide_eq_true same, k.all_code])
    exact kind ▸ (List.mem_filter.mp held).2
  · exact fun flag => ⟨k, List.mem_filter.mpr ⟨k.mem_all, flag⟩, decide_eq_true rfl⟩

theorem flagged_clear (k : NoticeKind) : (n.clear set).flagged k = (n.flagged k && !hasKind set k) := by
  have detailed {α : Type} (named : Bool) (held : Option α) :
      (if named = true then none else held).isSome = (held.isSome && !named) := by cases named <;> simp
  cases k with
  | watch0 | watch1 | compactionDone | imageInvalid => exact Bool.and_comm _ _
  | _ => exact detailed _ _

theorem detail_clear {k : NoticeKind} (unnamed : hasKind set k = false) : (n.clear set).detail k = n.detail k := by
  cases k <;> simp [clear, detail, unnamed]

theorem detail_resolveFault : n.detail .resolveFault = (match n.resolveFault with
    | some (f, .range) => [BitVec.ofNat 8 f.val, 1]
    | some (f, .leadUnresolved) => [BitVec.ofNat 8 f.val, 2]
    | none => []) := by
  unfold detail
  obtain _ | ⟨f, reason⟩ := n.resolveFault
  · rfl
  · cases reason <;> rfl

theorem detail_policy : n.detail .policy = (match n.policy with
    | some d => d.referrer.bytes ++ d.referred.bytes ++ (match d.kind with
      | .bind => [0]
      | .bindOverride => [1]
      | .base => [2]
      | .lead => [3]
      | .crossStand => [4])
    | none => []) := by
  unfold detail
  obtain _ | ⟨referrer, referred, kind⟩ := n.policy
  · rfl
  · cases kind <;> rfl

theorem detail_sensorFault : n.detail .sensorFault = (match n.sensorFault with
    | some (.channel k) => (RecordName.sensor k).bytes
    | some (.sector k) => (RecordName.sector k).bytes
    | none => []) := by
  unfold detail
  obtain _ | detail := n.sensorFault
  · rfl
  · cases detail <;> rfl

theorem detail_override : n.detail .override = (match n.override with
    | some (st, c) => [if st = .engaged then 1 else 0, if c = .port then 1 else 0]
    | none => []) := by
  unfold detail
  obtain _ | ⟨st, c⟩ := n.override
  · rfl
  · cases st <;> cases c <;> rfl

theorem detail_saveDone : n.detail .saveDone = (match n.saveDone with
    | some .written => [0]
    | some .failed => [1]
    | none => []) := by
  unfold detail
  obtain _ | outcome := n.saveDone
  · rfl
  · cases outcome <;> rfl

end Notices

/-- Settles O14: what raising keeps, where the flags and details stand, and what is read and cleared. -/
theorem noticesReadCleared : Obligations.NoticesReadCleared := by
  unfold Obligations.NoticesReadCleared
  refine ⟨Notices.raise_spec, fun n set => ?_, fun s r items ready => ?_, fun s r kinds items ready => ?_⟩
  · refine ⟨fun i k place => ?_, rfl, n.detail_resolveFault, n.detail_policy, ?_, n.detail_sensorFault,
      n.detail_override, n.detail_saveDone, ?_, rfl, rfl, rfl, rfl⟩
    · obtain rfl : i = k.code := NoticeKind.code_of_all place
      refine ⟨?_, n.getLsbD_flags k, rfl⟩
      cases k <;> rfl
    · unfold Notices.detail
      cases n.dependencyOverflow <;> rfl
    · unfold Notices.detail
      cases n.loadDone <;> rfl
  · exact next_serveNow_ready ready r items _
  · exact ⟨_, next_serveNow_ready ready r items _, s.notices.flagged_clear kinds,
      fun k => s.notices.detail_clear kinds, rfl⟩

end Sys2Proof.Machine
end

section
/-! ### What the port's rule reads, and the operations that leave it as it is (R149, R150) -/

namespace Sys2Proof.Machine

namespace State

/-- Whether RESET is low, and all of the port but its cursor: what the rule of R149 reads. -/
def occupancy (s : State) : Bool × Option Reply × Option InProgress × Option Transaction :=
  (s.pins.resetLow, s.port.slot, s.port.inProgress, s.port.transaction)

variable {s t : State}

theorem occupancy_congr (pins : t.pins = s.pins) (port : t.port = s.port) : t.occupancy = s.occupancy := by
  unfold occupancy
  rw [pins, port]

variable (s)

/-! #### The operations shared by commands -/

theorem watchTest_occupancy (a : Access) (r : RecordName) : (s.watchTest a r).1.occupancy = s.occupancy :=
  occupancy_congr (s.watchTest_pins a r) (s.watchTest_port a r)

theorem queueFeeds_occupancy (fs : List FeedNo) : (s.queueFeeds fs).occupancy = s.occupancy :=
  occupancy_congr (s.queueFeeds_pins fs) (s.queueFeeds_port fs)

theorem notifyPolicy_occupancy (o : PolicyOutcome) (d : PolicyDetail) : (s.notifyPolicy o d).occupancy = s.occupancy :=
  occupancy_congr (s.notifyPolicy_pins o d) (s.notifyPolicy_port o d)

theorem dropOptional_occupancy (old : Option Handle) : (s.dropOptional old).occupancy = s.occupancy := by
  rw [dropOptional_frame]
  rfl

theorem replaceReference_occupancy (old : Option Handle) (new : HandleIx) :
    (s.replaceReference old new).occupancy = s.occupancy :=
  occupancy_congr (s.replaceReference_pins old new) (s.replaceReference_port old new)

theorem nextMove_occupancy : s.nextMove.occupancy = s.occupancy := occupancy_congr s.nextMove_pins s.nextMove_port

theorem endWait_occupancy : s.endWait.occupancy = s.occupancy := occupancy_congr s.endWait_pins s.endWait_port

theorem changeSources_occupancy (c : OverrideSource) (o : Override) :
    (s.changeSources c o).occupancy = s.occupancy :=
  occupancy_congr (s.changeSources_pins c o) (s.changeSources_port c o)

theorem statusEvaluation_occupancy (n : SectorNo) : (s.statusEvaluation n).occupancy = s.occupancy :=
  occupancy_congr (s.statusEvaluation_pins n) (s.statusEvaluation_port n)

theorem statusEvaluations_occupancy (ns : List SectorNo) :
    (ns.foldl statusEvaluation s).occupancy = s.occupancy :=
  foldl_keeps occupancy statusEvaluation statusEvaluation_occupancy ns s

theorem changeSpeed_occupancy (n : SectorNo) (c : Int) : (s.changeSpeed n c).occupancy = s.occupancy :=
  occupancy_congr (s.changeSpeed_pins n c) (s.changeSpeed_port n c)

theorem fullEvaluation_occupancy (n : SectorNo) : (s.fullEvaluation n).occupancy = s.occupancy :=
  occupancy_congr (s.fullEvaluation_pins n) (s.fullEvaluation_port n)

theorem rebuildDependencies_occupancy : s.rebuildDependencies.occupancy = s.occupancy := by
  rw [rebuildDependencies_eq]
  rfl

/-- A change request leaves the port as its effect does. -/
theorem takeChange_occupancy {α : Type} (tested : Except Status α) (record : α → RecordName)
    {effect : α → State → State} (same : ∀ a u, (effect a u).occupancy = u.occupancy) :
    (s.takeChange tested record effect).1.occupancy = s.occupancy := by
  cases tested with
  | error st => rfl
  | ok a =>
    have watched := s.watchTest_occupancy .portChange (record a)
    cases stop : s.stops .portChange (record a) with
    | true =>
      rw [takeChange_stopped s record effect a stop]
      exact watched
    | false =>
      have abandoned (u : State) : u.afterAbandon.occupancy = u.occupancy :=
        occupancy_congr u.afterAbandon_pins u.afterAbandon_port
      rw [takeChange_taken s record effect a stop, endWait_occupancy, abandoned, same]
      exact watched

/-! #### The effects of the change requests (R12 to R20, R36 to R49) -/

theorem applyFeedChange_occupancy (f : FeedNo) (c : FeedChange) : (s.applyFeedChange f c).occupancy = s.occupancy := by
  rw [applyFeedChange_frame]
  rfl

theorem applyLead_occupancy (p : LeadPlan) : (s.applyLead p).occupancy = s.occupancy := by
  rw [applyLead_frame]
  rfl

theorem applyClearFeed_occupancy (f : FeedNo) : (s.applyClearFeed f).occupancy = s.occupancy := by
  rw [applyClearFeed_frame]
  rfl

theorem applyBind_occupancy (p : BindPlan) : (s.applyBind p).occupancy = s.occupancy :=
  (notifyPolicy_occupancy _ _ _).trans (replaceReference_occupancy _ _ _)

theorem applyBindOverride_occupancy (p : BindPlan) : (s.applyBindOverride p).occupancy = s.occupancy :=
  (notifyPolicy_occupancy _ _ _).trans (replaceReference_occupancy _ _ _)

theorem applyRetire_occupancy (h : HandleIx) : (s.applyRetire h).occupancy = s.occupancy := by
  unfold applyRetire
  dsimp only
  split
  · split
    · exact occupancy_congr (s.freeHandle_pins h) (s.freeHandle_port h)
    · rfl
  all_goals rfl

theorem applyRevive_occupancy (h : HandleIx) : (s.applyRevive h).occupancy = s.occupancy := by
  unfold applyRevive
  dsimp only
  split <;> rfl

theorem applyCreate_occupancy (p : CreatePlan) : (s.applyCreate p).occupancy = s.occupancy := by
  unfold applyCreate referToBase
  dsimp only
  split
  · rfl
  · exact notifyPolicy_occupancy _ _ _

theorem applyProfileChange_occupancy (h : HandleIx) (c : ProfileChange) :
    (s.applyProfileChange h c).occupancy = s.occupancy := by
  rw [applyProfileChange_eq]
  exact queueFeeds_occupancy _ _

theorem applyBase_occupancy (p : BasePlan) : (s.applyBase p).occupancy = s.occupancy := by
  refine (queueFeeds_occupancy _ _).trans ?_
  unfold changeBaseReference
  split
  · exact dropOptional_occupancy _ _
  · exact (notifyPolicy_occupancy _ _ _).trans (replaceReference_occupancy _ _ _)

theorem requestNew_occupancy (tested : Except Status CreatePlan) :
    (s.requestNew tested).1.occupancy = s.occupancy := by
  unfold requestNew
  exact s.takeChange_occupancy _ _ fun p u => u.applyCreate_occupancy p

theorem requestEditSections_occupancy (i : EditSectionsItems) :
    (s.requestEditSections i).1.occupancy = s.occupancy := by
  unfold requestEditSections
  exact s.takeChange_occupancy _ _ fun _ _ => queueFeeds_occupancy _ _

theorem requestBase_occupancy (i : BaseItems) : (s.requestBase i).1.occupancy = s.occupancy := by
  unfold requestBase
  exact s.takeChange_occupancy _ _ fun p u => u.applyBase_occupancy p

theorem editOrWait_occupancy (ref : RecordRef) (edit : WaitingEdit) {now : State × Answer}
    (edited : now.1.occupancy = s.occupancy) : (s.editOrWait ref edit now).1.occupancy = s.occupancy := by
  unfold editOrWait
  split
  · rfl
  · exact edited

/-! #### SET over several records, and the edits that wait (R61, R160) -/

theorem setFeedsLoop_occupancy (field : Nat) (v : Int) (fs : List FeedNo) (done : Nat) :
    (setFeedsLoop field v fs done s).1.occupancy = s.occupancy := by
  induction fs generalizing s done with
  | nil => rfl
  | cons f fs ih =>
    have one : (s.setOneFeed f field v).1.occupancy = s.occupancy :=
      s.takeChange_occupancy _ _ fun c u => u.applyFeedChange_occupancy f c
    unfold setFeedsLoop
    split
    · next e =>
      rw [e] at one
      exact (ih _ _).trans one
    · next e =>
      rw [e] at one
      exact one

theorem setProfilesLoop_occupancy (field : Nat) (v : Int) (ns : List Nat) (named : Option Nat) (done : Nat) :
    (setProfilesLoop field v ns named done s).1.occupancy = s.occupancy := by
  induction ns generalizing s named done with
  | nil => rfl
  | cons n ns ih =>
    have one : (s.setOneProfile n (named.getD (s.presentGen .profile n)) field v).1.occupancy = s.occupancy :=
      s.takeChange_occupancy _ _ fun p u => u.applyProfileChange_occupancy p.1 p.2
    unfold setProfilesLoop
    dsimp only
    split
    · rfl
    · split
      · next e =>
        rw [e] at one
        exact (ih _ _ _).trans one
      · next e =>
        rw [e] at one
        exact one

theorem requestSet_occupancy (i : SetItems) : (s.requestSet i).1.occupancy = s.occupancy := by
  unfold requestSet
  split
  · rfl
  · split
    · exact s.setFeedsLoop_occupancy _ _ _ _
    · exact s.setProfilesLoop_occupancy _ _ _ _ _
    all_goals rfl

theorem runEdit_occupancy (e : WaitingEdit) : (s.runEdit e).1.occupancy = s.occupancy := by
  cases e with
  | sections i => exact s.requestEditSections_occupancy i
  | base i => exact s.requestBase_occupancy i
  | set job => exact s.setProfilesLoop_occupancy _ _ _ _ _

theorem endMove_occupancy : s.endMove.occupancy = s.occupancy := by
  unfold endMove
  dsimp only
  split
  · rfl
  · exact nextMove_occupancy _

/-! #### The requests that test no access (R57, R64, R70, R74, R82, R130, R148, R157, R159, R164 to R167) -/

theorem look_occupancy (i : LookItems) : (s.look i).1.occupancy = s.occupancy := by
  have loop (cls : RecordClass) (rs : List RecordName) (images : List (List Byte)) (u : State) :
      (lookLoop cls rs images u).1.occupancy = u.occupancy := by
    induction rs generalizing u images with
    | nil => rfl
    | cons r rs ih =>
      have tested := u.watchTest_occupancy .portLook r
      unfold lookLoop
      dsimp only
      split
      · exact tested
      · exact (ih _ _).trans tested
  unfold look
  split
  · rfl
  · exact loop _ _ _ s

theorem find_occupancy (i : FindItems) : (s.find i).1.occupancy = s.occupancy := by
  unfold find
  split
  · rfl
  · dsimp only
    split <;> rfl

theorem changeMask_occupancy (m : Option NoticeSet) : (s.changeMask m).1.occupancy = s.occupancy := by
  unfold changeMask
  split
  · rfl
  · split
    · rfl
    · split
      · rfl
      · exact endWait_occupancy _

theorem requestPolicySet_occupancy (cs : List PolicyChange) : (s.requestPolicySet cs).1.occupancy = s.occupancy := by
  unfold requestPolicySet
  split
  · rfl
  · split
    · rfl
    · split
      · rfl
      · exact endWait_occupancy _

theorem requestCrossStandSet_occupancy (v : Option PolicyOutcome) :
    (s.requestCrossStandSet v).1.occupancy = s.occupancy := by
  unfold requestCrossStandSet
  split
  · rfl
  · split
    · rfl
    · exact endWait_occupancy _

theorem changeHolds_occupancy (set : SectorSet) (yes : Bool) : (s.changeHolds set yes).1.occupancy = s.occupancy := by
  unfold changeHolds
  split <;> rfl

theorem requestCompactStart_occupancy : s.requestCompactStart.1.occupancy = s.occupancy := by
  unfold requestCompactStart
  split
  · exact s.nextMove_occupancy
  · rfl

theorem requestCompactStop_occupancy : s.requestCompactStop.1.occupancy = s.occupancy := by
  unfold requestCompactStop
  split <;> rfl

theorem requestRebuild_occupancy : s.requestRebuild.1.occupancy = s.occupancy := by
  unfold requestRebuild
  split
  · rfl
  · exact s.rebuildDependencies_occupancy

theorem requestSave_occupancy : s.requestSave.1.occupancy = s.occupancy := by
  unfold requestSave
  split <;> rfl

theorem requestLoad_occupancy : s.requestLoad.1.occupancy = s.occupancy := by
  unfold requestLoad
  split
  · rfl
  · split <;> rfl

theorem requestWatchSet_occupancy (i : WatchSetItems) : (s.requestWatchSet i).1.occupancy = s.occupancy := by
  unfold requestWatchSet
  split
  · rfl
  · split
    · exact queueFeeds_occupancy _ _
    · rfl

theorem requestWatchClear_occupancy (n : Nat) : (s.requestWatchClear n).1.occupancy = s.occupancy := by
  unfold requestWatchClear
  split
  · rfl
  · exact queueFeeds_occupancy _ _

theorem requestReadWatch_occupancy (n : Nat) : (s.requestReadWatch n).1.occupancy = s.occupancy := by
  unfold requestReadWatch
  split <;> rfl

/-! #### The Climate Unit (R104 to R106, R109, R114, R115) -/

theorem applyReading_occupancy (k : ChannelNo) (code : Int) : (s.applyReading k code).occupancy = s.occupancy := by
  have evaluated (u : State) (o : Option SectorNo) : (u.evaluateOptional o).occupancy = u.occupancy := by
    cases o with
    | none => rfl
    | some n => exact u.fullEvaluation_occupancy n
  unfold applyReading
  dsimp only
  rw [evaluated]
  split <;> rfl

theorem requestSensorSet_occupancy (i : SensorSetItems) : (s.requestSensorSet i).1.occupancy = s.occupancy := by
  unfold requestSensorSet
  split
  · rfl
  · exact (endWait_occupancy _).trans (statusEvaluations_occupancy _ _)

theorem requestSectorSet_occupancy (i : SectorSetItems) : (s.requestSectorSet i).1.occupancy = s.occupancy := by
  have fixed (u : State) (n : SectorNo) : (u.fixSector n).occupancy = u.occupancy := by
    unfold fixSector
    dsimp only
    split
    · rfl
    · exact changeSpeed_occupancy _ _ _
  have acted (u : State) (n : SectorNo) (old : SectorConfig) : (u.actOnMode n old).occupancy = u.occupancy := by
    unfold actOnMode
    dsimp only
    split
    · exact statusEvaluation_occupancy _ _
    · exact fixed u n
    · split
      · rfl
      · exact fixed u n
    · rfl
  unfold requestSectorSet
  split
  · rfl
  · exact (endWait_occupancy _).trans (acted _ _ _)

/-! #### The block boundary, the Resolver, a load and the pins (R91, R121, R134, R136, R167, R169) -/

theorem boundary_occupancy : s.updateHolds.stepFeeds.countBlocks.occupancy = s.occupancy := by
  obtain ⟨fs, render, e⟩ := s.boundary_touched
  show s.updateHolds.stepFeeds.occupancy = _
  rw [e]
  exact foldl_keeps occupancy _ (fun u f => u.watchTest_occupancy .take (.feed f)) fs _

theorem concludeResolution_occupancy (f : FeedNo) : (s.concludeResolution f).occupancy = s.occupancy := by
  have watched := s.watchTest_occupancy .autoChange (.feed f)
  cases computed : s.resolution f with
  | error r =>
    rw [concludeResolution_error computed]
    rfl
  | ok r =>
    cases stop : s.stops .autoChange (.feed f) with
    | true =>
      rw [concludeResolution_stopped computed stop]
      exact watched
    | false =>
      rw [concludeResolution_taken computed stop, succeed_eq, queueFeeds_occupancy]
      exact watched

theorem replaceTables_occupancy (g : Image) : (s.replaceTables g).occupancy = s.occupancy := by
  have requeued : (s.withTables g).requeueAll.occupancy = s.occupancy := queueFeeds_occupancy _ _
  unfold replaceTables
  generalize (s.withTables g).requeueAll = u at requeued
  exact u.rebuildDependencies_occupancy.trans requeued

theorem finishRead_occupancy (answer : FlashAnswer) : (s.finishRead answer).occupancy = s.occupancy := by
  unfold finishRead
  dsimp only
  split
  · rfl
  · split
    · rfl
    · exact replaceTables_occupancy _ _

theorem setAlarm_occupancy (level : Bool) : (s.setAlarm level).occupancy = s.occupancy := by
  unfold setAlarm
  dsimp only
  split
  · rfl
  · exact changeSources_occupancy _ _ _

theorem sampleAlarm_occupancy : s.sampleAlarm.occupancy = s.occupancy := by
  unfold sampleAlarm
  split
  · exact changeSources_occupancy _ _ _
  · rfl

end State

end Sys2Proof.Machine
end

section
/-! ### A reply, a request in progress and a judged transaction stand one at a time (R149, R150) -/

namespace Sys2Proof.Machine

namespace PortSound

variable {s t : State}

theorem congr (sound : PortSound s) (same : t.occupancy = s.occupancy) : PortSound t := by
  simp only [State.occupancy, Prod.mk.injEq] at same
  obtain ⟨low, slot, work, transaction⟩ := same
  unfold PortSound State.judging at sound ⊢
  rw [low, slot, work, transaction]
  exact sound

theorem of_reply (high : s.pins.resetLow = false) (reply : s.port.slot.isSome = true) (work : s.port.inProgress = none)
    (unjudged : s.judging = false) : PortSound s := by
  rw [PortSound, high]
  exact .inl ⟨reply, work, unjudged⟩

theorem of_work (high : s.pins.resetLow = false) (slot : s.port.slot = none) (work : s.port.inProgress.isSome = true)
    (unjudged : s.judging = false) : PortSound s := by
  rw [PortSound, high]
  exact .inr (.inl ⟨slot, work, unjudged⟩)

theorem of_judging (high : s.pins.resetLow = false) (slot : s.port.slot = none) (work : s.port.inProgress = none)
    (judged : s.judging = true) : PortSound s := by
  rw [PortSound, high]
  exact .inr (.inr ⟨slot, work, judged⟩)

theorem low (sound : PortSound s) (low : s.pins.resetLow = true) :
    s.port.slot = none ∧ s.port.inProgress = none ∧ s.port.transaction = none := by
  rw [PortSound, low] at sound
  exact sound

theorem high (sound : PortSound s) (high : s.pins.resetLow = false) :
    (s.port.slot.isSome = true ∧ s.port.inProgress = none ∧ s.judging = false) ∨
    (s.port.slot = none ∧ s.port.inProgress.isSome = true ∧ s.judging = false) ∨
    (s.port.slot = none ∧ s.port.inProgress = none ∧ s.judging = true) := by
  rw [PortSound, high] at sound
  exact sound

/-- A request in progress stands alone, and only with RESET high. -/
theorem of_inProgress (sound : PortSound s) (work : s.port.inProgress.isSome = true) :
    s.pins.resetLow = false ∧ s.port.slot = none ∧ s.judging = false := by
  cases reset : s.pins.resetLow with
  | true =>
    obtain ⟨-, none, -⟩ := sound.low reset
    rw [none] at work
    cases work
  | false =>
    obtain ⟨-, none, -⟩ | ⟨slot, -, unjudged⟩ | ⟨-, none, -⟩ := sound.high reset
    · rw [none] at work; cases work
    · exact ⟨rfl, slot, unjudged⟩
    · rw [none] at work; cases work

/-! #### The port's own steps (R149, R150, R152) -/

/-- The reply of the slot, if there is one, is what the transaction carries and what makes it judged. -/
theorem beginTransaction (sound : PortSound s) (high : s.pins.resetLow = false) (idle : s.port.transaction = none) :
    PortSound s.beginTransaction := by
  have unjudged : s.judging = false := by rw [State.judging, idle]
  rw [s.beginTransaction_eq]
  obtain ⟨reply, work, -⟩ | ⟨slot, work, -⟩ | ⟨-, -, judged⟩ := sound.high high
  · obtain ⟨r, hr⟩ := Option.isSome_iff_exists.mp reply
    refine of_judging high rfl work ?_
    simp [State.judging, State.begun, hr]
  · obtain ⟨p, hp⟩ := Option.isSome_iff_exists.mp work
    refine of_work high rfl work ?_
    simp [State.judging, State.begun, slot, hp]
  · rw [unjudged] at judged; cases judged

/-- A transaction ends: what stood beside it stands alone, or, when it was judged, nothing stands. -/
theorem released (sound : PortSound s) (high : s.pins.resetLow = false) :
    s.judging = false ∧ PortSound s.released ∨ s.judging = true ∧ s.released.occupancy = (false, none, none, none) := by
  obtain ⟨reply, work, unjudged⟩ | ⟨slot, work, unjudged⟩ | ⟨slot, work, judged⟩ := sound.high high
  · exact .inl ⟨unjudged, of_reply high reply work rfl⟩
  · exact .inl ⟨unjudged, of_work high slot work rfl⟩
  · refine .inr ⟨judged, ?_⟩
    rw [← high, ← slot, ← work]
    rfl

/-- A transaction that is not judged ends beside what stands (R150). -/
theorem discard (sound : PortSound s) {x : Transaction} (carries : s.port.transaction = some x)
    (unjudged : ¬ x.judged = true) : PortSound s.released := by
  cases reset : s.pins.resetLow with
  | true =>
    obtain ⟨-, -, none⟩ := sound.low reset
    rw [none] at carries
    cases carries
  | false =>
    obtain ⟨-, ended⟩ | ⟨judged, -⟩ := sound.released reset
    · exact ended
    · rw [State.judging, carries] at judged
      exact absurd judged unjudged

theorem endTransaction (sound : PortSound s) (high : s.pins.resetLow = false) :
    s.endTransaction.2 = false ∧ PortSound s.endTransaction.1 ∨
    s.endTransaction.2 = true ∧ s.endTransaction.1.occupancy = (false, none, none, none) := by
  cases idle : s.port.transaction with
  | none =>
    have ends : s.endTransaction = (s.beginTransaction.released, s.beginTransaction.judging) := by
      unfold State.endTransaction
      rw [idle]
      rfl
    have begun := sound.beginTransaction high idle
    rw [ends]
    exact begun.released (by rw [s.beginTransaction_eq]; exact high)
  | some x =>
    have ends : s.endTransaction = (s.released, s.judging) := by
      cases judged : s.judging with
      | true => exact endTransaction_of_judging s judged
      | false => exact s.endTransaction_of_not_judging (by rw [idle]; rfl) judged
    rw [ends]
    exact sound.released high

/-- Where nothing stands, a request may be in progress. -/
theorem setInProgress (free : s.occupancy = (false, none, none, none)) (tag : Byte) (w : Work) :
    PortSound (s.setInProgress tag w) := by
  simp only [State.occupancy, Prod.mk.injEq] at free
  obtain ⟨high, slot, -, transaction⟩ := free
  refine of_work high slot rfl ?_
  show State.judging s = false
  rw [State.judging, transaction]

theorem served (sound : PortSound s) {α : Type} (r : Request α) (formed : α → Bool) {run : α → State → State × Work}
    (keeps : ∀ a u, (run a u).1.occupancy = u.occupancy) : PortSound (serve r formed run s) := by
  cases reset : s.pins.resetLow with
  | true => rw [serve_resetLow r formed run s reset]; exact sound
  | false =>
    obtain ⟨unjudged, ended⟩ | ⟨judged, free⟩ := sound.endTransaction reset
    · have discarded : serve r formed run s = s.endTransaction.1 := by simp [serve, reset, unjudged]
      rw [discarded]
      exact ended
    · simp only [serve, reset, judged, Bool.false_eq_true, if_false, if_true]
      split
      · split
        · exact setInProgress ((keeps _ _).trans free) _ _
        · exact setInProgress free _ _
      · exact setInProgress free _ _

theorem servedNow (sound : PortSound s) {α : Type} (r : Request α) (formed : α → Bool)
    {run : α → State → State × Answer} (keeps : ∀ a u, (run a u).1.occupancy = u.occupancy) :
    PortSound (serveNow r formed run s) :=
  sound.served r formed keeps

theorem badFrame (sound : PortSound s) (tag : Byte) (reason : FrameReason) {t : State}
    (h : exec (.badFrame tag reason) s = .next t) : PortSound t := by
  cases h
  cases reset : s.pins.resetLow with
  | true => exact sound
  | false =>
    obtain ⟨unjudged, ended⟩ | ⟨judged, free⟩ := sound.endTransaction reset
    · simp only [unjudged, Bool.false_eq_true, if_false]
      exact ended
    · simp only [judged, Bool.false_eq_true, if_false, if_true]
      simp only [State.occupancy, Prod.mk.injEq] at free
      obtain ⟨high, -, work, transaction⟩ := free
      refine of_reply high rfl work ?_
      show State.judging s.endTransaction.1 = false
      rw [State.judging, transaction]

/-- The reply of the request in progress takes its place. -/
theorem placeReply (sound : PortSound s) {p : InProgress} (work : s.port.inProgress = some p) (reply : Reply) :
    PortSound { s with port := { s.port with slot := some reply, inProgress := none } } := by
  obtain ⟨high, -, unjudged⟩ := sound.of_inProgress (by rw [work]; rfl)
  exact of_reply high rfl rfl unjudged

/-- The edit that waits is in progress; it goes on waiting, or its reply takes its place (R61). -/
theorem takeWaitingEdit (sound : PortSound s) : PortSound s.takeWaitingEdit := by
  unfold State.takeWaitingEdit
  split
  · next tag e waits =>
    obtain ⟨p, work⟩ : ∃ p, s.port.inProgress = some p := by
      unfold State.waitingEdit at waits
      split at waits
      · next work => exact ⟨_, work⟩
      · cases waits
      · cases waits
    have edited := s.runEdit_occupancy e
    have ran : PortSound (s.runEdit e).1 := sound.congr edited
    simp only [State.occupancy, Prod.mk.injEq] at edited
    obtain ⟨-, -, same, -⟩ := edited
    have going : (s.runEdit e).1.port.inProgress = some p := same.trans work
    dsimp only
    unfold State.placeEditReply
    split
    · exact ran.placeReply going _
    · obtain ⟨high, slot, unjudged⟩ := ran.of_inProgress (by rw [going]; rfl)
      exact of_work high slot rfl unjudged
  · exact sound

theorem completeMove (sound : PortSound s) : PortSound s.completeMove := by
  unfold State.completeMove
  split
  · next m _ =>
    have settled : PortSound (s.settleMove m) := sound.congr rfl
    exact settled.takeWaitingEdit.congr (State.endMove_occupancy _)
  · exact sound

/-- The end of cold start fills the slot, where nothing stood (R149). -/
theorem coldStartEnd (sound : PortSound s) (startup : StartupPin) {t : State}
    (h : exec (.coldStartEnd startup) s = .next t) : PortSound t := by
  cases h
  cases reset : s.pins.resetLow with
  | false => exact sound
  | true =>
    obtain ⟨-, work, transaction⟩ := sound.low reset
    refine congr (of_reply ?_ ?_ ?_ ?_) (State.sampleAlarm_occupancy _)
    · rfl
    · rfl
    · exact work
    · show State.judging s = false
      rw [State.judging, transaction]

/-! #### Every command -/

/-- A command whose next state is given. -/
theorem of_next {u : State} (h : (Host.Outcome.next u : Result) = .next t) (sound : PortSound u) : PortSound t := by
  cases h
  exact sound

theorem exec (sound : PortSound s) {c : Instr} (h : exec c s = .next t) : PortSound t := by
  cases c with
  | coldStart => exact of_next h portSound_reset
  | coldStartEnd startup => exact sound.coldStartEnd startup h
  | alarmAssertion => exact of_next h (sound.congr (s.setAlarm_occupancy true))
  | alarmDeassertion => exact of_next h (sound.congr (s.setAlarm_occupancy false))
  | transactionBegin =>
    refine of_next h ?_
    split
    · exact sound
    · next begins =>
      rw [Bool.or_eq_true, not_or, Bool.not_eq_true, Option.not_isSome_iff_eq_none] at begins
      exact sound.beginTransaction begins.1 begins.2
  | discardedRequest =>
    refine of_next h ?_
    split
    · next x carries =>
      split
      · exact sound
      · next unjudged => exact sound.discard carries unjudged
    · exact sound
  | badFrame tag reason => exact sound.badFrame tag reason h
  | badCommand tag => exact of_next h (sound.servedNow _ _ fun _ _ => rfl)
  | nop q => exact of_next h (sound.servedNow q _ fun _ _ => rfl)
  | status q => exact of_next h (sound.servedNow q _ fun _ _ => rfl)
  | look q => exact of_next h (sound.servedNow q _ fun i u => u.look_occupancy i)
  | set q => exact of_next h (sound.served q _ fun i u => u.requestSet_occupancy i)
  | find q => exact of_next h (sound.servedNow q _ fun i u => u.find_occupancy i)
  | createProfile q => exact of_next h (sound.servedNow q _ fun c u => u.requestNew_occupancy (u.testCreate c))
  | clone q => exact of_next h (sound.servedNow q _ fun ref u => u.requestNew_occupancy (u.testClone ref))
  | editSections q =>
    exact of_next h (sound.served q _ fun i u => u.editOrWait_occupancy _ _ (u.requestEditSections_occupancy i))
  | base q => exact of_next h (sound.served q _ fun i u => u.editOrWait_occupancy _ _ (u.requestBase_occupancy i))
  | retire q =>
    refine of_next h (sound.servedNow q _ fun ref u => ?_)
    unfold State.requestRetire
    exact u.takeChange_occupancy _ _ fun h u => u.applyRetire_occupancy h
  | revive q =>
    refine of_next h (sound.servedNow q _ fun ref u => ?_)
    unfold State.requestRevive
    exact u.takeChange_occupancy _ _ fun h u => u.applyRevive_occupancy h
  | bind q =>
    refine of_next h (sound.servedNow q _ fun i u => ?_)
    unfold State.requestBind
    exact u.takeChange_occupancy _ _ fun p u => u.applyBind_occupancy p
  | unbind q =>
    refine of_next h (sound.servedNow q _ fun ref u => ?_)
    unfold State.requestUnbind
    exact u.takeChange_occupancy _ _ fun _ _ => State.dropOptional_occupancy _ _
  | bindOverride q =>
    refine of_next h (sound.servedNow q _ fun i u => ?_)
    unfold State.requestBindOverride
    exact u.takeChange_occupancy _ _ fun p u => u.applyBindOverride_occupancy p
  | unbindOverride q =>
    refine of_next h (sound.servedNow q _ fun ref u => ?_)
    unfold State.requestUnbindOverride
    exact u.takeChange_occupancy _ _ fun _ _ => State.dropOptional_occupancy _ _
  | lead q =>
    refine of_next h (sound.servedNow q _ fun i u => ?_)
    unfold State.requestLead
    exact u.takeChange_occupancy _ _ fun p u => u.applyLead_occupancy p
  | clearFeed q =>
    refine of_next h (sound.servedNow q _ fun ref u => ?_)
    unfold State.requestClearFeed
    exact u.takeChange_occupancy _ _ fun f u => u.applyClearFeed_occupancy f
  | hold q => exact of_next h (sound.servedNow q _ fun set u => u.changeHolds_occupancy set true)
  | release q => exact of_next h (sound.servedNow q _ fun set u => u.changeHolds_occupancy set false)
  | engage q => exact of_next h (sound.servedNow q _ fun _ u => u.changeSources_occupancy _ _)
  | disengage q => exact of_next h (sound.servedNow q _ fun _ u => u.changeSources_occupancy _ _)
  | compactStart q => exact of_next h (sound.servedNow q _ fun _ u => u.requestCompactStart_occupancy)
  | compactStop q => exact of_next h (sound.servedNow q _ fun _ u => u.requestCompactStop_occupancy)
  | rebuildDependencies q => exact of_next h (sound.servedNow q _ fun _ u => u.requestRebuild_occupancy)
  | save q => exact of_next h (sound.servedNow q _ fun _ u => u.requestSave_occupancy)
  | load q => exact of_next h (sound.servedNow q _ fun _ u => u.requestLoad_occupancy)
  | watchSet q => exact of_next h (sound.servedNow q _ fun i u => u.requestWatchSet_occupancy i)
  | watchClear q => exact of_next h (sound.servedNow q _ fun n u => u.requestWatchClear_occupancy n)
  | readWatch q => exact of_next h (sound.servedNow q _ fun n u => u.requestReadWatch_occupancy n)
  | sensorSet q => exact of_next h (sound.servedNow q _ fun i u => u.requestSensorSet_occupancy i)
  | sectorSet q => exact of_next h (sound.servedNow q _ fun i u => u.requestSectorSet_occupancy i)
  | policySet q => exact of_next h (sound.servedNow q _ fun cs u => u.requestPolicySet_occupancy cs)
  | crossStandSet q => exact of_next h (sound.servedNow q _ fun v u => u.requestCrossStandSet_occupancy v)
  | readNotices q => exact of_next h (sound.servedNow q _ fun _ _ => rfl)
  | clearNotices q => exact of_next h (sound.servedNow q _ fun _ _ => rfl)
  | noticeMask q => exact of_next h (sound.servedNow q _ fun m u => u.changeMask_occupancy m)
  | blockBoundary =>
    refine of_next h (sound.congr ?_)
    split
    · rfl
    · exact s.boundary_occupancy
  | transitionComplete f =>
    refine of_next h (sound.congr ?_)
    dsimp only
    split
    · split <;> rfl
    · rfl
  | sinceChangeTick n =>
    refine of_next h (sound.congr ?_)
    dsimp only
    split
    · split <;> rfl
    · rfl
  | conversionStart k =>
    refine of_next h (sound.congr ?_)
    dsimp only
    split <;> rfl
  | readingComplete k measured =>
    refine of_next h (sound.congr ?_)
    dsimp only
    split
    · rfl
    · split
      · exact State.applyReading_occupancy _ _ _
      · rfl
  | resolutionStart =>
    refine of_next h (sound.congr ?_)
    split <;> rfl
  | resolutionComplete =>
    refine of_next h (sound.congr ?_)
    split
    · rfl
    · split
      · rfl
      · exact State.concludeResolution_occupancy _ _
  | moveComplete => exact of_next h sound.completeMove
  | deferredEdit =>
    refine of_next h ?_
    split
    · exact sound.completeMove
    · exact sound
  | saveComplete readBack =>
    refine of_next h (sound.congr ?_)
    split <;> rfl
  | loadReadComplete answer =>
    refine of_next h (sound.congr ?_)
    split
    · exact s.finishRead_occupancy answer
    all_goals rfl
  | heldLoadReplacement =>
    refine of_next h (sound.congr ?_)
    split
    · split
      · rfl
      · exact s.replaceTables_occupancy _
    all_goals rfl
  | startupWaitExpiry =>
    refine of_next h (sound.congr ?_)
    split <;> rfl
  | replyPlacement =>
    refine of_next h ?_
    split
    · next work => exact sound.placeReply work _
    all_goals exact sound

end PortSound

/-- Settles O57: a transaction takes the reply, a judged one gives way to a request, and a request to its reply. -/
theorem portStaysSound : Obligations.PortStaysSound := by
  unfold Obligations.PortStaysSound
  intro s t sound h
  unfold step at h
  split at h
  · cases h
    exact sound
  · next c rest _ =>
    have dequeued : PortSound { s with pending := rest } := sound
    exact dequeued.exec h

end Sys2Proof.Machine
end

section
/-! ### Records by class and number (R155, R156, R157) -/

namespace Sys2Proof.Machine

namespace State

variable (s : State)

theorem recordNamed_feed (f : FeedNo) : s.recordNamed .feed f.val = some (.feed f) := dif_pos f.isLt

theorem recordNamed_profile (h : HandleIx) :
    s.recordNamed .profile (handleNumber h) = some (.profile (s.currentHandle h)) := by
  simp only [recordNamed, handleIx_handleNumber, Option.map_some]

theorem recordNamed_sector (n : SectorNo) : s.recordNamed .sector n.val = some (.sector n) := dif_pos n.isLt

theorem recordNamed_sensor (k : ChannelNo) : s.recordNamed .sensor k.val = some (.sensor k) := dif_pos k.isLt

variable {s} {cls : RecordClass} {n : Nat} {r : RecordName}

/-- The record of a number is the one that the number names. -/
theorem recordNamed_number (named : s.recordNamed cls n = some r) : r.target.number = n := by
  cases cls with
  | profile =>
    obtain ⟨h, place, rfl⟩ := Option.map_eq_some_iff.mp named
    exact (handleIx_some_iff.mp place).symm
  | feed | sector | sensor =>
    simp only [recordNamed] at named
    split at named <;> cases named
    rfl

/-- Every number of a class names a record (R157). -/
theorem recordNamed_isSome (inside : inClass cls n = true) : (s.recordNamed cls n).isSome = true := by
  cases cls with
  | profile =>
    simp only [inClass, Bool.and_eq_true, decide_eq_true_eq] at inside
    simp [recordNamed, handleIx, inside]
  | feed | sector | sensor =>
    have below := of_decide_eq_true inside
    rw [recordNamed, dif_pos (by omega)]
    rfl

end State

end Sys2Proof.Machine
end

section
/-! ### FIND (R153, R156, R159; log 15) -/

namespace Sys2Proof.Machine

/-- The record that FIND meets at a number, where its label matches. -/
def State.hitAt (s : State) (i : FindItems) (n : Nat) : Option RecordName :=
  (s.recordNamed i.cls n).filter fun r => ((s.labelOf r).map (labelMatches i)).getD false

/-- The match test, as one comparison of the bits that the mask leaves clear. -/
theorem labelMatches_eq (i : FindItems) (label : BitVec 16) :
    labelMatches i label = (((label ^^^ i.pattern) &&& ~~~i.mask = 0) == (i.sense = .matching)) := by
  unfold labelMatches
  cases i.sense <;> simp

theorem State.hitAt_eq (s : State) (i : FindItems) (n : Nat) : s.hitAt i n =
    (s.recordNamed i.cls n).filter fun r => match s.labelOf r with
      | some label => ((label ^^^ i.pattern) &&& ~~~i.mask = 0) == (i.sense = .matching)
      | none => false := by
  unfold State.hitAt
  congr 1
  funext r
  cases s.labelOf r with
  | none => rfl
  | some label => exact labelMatches_eq i label

/-- The last number examined: that of the 32nd match, or the last of the scan. -/
def lastExamined (found : List RecordName) (last : Nat) : Nat :=
  match found[31]? with
  | some r => r.target.number
  | none => last

/-- A scan ends with the 32nd match, or with its last number (R159). -/
theorem findLoop_eq (s : State) (i : FindItems) (ns : List Nat) (found : List RecordName) (last : Nat)
    (few : found.length < 32) : findLoop s i ns found last =
      ((found ++ ns.filterMap (s.hitAt i)).take 32,
        lastExamined (found ++ ns.filterMap (s.hitAt i)) (ns.getLast?.getD last)) := by
  induction ns generalizing found last with
  | nil =>
    have all : found.take 32 = found := List.take_of_length_le (by omega)
    have none : found[31]? = none := List.getElem?_eq_none (by omega)
    simp [findLoop, lastExamined, all, none]
  | cons n rest ih =>
    rw [List.getLast?_cons, Option.getD_some]
    cases hit : s.hitAt i n with
    | none =>
      rw [List.filterMap_cons_none hit, ← ih found n few, findLoop]
      rw [State.hitAt] at hit
      simp only [hit]
    | some r =>
      have step : findLoop s i (n :: rest) found last =
          if found.length + 1 = 32 then (found ++ [r], n) else findLoop s i rest (found ++ [r]) n := by
        rw [State.hitAt] at hit
        simp only [findLoop, hit]
      rw [step, List.filterMap_cons_some hit]
      split
      · next full =>
        have number : r.target.number = n := State.recordNamed_number (Option.filter_eq_some_iff.mp hit).1
        have length : found.length = 31 := by omega
        simp [lastExamined, List.take_append, length, number]
      · next notFull =>
        rw [ih (found ++ [r]) n (by simp; omega), List.append_assoc, List.singleton_append]

theorem lastExamined_take (found : List RecordName) (last : Nat) :
    lastExamined (found.take 32) last = lastExamined found last := by
  unfold lastExamined
  rw [List.getElem?_take_of_lt (by omega)]

theorem le_lastOfClass {cls : RecordClass} {n : Nat} (inside : inClass cls n = true) : n ≤ lastOfClass cls := by
  cases cls with
  | profile => exact of_decide_eq_true ((Bool.and_eq_true _ _).mp inside).2
  | feed | sector | sensor => exact of_decide_eq_true inside

/-- The numbers from the start to the top end with the top. -/
theorem getLast?_range'_top {start top : Nat} (inside : start ≤ top) :
    (List.range' start (top + 1 - start)).getLast? = some top := by
  rw [List.getLast?_range', if_neg (by omega)]
  congr 1
  omega

section

variable {s : State} (tag : Byte) {i : FindItems}

/-- FIND whose start is refused. -/
theorem exec_find_refused (ready : s.ready) {st : Status} (refused : s.findStart i = .error st) :
    exec (.find ⟨tag, some i⟩) s = .next (s.released.answered tag st []) := by
  refine (next_serveNow_ready ready ⟨tag, some i⟩ rfl _).trans ?_
  have run : s.released.find i = (s.released, refusal st) := by
    rw [State.find, show s.released.findStart i = .error st from refused]
  rw [run]
  rfl

/-- FIND whose start is a number of its class. -/
theorem exec_find_found (ready : s.ready) {start : Nat} (starts : s.findStart i = .ok start)
    (inside : start ≤ lastOfClass i.cls) :
    let found := ((List.range' start (lastOfClass i.cls + 1 - start)).filterMap (s.hitAt i)).take 32
    exec (.find ⟨tag, some i⟩) s = .next ((match found.getLast? with
      | some r => s.released.setCursor r
      | none => s.released).answered tag .ok
        (byte1 found.length ++ found.flatMap matchBytes ++ byte1 (lastExamined found (lastOfClass i.cls)))) := by
  intro found
  refine (next_serveNow_ready ready ⟨tag, some i⟩ rfl _).trans ?_
  have scan : findLoop s.released i (List.range' start (lastOfClass i.cls + 1 - start)) [] start =
      (found, lastExamined found (lastOfClass i.cls)) := by
    rw [findLoop_eq _ _ _ _ _ (by simp), List.nil_append, getLast?_range'_top inside, Option.getD_some,
      lastExamined_take]
    rfl
  simp only [State.find, show s.released.findStart i = .ok start from starts, scan]
  rfl

end

/-- Settles O13: the class and the start are tested, then the scan runs to the 32nd match or the end of the class. -/
theorem findAnswered : Obligations.FindAnswered := by
  unfold Obligations.FindAnswered
  intro s tag i ready
  have starts (t : Target) (cls : i.cls = .feed ∨ i.cls = .profile) (yields : s.resolve i.start = .ok t) :
      s.findStart i = if inClass i.cls t.number = true then .ok t.number else .error .outOfRange := by
    have tested : s.findStart i = (require (inClass i.cls t.number) .outOfRange >>= fun _ => .ok t.number) := by
      have accepted : (i.cls = .feed || i.cls = .profile) = true := by
        rcases cls with e | e <;> rw [e] <;> rfl
      unfold State.findStart
      rw [accepted, yields]
      rfl
    rw [tested]
    cases inClass i.cls t.number <;> rfl
  refine ⟨fun f => rfl, fun h => rfl, fun other => ?_, fun st cls fails => ?_, fun t cls yields => ?_⟩
  · refine exec_find_refused tag ready ?_
    unfold State.findStart
    rcases other with e | e <;> rw [e] <;> rfl
  · refine exec_find_refused tag ready ?_
    unfold State.findStart
    rw [fails]
    rcases cls with e | e <;> rw [e] <;> rfl
  · intro top
    have last : lastOfClass i.cls = top := by
      rcases cls with e | e <;> simp [top, e, lastOfClass]
    refine ⟨fun outside => exec_find_refused tag ready ?_, fun inside => ?_⟩
    · rw [starts t cls yields, outside]
      rfl
    · have start : s.findStart i = .ok t.number := by rw [starts t cls yields, if_pos inside]
      have below : t.number ≤ lastOfClass i.cls := le_lastOfClass inside
      have found := exec_find_found tag ready start below
      rw [last, funext (s.hitAt_eq i)] at found
      exact found

end Sys2Proof.Machine
end

section
/-! ### Reading the items of a body back (R151, R153) -/

namespace Sys2Proof

/-! #### Integers and enumerated fields -/

theorem readByte_byte1 {n : Nat} (fits : fitsByte n = true) (rest : List Byte) :
    readByte (byte1 n ++ rest) = some (n, rest) := by
  have small : n < 256 := of_decide_eq_true fits
  simp [readByte, byte1, Nat.mod_eq_of_lt small]

theorem readWord_bytes2 {n : Nat} (fits : fitsWord n = true) (rest : List Byte) :
    readWord (bytes2 n ++ rest) = some (n, rest) := by
  have small : n < 65536 := of_decide_eq_true fits
  simp only [readWord, bytes2, List.cons_append, List.nil_append, BitVec.toNat_ofNat, Option.some.injEq, Prod.mk.injEq,
    and_true]
  omega

theorem readLong_bytes4 {n : Nat} (small : n < 4294967296) (rest : List Byte) :
    readLong (bytes4 n ++ rest) = some (n, rest) := by
  have halves : ∀ rest, readLong (bytes2 (n % 65536) ++ (bytes2 (n / 65536) ++ rest)) = some (n, rest) := fun rest => by
    simp only [readLong, readWord_bytes2 (n := n % 65536) (decide_eq_true (by omega)),
      readWord_bytes2 (n := n / 65536) (decide_eq_true (by omega)), Option.bind_eq_bind, Option.bind_some,
      Option.pure_def, Option.some.injEq, Prod.mk.injEq, and_true]
    omega
  have low : bytes2 n = bytes2 (n % 65536) := by
    unfold bytes2
    congr 1
    · exact BitVec.eq_of_toNat_eq (by simp only [BitVec.toNat_ofNat]; omega)
    · congr 1
      exact BitVec.eq_of_toNat_eq (by simp only [BitVec.toNat_ofNat]; omega)
  rw [bytes4, low, List.append_assoc]
  exact halves rest

theorem ofTwos_twos16 {i : Int} (fits : fitsSigned16 i = true) : ofTwos 16 (twos 16 i) = i := by
  simp only [fitsSigned16, Bool.and_eq_true, decide_eq_true_eq] at fits
  unfold ofTwos twos
  split <;> omega

theorem ofTwos_twos32 {i : Int} (fits : fitsSigned32 i = true) : ofTwos 32 (twos 32 i) = i := by
  simp only [fitsSigned32, Bool.and_eq_true, decide_eq_true_eq] at fits
  unfold ofTwos twos
  split <;> omega

theorem readSigned2_signed2 {i : Int} (fits : fitsSigned16 i = true) (rest : List Byte) :
    readSigned2 (signed2 i ++ rest) = some (i, rest) := by
  have small : fitsWord (twos 16 i) = true := decide_eq_true (by unfold twos; omega)
  simp [readSigned2, signed2, readWord_bytes2 small, ofTwos_twos16 fits]

theorem readSigned4_signed4 {i : Int} (fits : fitsSigned32 i = true) (rest : List Byte) :
    readSigned4 (signed4 i ++ rest) = some (i, rest) := by
  have small : twos 32 i < 4294967296 := by unfold twos; omega
  simp [readSigned4, signed4, readLong_bytes4 small, ofTwos_twos32 fits]

/-- An enumerated field is read at its place in its list. -/
theorem readEnum_byte1 {α : Type} {all : List α} {code : Nat} {a : α} (place : all[code]? = some a)
    (small : code < 256) (rest : List Byte) : readEnum all (byte1 code ++ rest) = some (a, rest) := by
  simp [readEnum, readByte_byte1 (decide_eq_true small), place]

theorem readTier (x : Tier) (rest : List Byte) : readEnum Tier.all (byte1 x.code ++ rest) = some (x, rest) :=
  readEnum_byte1 (by cases x <;> rfl) (by cases x <;> decide) rest

theorem readPolarity (x : Polarity) (rest : List Byte) :
    readEnum Polarity.all (byte1 x.code ++ rest) = some (x, rest) :=
  readEnum_byte1 (by cases x <;> rfl) (by cases x <;> decide) rest

theorem readShape (x : Shape) (rest : List Byte) : readEnum Shape.all (byte1 x.code ++ rest) = some (x, rest) :=
  readEnum_byte1 (by cases x <;> rfl) (by cases x <;> decide) rest

theorem readOutcome (x : PolicyOutcome) (rest : List Byte) :
    readEnum PolicyOutcome.all (byte1 x.code ++ rest) = some (x, rest) :=
  readEnum_byte1 (by cases x <;> rfl) (by cases x <;> decide) rest

theorem AnalogInput.all_code (x : AnalogInput) : AnalogInput.all[x.code]? = some x := by
  cases x with
  | ain n => fin_cases n <;> rfl
  | refA | refB | ground => rfl

theorem readInput (x : AnalogInput) (rest : List Byte) :
    readEnum AnalogInput.all (byte1 x.code ++ rest) = some (x, rest) := by
  have small : x.code < AnalogInput.all.length := (List.getElem?_eq_some_iff.mp x.all_code).1
  exact readEnum_byte1 x.all_code (small.trans (by decide)) rest

theorem readProbe (x : ProbeKind) (rest : List Byte) :
    readEnum ProbeKind.all (byte1 x.code ++ rest) = some (x, rest) :=
  readEnum_byte1 (by cases x <;> rfl) (by cases x <;> decide) rest

theorem readMode (x : SectorMode) (rest : List Byte) :
    readEnum SectorMode.all (byte1 x.code ++ rest) = some (x, rest) :=
  readEnum_byte1 (by cases x <;> rfl) (by cases x <;> decide) rest

theorem RecordClass.all_code (x : RecordClass) : RecordClass.all[x.code]? = some x := by cases x <;> rfl

theorem RecordClass.code_lt (x : RecordClass) : x.code < 256 := by cases x <;> decide

theorem readClass (x : RecordClass) (rest : List Byte) :
    readEnum RecordClass.all (byte1 x.code ++ rest) = some (x, rest) := readEnum_byte1 x.all_code x.code_lt rest

theorem readWatchClass (x : WatchClass) (rest : List Byte) :
    readEnum WatchClass.all (byte1 x.code ++ rest) = some (x, rest) :=
  readEnum_byte1 (by cases x <;> rfl) (by cases x <;> decide) rest

theorem readFilter (x : SourceFilter) (rest : List Byte) :
    readEnum SourceFilter.all (byte1 x.code ++ rest) = some (x, rest) :=
  readEnum_byte1 (by cases x <;> rfl) (by cases x <;> decide) rest

theorem readAction (x : WatchAction) (rest : List Byte) :
    readEnum WatchAction.all (byte1 x.code ++ rest) = some (x, rest) :=
  readEnum_byte1 (by cases x <;> rfl) (by cases x <;> decide) rest

theorem readSense (x : Sense) (rest : List Byte) : readEnum Sense.all (byte1 x.code ++ rest) = some (x, rest) :=
  readEnum_byte1 (by cases x <;> rfl) (by cases x <;> decide) rest

theorem readYesNo_byte1 (b : Bool) (rest : List Byte) :
    readYesNo (byte1 (yesNoCode b) ++ rest) = some (b, rest) := by
  cases b <;> rfl

/-! #### References, sections and profile content -/

theorem readRef_bytes {ref : RecordRef} (fits : ref.wellFormed = true) (rest : List Byte) :
    readRef (ref.bytes ++ rest) = some (ref, rest) := by
  cases ref with
  | numbered cls number gen =>
    simp only [RecordRef.wellFormed, Bool.and_eq_true] at fits
    obtain ⟨number, gen⟩ := fits
    have code : fitsByte cls.code = true := decide_eq_true cls.code_lt
    simp [readRef, RecordRef.bytes, readByte_byte1 (n := 0) rfl, readByte_byte1 code, cls.all_code,
      readByte_byte1 number, readByte_byte1 gen]
  | current | next | previous | referred => rfl

theorem readSection_bytes {e : EqSection} (fits : e.wellFormed = true) (rest : List Byte) :
    readSection (e.bytes ++ rest) = some (e, rest) := by
  simp only [EqSection.wellFormed, Bool.and_eq_true] at fits
  obtain ⟨⟨frequency, gain⟩, width⟩ := fits
  simp [readSection, EqSection.bytes, readShape, readYesNo_byte1, readWord_bytes2 frequency, readSigned2_signed2 gain,
    readWord_bytes2 width]

theorem readSections_bytes {es : List EqSection} (fits : es.all EqSection.wellFormed = true) (rest : List Byte) :
    readSections es.length (sectionsBytes es ++ rest) = some (es, rest) := by
  induction es with
  | nil => rfl
  | cons e es ih =>
    rw [List.all_cons, Bool.and_eq_true] at fits
    obtain ⟨first, others⟩ := fits
    simp [readSections, sectionsBytes, readSection_bytes first, ih others]

theorem readOptHandle_bytes {h : Option RawHandle} (fits : fitsOpt RawHandle.wellFormed h = true) (rest : List Byte) :
    readOptHandle (optHandleBytes h ++ rest) = some (h, rest) := by
  cases h with
  | none => rfl
  | some h =>
    simp only [fitsOpt, RawHandle.wellFormed, Bool.and_eq_true, decide_eq_true_eq] at fits
    obtain ⟨⟨positive, number⟩, gen⟩ := fits
    simp [readOptHandle, optHandleBytes, readByte_byte1 number, readByte_byte1 gen, Nat.ne_of_gt positive]

theorem readOptTrim_bytes {t : Option Int} (fits : fitsOpt (fun t => 0 ≤ t && t < 65535) t = true) (rest : List Byte) :
    readOptTrim (optTrimBytes t ++ rest) = some (t, rest) := by
  cases t with
  | none => rfl
  | some t =>
    simp only [fitsOpt, Bool.and_eq_true, decide_eq_true_eq] at fits
    have small : fitsWord (twos 16 t) = true := decide_eq_true (by unfold twos; omega)
    have value : (twos 16 t : Int) = t := by unfold twos; omega
    have present : twos 16 t ≠ 65535 := by omega
    simp [readOptTrim, optTrimBytes, signed2, readWord_bytes2 small, present, value]

/-- A list that fits a body has a length of one byte. -/
theorem fitsByte_sections {room : Nat} (small : room ≤ 1024) {es : List EqSection}
    (fits : sectionsWellFormed room es = true) : fitsByte es.length = true ∧ es.all EqSection.wellFormed = true := by
  rw [sectionsWellFormed, Bool.and_eq_true, decide_eq_true_eq] at fits
  obtain ⟨length, each⟩ := fits
  exact ⟨decide_eq_true (by omega), each⟩

theorem readProfileContent_bytes {p : ProfileContent} (fits : p.wellFormed = true) (rest : List Byte) :
    readProfileContent (p.bytes ++ rest) = some (p, rest) := by
  simp only [ProfileContent.wellFormed, Bool.and_eq_true] at fits
  obtain ⟨⟨⟨base, trim⟩, gain⟩, list⟩ := fits
  obtain ⟨count, sections⟩ := fitsByte_sections (by decide) list
  have label : fitsWord p.label.toNat = true := decide_eq_true p.label.isLt
  simp [readProfileContent, ProfileContent.bytes, readWord_bytes2 label, readTier, readOptHandle_bytes base,
    readOptTrim_bytes trim, readSigned2_signed2 gain, readPolarity, readByte_byte1 count, readSections_bytes sections]

/-! #### Presence sets and the fields they mark (R153) -/

theorem presence_cons (m : Bool) (ms : List Bool) : presence (m :: ms) = (if m then 1 else 0) + 2 * presence ms := rfl

theorem testBit_presence (ms : List Bool) (i : Nat) : (presence ms).testBit i = ms[i]?.getD false := by
  induction ms generalizing i with
  | nil => exact Nat.zero_testBit i
  | cons m ms ih =>
    rw [presence_cons]
    cases i with
    | zero => cases m <;> simp [Nat.testBit_zero]
    | succ i =>
      have half : ((if m = true then 1 else 0) + 2 * presence ms) / 2 = presence ms := by split <;> omega
      rw [Nat.testBit_succ, half, ih, List.getElem?_cons_succ]

theorem presence_lt (ms : List Bool) : presence ms < 2 ^ ms.length := by
  induction ms with
  | nil => exact Nat.one_pos
  | cons m ms ih =>
    rw [presence_cons, List.length_cons, Nat.pow_succ]
    split <;> omega

/-- A field is read where its mark is set, and is absent where it is not. -/
theorem readIf_optBytes {α : Type} {read : List Byte → Option (α × List Byte)} {write : α → List Byte} {x : Option α}
    (reads : ∀ a, x = some a → ∀ rest, read (write a ++ rest) = some (a, rest)) (rest : List Byte) :
    readIf x.isSome read (optBytes write x ++ rest) = some (x, rest) := by
  cases x with
  | none => rfl
  | some a => simp [readIf, optBytes, reads a rfl]

theorem readOptSector_bytes {n : Option Nat} (fits : fitsOpt (fun n => n < 255) n = true) (rest : List Byte) :
    readOptSector (byte1 (n.getD 255) ++ rest) = some (n, rest) := by
  cases n with
  | none => rfl
  | some n =>
    have small : n < 255 := of_decide_eq_true fits
    have byte : fitsByte n = true := decide_eq_true (by omega)
    simp [readOptSector, readByte_byte1 byte, Nat.ne_of_lt small]

/-- What an item that may be absent fits, it fits where it is present. -/
theorem fits_of_some {α : Type} {fits : α → Bool} {x : Option α} (all : fitsOpt fits x = true) (a : α)
    (present : x = some a) : fits a = true := by
  rw [present] at all
  exact all

theorem readSensorSet_bytes {i : SensorSetItems} (fits : i.wellFormed = true) (rest : List Byte) :
    readSensorSet (i.bytes ++ rest) = some (i, rest) := by
  simp only [SensorSetItems.wellFormed, Bool.and_eq_true] at fits
  obtain ⟨⟨⟨⟨sensor, gain⟩, offset⟩, interval⟩, sector⟩ := fits
  have set : presence [i.enabled.isSome, i.positive.isSome, i.negative.isSome, i.gain.isSome, i.offsetTrim.isSome,
    i.probe.isSome, i.interval.isSome, i.sector.isSome] < 256 := Nat.lt_of_lt_of_eq (presence_lt _) (by simp)
  have word := readWord_bytes2 (decide_eq_true (Nat.lt_trans set (by omega)))
  simp only [readSensorSet, SensorSetItems.bytes, List.append_assoc, readRef_bytes sensor, word, Option.bind_eq_bind,
    Option.bind_some, if_pos set, testBit_presence, List.getElem?_cons_zero, List.getElem?_cons_succ, Option.getD_some]
  rw [readIf_optBytes fun b _ => readYesNo_byte1 b, Option.bind_some, readIf_optBytes fun a _ => readInput a,
    Option.bind_some, readIf_optBytes fun a _ => readInput a, Option.bind_some,
    readIf_optBytes fun n h => readByte_byte1 (fits_of_some gain n h), Option.bind_some,
    readIf_optBytes fun n h => readSigned2_signed2 (fits_of_some offset n h), Option.bind_some,
    readIf_optBytes fun p _ => readProbe p, Option.bind_some,
    readIf_optBytes fun n h => readByte_byte1 (fits_of_some interval n h), Option.bind_some,
    readIf_optBytes fun n h => readOptSector_bytes (fits_of_some sector n h), Option.bind_some]
  rfl

theorem readSectorSet_bytes {i : SectorSetItems} (fits : i.wellFormed = true) (rest : List Byte) :
    readSectorSet (i.bytes ++ rest) = some (i, rest) := by
  simp only [SectorSetItems.wellFormed, Bool.and_eq_true] at fits
  obtain ⟨⟨⟨⟨⟨sector, stand⟩, temp⟩, hysteresis⟩, settle⟩, glide⟩ := fits
  have set : presence [i.stand.isSome, i.mode.isSome, i.fixedTemp.isSome, i.hysteresis.isSome, i.settle.isSome,
    i.glide.isSome] < 64 := Nat.lt_of_lt_of_eq (presence_lt _) (by simp)
  have word := readWord_bytes2 (decide_eq_true (Nat.lt_trans set (by omega)))
  simp only [readSectorSet, SectorSetItems.bytes, List.append_assoc, readRef_bytes sector, word, Option.bind_eq_bind,
    Option.bind_some, if_pos set, testBit_presence, List.getElem?_cons_zero, List.getElem?_cons_succ, Option.getD_some]
  rw [readIf_optBytes fun n h => readByte_byte1 (fits_of_some stand n h), Option.bind_some,
    readIf_optBytes fun m _ => readMode m, Option.bind_some,
    readIf_optBytes fun n h => readSigned2_signed2 (fits_of_some temp n h), Option.bind_some,
    readIf_optBytes fun n h => readByte_byte1 (fits_of_some hysteresis n h), Option.bind_some,
    readIf_optBytes fun n h => readWord_bytes2 (fits_of_some settle n h), Option.bind_some,
    readIf_optBytes fun n h => readWord_bytes2 (fits_of_some glide n h), Option.bind_some]
  rfl

/-! #### The items of the other requests (R154) -/

theorem readLook_bytes {i : LookItems} (fits : i.wellFormed = true) (rest : List Byte) :
    readLook (i.ref.bytes ++ byte1 i.count ++ byte1 i.step ++ rest) = some (i, rest) := by
  simp only [LookItems.wellFormed, Bool.and_eq_true] at fits
  obtain ⟨⟨ref, count⟩, step⟩ := fits
  simp [readLook, readRef_bytes ref, readByte_byte1 count, readByte_byte1 step]

theorem readSet_bytes {i : SetItems} (fits : i.wellFormed = true) (rest : List Byte) :
    readSet (i.ref.bytes ++ byte1 i.field ++ signed4 i.value ++ byte1 i.count ++ byte1 i.step ++ rest) =
      some (i, rest) := by
  simp only [SetItems.wellFormed, Bool.and_eq_true] at fits
  obtain ⟨⟨⟨⟨ref, field⟩, value⟩, count⟩, step⟩ := fits
  simp [readSet, readRef_bytes ref, readByte_byte1 field, readSigned4_signed4 value, readByte_byte1 count,
    readByte_byte1 step]

theorem readFind_bytes {i : FindItems} (start : i.start.wellFormed = true) (rest : List Byte) :
    readFind (byte1 i.cls.code ++ bytes2 i.pattern.toNat ++ bytes2 i.mask.toNat ++ byte1 i.sense.code ++
      i.start.bytes ++ rest) = some (i, rest) := by
  have pattern : fitsWord i.pattern.toNat = true := decide_eq_true i.pattern.isLt
  have mask : fitsWord i.mask.toNat = true := decide_eq_true i.mask.isLt
  simp [readFind, readClass, readWord_bytes2 pattern, readWord_bytes2 mask, readSense, readRef_bytes start]

theorem readEditSections_bytes {i : EditSectionsItems}
    (fits : (i.profile.wellFormed && sectionsWellFormed 1019 i.sections) = true) (rest : List Byte) :
    readEditSections (i.profile.bytes ++ byte1 i.sections.length ++ sectionsBytes i.sections ++ rest) =
      some (i, rest) := by
  rw [Bool.and_eq_true] at fits
  obtain ⟨profile, list⟩ := fits
  obtain ⟨count, sections⟩ := fitsByte_sections (by decide) list
  simp [readEditSections, readRef_bytes profile, readByte_byte1 count, readSections_bytes sections]

theorem readTwoRefs_bytes {a b : RecordRef} (fits : (a.wellFormed && b.wellFormed) = true) (rest : List Byte) :
    readTwoRefs (a.bytes ++ b.bytes ++ rest) = some ((a, b), rest) := by
  rw [Bool.and_eq_true] at fits
  obtain ⟨first, second⟩ := fits
  simp [readTwoRefs, readRef_bytes first, readRef_bytes second]

theorem readAccessSet_bytes (a : AccessSet) (rest : List Byte) :
    readAccessSet (bytes2 a.code ++ rest) = some (a, rest) := by
  obtain ⟨look, change, auto, take⟩ := a
  have code : AccessSet.code ⟨look, change, auto, take⟩ = presence [look, change, auto, take] := by
    revert look change auto take
    decide
  have set : presence [look, change, auto, take] < 16 := Nat.lt_of_lt_of_eq (presence_lt _) (by simp)
  have word := readWord_bytes2 (decide_eq_true (Nat.lt_trans set (by omega)))
  simp [-Nat.testBit_zero, readAccessSet, code, word, set, testBit_presence]

theorem readWatchSet_bytes {i : WatchSetItems} (fits : i.wellFormed = true) (rest : List Byte) :
    readWatchSet (byte1 i.watch ++ i.config.bytes ++ rest) = some (i, rest) := by
  simp only [WatchSetItems.wellFormed, Bool.and_eq_true] at fits
  obtain ⟨⟨watch, base⟩, span⟩ := fits
  simp [readWatchSet, WatchConfig.bytes, readByte_byte1 watch, readYesNo_byte1, readWatchClass, readByte_byte1 base,
    readByte_byte1 span, readAccessSet_bytes, readFilter, readAction]

theorem readNoticeSet_bytes (k : NoticeSet) (rest : List Byte) :
    readNoticeSet (bytes2 k.toNat ++ rest) = some (k, rest) := by
  have small : k.toNat < 2048 := k.isLt
  have word := readWord_bytes2 (decide_eq_true (small.trans (by decide)))
  simp [readNoticeSet, word, small]

theorem readChanges_bytes (cs : List PolicyChange) : readChanges (changesBytes cs) = some cs := by
  induction cs with
  | nil => rfl
  | cons c cs ih =>
    obtain ⟨referrer, referred, outcome⟩ := c
    have tier (x : Tier) : Tier.all[(BitVec.ofNat 8 x.code).toNat]? = some x := by cases x <;> rfl
    have place : PolicyOutcome.all[(BitVec.ofNat 8 outcome.code).toNat]? = some outcome := by cases outcome <;> rfl
    simp only [changesBytes, byte1, List.cons_append, List.nil_append, readChanges, tier, place, ih]
    rfl

end Sys2Proof
end

section
/-! ### The frame of a request, judged and read back (R151, R152, R154) -/

namespace Sys2Proof

/-! #### Frames (R151, R152) -/

theorem bytes2_toNat {n : Nat} (small : n < 65536) :
    (BitVec.ofNat 8 n).toNat + 256 * (BitVec.ofNat 8 (n / 256)).toNat = n := by
  simp only [BitVec.toNat_ofNat]
  omega

/-- A frame whose body is not too long passes the three tests of R152. -/
theorem judgeFrame_frame (head tag : Byte) {body : List Byte} (fits : body.length ≤ 1024) :
    judgeFrame (frame head tag body) = .good head tag body := by
  have length := bytes2_toNat (n := body.length) (by omega)
  obtain ⟨front, isFront⟩ : ∃ front, front =
    head :: tag :: BitVec.ofNat 8 body.length :: BitVec.ofNat 8 (body.length / 256) :: body := ⟨_, rfl⟩
  obtain ⟨crc, isCrc⟩ : ∃ crc, crc = bytes2 (crc16 front).toNat := ⟨_, rfl⟩
  have framed : frame head tag body =
      head :: tag :: BitVec.ofNat 8 body.length :: BitVec.ofNat 8 (body.length / 256) :: (body ++ crc) := by
    rw [isCrc, isFront]
    rfl
  have two : crc.length = 2 := by rw [isCrc]; rfl
  have whole : ¬ (body ++ crc).length < body.length + 2 := by rw [List.length_append, two]; omega
  have ends : (body ++ crc).drop (body.length + 2) = [] := List.drop_eq_nil_of_le (by rw [List.length_append, two])
  have short : ¬ 1024 < body.length := by omega
  rw [framed]
  simp only [judgeFrame, length, whole, ends, short, List.drop_left, List.take_left,
    List.take_of_length_le (Nat.le_of_eq two), ← isFront, ← isCrc, List.any_nil, decide_false, Bool.or_false,
    Bool.false_eq_true, if_false, if_true]

theorem decodeFrame_frame {code : Nat} (byte : code < 256) (tag : Byte) {body : List Byte} (fits : body.length ≤ 1024) :
    decodeFrame (frame (BitVec.ofNat 8 code) tag body) = decodeRequest code tag body := by
  rw [decodeFrame, judgeFrame_frame _ tag fits]
  simp only [BitVec.toNat_ofNat, Nat.mod_eq_of_lt byte]

/-! #### Bodies read whole (R154) -/

/-- Items that end with their body are read whole. -/
theorem readWhole_of_reads {α : Type} {read : List Byte → Option (α × List Byte)} {bytes : List Byte} {a : α}
    (reads : ∀ rest, read (bytes ++ rest) = some (a, rest)) : readWhole read bytes = some a := by
  have all := reads []
  rw [List.append_nil] at all
  rw [readWhole, all]

/-- Items that a body may leave out are read where it holds them. -/
theorem readOrNothing_of_reads {α : Type} {read : List Byte → Option (α × List Byte)} {write : α → List Byte}
    (filled : ∀ a, write a ≠ []) (reads : ∀ a rest, read (write a ++ rest) = some (a, rest)) (x : Option α) :
    readOrNothing read (optBytes write x) = some x := by
  cases x with
  | none => rfl
  | some a =>
    unfold readOrNothing
    split
    · next empty => exact absurd empty (filled a)
    · exact congrArg (Option.map some) (readWhole_of_reads (reads a))

theorem readPolicySet_bytes {cs : List PolicyChange} (fits : policyChangesWellFormed cs = true) :
    readPolicySet (changesBytes cs) = some cs := by
  have few : cs.length ≤ 16 := of_decide_eq_true fits
  simp [readPolicySet, readChanges_bytes, few]

/-! #### Requests (R154) -/

section

variable {code : Nat} {tag : Byte} {body : List Byte}

/-- The body of a well-formed request fits a frame, and its code one byte. -/
theorem request_fits (c : Instr) : Laws.BodyFits.Statement c := by
  cases c with
  | nop r => exact Laws.BodyFits.nop r
  | status r => exact Laws.BodyFits.status r
  | look r => exact Laws.BodyFits.look r
  | set r => exact Laws.BodyFits.set r
  | find r => exact Laws.BodyFits.find r
  | createProfile r => exact Laws.BodyFits.createProfile r
  | clone r => exact Laws.BodyFits.clone r
  | editSections r => exact Laws.BodyFits.editSections r
  | base r => exact Laws.BodyFits.base r
  | retire r => exact Laws.BodyFits.retire r
  | revive r => exact Laws.BodyFits.revive r
  | bind r => exact Laws.BodyFits.bind r
  | unbind r => exact Laws.BodyFits.unbind r
  | bindOverride r => exact Laws.BodyFits.bindOverride r
  | unbindOverride r => exact Laws.BodyFits.unbindOverride r
  | lead r => exact Laws.BodyFits.lead r
  | clearFeed r => exact Laws.BodyFits.clearFeed r
  | hold r => exact Laws.BodyFits.hold r
  | release r => exact Laws.BodyFits.release r
  | engage r => exact Laws.BodyFits.engage r
  | disengage r => exact Laws.BodyFits.disengage r
  | compactStart r => exact Laws.BodyFits.compactStart r
  | compactStop r => exact Laws.BodyFits.compactStop r
  | rebuildDependencies r => exact Laws.BodyFits.rebuildDependencies r
  | save r => exact Laws.BodyFits.save r
  | load r => exact Laws.BodyFits.load r
  | watchSet r => exact Laws.BodyFits.watchSet r
  | watchClear r => exact Laws.BodyFits.watchClear r
  | readWatch r => exact Laws.BodyFits.readWatch r
  | sensorSet r => exact Laws.BodyFits.sensorSet r
  | sectorSet r => exact Laws.BodyFits.sectorSet r
  | policySet r => exact Laws.BodyFits.policySet r
  | crossStandSet r => exact Laws.BodyFits.crossStandSet r
  | readNotices r => exact Laws.BodyFits.readNotices r
  | clearNotices r => exact Laws.BodyFits.clearNotices r
  | noticeMask r => exact Laws.BodyFits.noticeMask r
  | coldStart | coldStartEnd | alarmAssertion | alarmDeassertion | transactionBegin | discardedRequest | badFrame
  | badCommand | blockBoundary | transitionComplete | sinceChangeTick | conversionStart | readingComplete
  | resolutionStart | resolutionComplete | moveComplete | deferredEdit | saveComplete | loadReadComplete
  | heldLoadReplacement | startupWaitExpiry | replyPlacement => exact Laws.BodyFits.of_none rfl

/-- A body that spells the items of a well-formed request is read as that request. -/
theorem decodeRequest_encodeRequest {c : Instr} (wellFormed : c.wellFormed = true)
    (spelled : encodeRequest c = some (code, tag, body)) : decodeRequest code tag body = c := by
  cases c with
  | coldStart | coldStartEnd | alarmAssertion | alarmDeassertion | transactionBegin | discardedRequest | badFrame
  | badCommand | blockBoundary | transitionComplete | sinceChangeTick | conversionStart | readingComplete
  | resolutionStart | resolutionComplete | moveComplete | deferredEdit | saveComplete | loadReadComplete
  | heldLoadReplacement | startupWaitExpiry | replyPlacement => cases spelled
  | nop r | status r | engage r | disengage r | compactStart r | compactStop r | rebuildDependencies r | save r | load r
  | readNotices r =>
    obtain ⟨t, _ | ⟨⟩⟩ := r <;> cases spelled
    rfl
  | clone r | retire r | revive r | unbind r | unbindOverride r | clearFeed r =>
    obtain ⟨t, _ | ref⟩ := r <;> cases spelled
    simp only [decodeRequest, readWhole_of_reads (readRef_bytes wellFormed)]
  | base r | bind r | bindOverride r | lead r =>
    obtain ⟨t, _ | i⟩ := r <;> cases spelled
    simp only [decodeRequest, readWhole_of_reads (readTwoRefs_bytes wellFormed), Option.map_some]
  | hold r | release r =>
    obtain ⟨t, _ | set⟩ := r <;> cases spelled
    simp only [decodeRequest, readWhole_of_reads (readWord_bytes2 (decide_eq_true set.isLt)), Option.map_some,
      BitVec.ofNat_toNat, BitVec.setWidth_eq]
  | watchClear r | readWatch r =>
    obtain ⟨t, _ | n⟩ := r <;> cases spelled
    simp only [decodeRequest, readWhole_of_reads (readByte_byte1 wellFormed)]
  | look r =>
    obtain ⟨t, _ | i⟩ := r <;> cases spelled
    simp only [decodeRequest, readWhole_of_reads (readLook_bytes wellFormed)]
  | set r =>
    obtain ⟨t, _ | i⟩ := r <;> cases spelled
    simp only [decodeRequest, readWhole_of_reads (readSet_bytes wellFormed)]
  | find r =>
    obtain ⟨t, _ | i⟩ := r <;> cases spelled
    simp only [decodeRequest, readWhole_of_reads (readFind_bytes wellFormed)]
  | createProfile r =>
    obtain ⟨t, _ | p⟩ := r <;> cases spelled
    simp only [decodeRequest, readWhole_of_reads (readProfileContent_bytes wellFormed)]
  | editSections r =>
    obtain ⟨t, _ | i⟩ := r <;> cases spelled
    simp only [decodeRequest, readWhole_of_reads (readEditSections_bytes wellFormed)]
  | watchSet r =>
    obtain ⟨t, _ | i⟩ := r <;> cases spelled
    simp only [decodeRequest, readWhole_of_reads (readWatchSet_bytes wellFormed)]
  | sensorSet r =>
    obtain ⟨t, _ | i⟩ := r <;> cases spelled
    simp only [decodeRequest, readWhole_of_reads (readSensorSet_bytes wellFormed)]
  | sectorSet r =>
    obtain ⟨t, _ | i⟩ := r <;> cases spelled
    simp only [decodeRequest, readWhole_of_reads (readSectorSet_bytes wellFormed)]
  | policySet r =>
    obtain ⟨t, _ | cs⟩ := r <;> cases spelled
    simp only [decodeRequest, readPolicySet_bytes wellFormed]
  | crossStandSet r =>
    obtain ⟨t, _ | outcome⟩ := r <;> cases spelled
    simp only [decodeRequest, readOrNothing_of_reads (write := fun o : PolicyOutcome => byte1 o.code) nofun readOutcome]
  | clearNotices r =>
    obtain ⟨t, _ | kinds⟩ := r <;> cases spelled
    simp only [decodeRequest, readWhole_of_reads (readNoticeSet_bytes kinds)]
  | noticeMask r =>
    obtain ⟨t, _ | mask⟩ := r <;> cases spelled
    simp only [decodeRequest, readOrNothing_of_reads (write := fun k : NoticeSet => bytes2 k.toNat) nofun
      readNoticeSet_bytes]

end

/-- Settles O53: the frame is judged good, and its body is read item by item. -/
theorem frameRoundTrip : Obligations.FrameRoundTrip := by
  unfold Obligations.FrameRoundTrip
  intro c bytes wellFormed spelled
  obtain ⟨⟨code, tag, body⟩, request, rfl⟩ := Option.map_eq_some_iff.mp spelled
  obtain ⟨byte, fits⟩ := request_fits c wellFormed code tag body request
  exact (decodeFrame_frame byte tag fits).trans (decodeRequest_encodeRequest wellFormed request)

end Sys2Proof
end

section
/-! ### LOOK: the records returned and the watches they meet (R144, R145, R146, R157) -/

namespace Sys2Proof.Machine

namespace State

variable (s : State)

/-- The state after a LOOK has returned these records: each has met the watches, and the cursor stands on it. -/
def lookedTo (rs : List RecordName) : State := rs.foldl (fun u r => ((u.watchTest .portLook r).1).setCursor r) s

/-- The state after these records have met the watches, the cursor where it was. -/
def lookedAt (rs : List RecordName) : State := rs.foldl (fun u r => (u.watchTest .portLook r).1) s

theorem watchTest_setCursor (a : Access) (r c : RecordName) :
    ((s.setCursor c).watchTest a r).1 = (s.watchTest a r).1.setCursor c := by
  have moved := congrArg Prod.fst (s.watchTest_withPort (s.setCursor c).port a r)
  refine moved.trans ?_
  rw [setCursor, setCursor, watchTest_port]

theorem lookedAt_setCursor (rs : List RecordName) (c : RecordName) :
    (s.setCursor c).lookedAt rs = (s.lookedAt rs).setCursor c := by
  induction rs generalizing s with
  | nil => rfl
  | cons r rs ih =>
    show lookedAt ((s.setCursor c).watchTest .portLook r).1 rs = _
    rw [watchTest_setCursor]
    exact ih _

/-- The cursor ends on the last record returned (R155). -/
theorem lookedTo_eq (rs : List RecordName) : s.lookedTo rs = match rs.getLast? with
    | some last => (s.lookedAt rs).setCursor last
    | none => s.lookedAt rs := by
  induction rs generalizing s with
  | nil => rfl
  | cons r rs ih =>
    show lookedTo ((s.watchTest .portLook r).1.setCursor r) rs = _
    rw [ih, lookedAt_setCursor, List.getLast?_cons]
    cases rs.getLast? <;> rfl

theorem lookedTo_stops (rs : List RecordName) (a : Access) (r : RecordName) :
    (s.lookedTo rs).stops a r = s.stops a r := by
  refine foldl_keeps (fun u : State => u.stops a r) _ (fun u x => ?_) rs s
  exact (stops_withPort _ _ a r).trans (u.watchTest_stops .portLook a x r)

theorem setCursor_recordImage (c r : RecordName) : (s.setCursor c).recordImage r = s.recordImage r :=
  s.recordImage_frame (s.setCursor c).port s.watches s.notices r

theorem watchTest_recordImage (a : Access) (x r : RecordName) :
    (s.watchTest a x).1.recordImage r = s.recordImage r := by
  rw [watchTest_frame]
  exact s.recordImage_frame s.port _ _ r

theorem lookedTo_recordImage (rs : List RecordName) (r : RecordName) :
    (s.lookedTo rs).recordImage r = s.recordImage r := by
  refine foldl_keeps (fun u : State => u.recordImage r) _ (fun u x => ?_) rs s
  exact (setCursor_recordImage _ x r).trans (u.watchTest_recordImage .portLook x r)

variable {s}

theorem lookLoop_cons (cls : RecordClass) (r : RecordName) (rest : List RecordName) (images : List (List Byte))
    {u : State} {stopped : Bool} (tested : s.watchTest .portLook r = (u, stopped)) :
    lookLoop cls (r :: rest) images s =
      if stopped then (u, ⟨.watched, lookBody cls images ++ r.bytes⟩)
      else lookLoop cls rest (images ++ [u.recordImage r]) (u.setCursor r) := by
  rw [lookLoop, tested]

/-- A LOOK returns the records that no watch stops, and goes on with the rest. -/
theorem lookLoop_append (cls : RecordClass) {before : List RecordName} (rest : List RecordName)
    (images : List (List Byte)) (free : ∀ r ∈ before, s.stops .portLook r = false) :
    lookLoop cls (before ++ rest) images s =
      lookLoop cls rest (images ++ before.map s.recordImage) (s.lookedTo before) := by
  induction before generalizing s images with
  | nil => rw [List.map_nil, List.append_nil]; rfl
  | cons r before ih =>
    obtain ⟨first, others⟩ := List.forall_mem_cons.mp free
    have step : lookLoop cls (r :: before ++ rest) images s =
        lookLoop cls (before ++ rest) (images ++ [(s.watchTest .portLook r).1.recordImage r])
          ((s.watchTest .portLook r).1.setCursor r) :=
      lookLoop_cons cls r (before ++ rest) images (stopped := false) (Prod.ext rfl first)
    have same (x : RecordName) : ((s.watchTest .portLook r).1.setCursor r).stops .portLook x = s.stops .portLook x :=
      s.lookedTo_stops [r] .portLook x
    have image : ((s.watchTest .portLook r).1.setCursor r).recordImage = s.recordImage :=
      funext (s.lookedTo_recordImage [r])
    rw [step, ih _ fun x h => (same x).trans (others x h), image, s.watchTest_recordImage, List.append_assoc,
      List.map_cons, List.singleton_append]
    rfl

/-- A LOOK ends at the first record that a watch stops (R146). -/
theorem lookLoop_stopped (cls : RecordClass) {r : RecordName} (after : List RecordName) (images : List (List Byte))
    (stop : s.stops .portLook r = true) :
    lookLoop cls (r :: after) images s =
      ((s.watchTest .portLook r).1, ⟨.watched, lookBody cls images ++ r.bytes⟩) :=
  lookLoop_cons cls r after images (stopped := true) (Prod.ext rfl stop)

theorem lookBody_images (cls : RecordClass) (rs : List RecordName) :
    lookBody cls ([] ++ rs.map s.recordImage) =
      byte1 cls.code ++ byte1 rs.length ++ rs.flatMap fun r => lengthAndImage (s.recordImage r) := by
  rw [List.nil_append, lookBody, List.length_map, List.flatMap_map]

/-- A LOOK that no watch stops returns every record. -/
theorem lookLoop_free (cls : RecordClass) {rs : List RecordName} (free : ∀ r ∈ rs, s.stops .portLook r = false)
    {last : RecordName} (ends : rs.getLast? = some last) :
    lookLoop cls rs [] s = ((s.lookedAt rs).setCursor last,
      okBody (byte1 cls.code ++ byte1 rs.length ++ rs.flatMap fun r => lengthAndImage (s.recordImage r))) := by
  have whole := lookLoop_append cls [] [] free
  rw [List.append_nil] at whole
  rw [whole, lookedTo_eq, ends, lookLoop, lookBody_images]

/-- A LOOK that a watch stops returns the records before it, and its reference. -/
theorem lookLoop_watched (cls : RecordClass) {before : List RecordName} {r : RecordName} (after : List RecordName)
    (free : ∀ x ∈ before, s.stops .portLook x = false) (stop : s.stops .portLook r = true) :
    lookLoop cls (before ++ r :: after) [] s =
      ((match before.getLast? with
        | some last => (s.lookedAt (before ++ [r])).setCursor last
        | none => s.lookedAt (before ++ [r])),
      ⟨.watched, byte1 cls.code ++ byte1 before.length ++
        (before.flatMap fun r => lengthAndImage (s.recordImage r)) ++ r.bytes⟩) := by
  have seen : s.lookedAt (before ++ [r]) = ((s.lookedAt before).watchTest .portLook r).1 := by
    rw [lookedAt, List.foldl_append]
    rfl
  rw [lookLoop_append cls _ _ free, lookLoop_stopped _ _ _ ((s.lookedTo_stops _ _ _).trans stop), lookBody_images,
    lookedTo_eq, seen]
  cases before.getLast? with
  | none => rfl
  | some last => rw [watchTest_setCursor]

end State

end Sys2Proof.Machine
end

section
/-! ### LOOK: its tests (R154, R155, R156, R157; log 40) -/

namespace Sys2Proof.Machine

theorem oneToSixteen_iff (n : Nat) : oneToSixteen n = true ↔ 1 ≤ n ∧ n ≤ 16 := by
  rw [oneToSixteen, Bool.and_eq_true, decide_eq_true_iff, decide_eq_true_iff]

namespace State

variable {s : State}

theorem lookPlan_unranged {i : LookItems} (bad : i.count = 0 ∨ 16 < i.count ∨ i.step = 0 ∨ 16 < i.step) :
    s.lookPlan i = .error .badValue := by
  have fails : (oneToSixteen i.count && oneToSixteen i.step) = false := by
    rw [Bool.eq_false_iff, ne_eq, Bool.and_eq_true, oneToSixteen_iff, oneToSixteen_iff]
    omega
  rw [lookPlan, fails]
  rfl

section

variable {ref : RecordRef} {count step : Nat} (counted : 1 ≤ count ∧ count ≤ 16) (stepped : 1 ≤ step ∧ step ≤ 16)

include counted stepped

/-- With count and step in their range the reference decides. -/
theorem lookPlan_ranged : s.lookPlan ⟨ref, count, step⟩ = (do
    let t ← s.resolve ref
    require ((recordNumbers t.number count step).all (inClass t.cls)) .outOfRange
    s.lookName t
    return (t.cls, recordNumbers t.number count step)) := by
  have holds : (oneToSixteen count && oneToSixteen step) = true := by
    rw [Bool.and_eq_true, oneToSixteen_iff, oneToSixteen_iff]
    exact ⟨counted, stepped⟩
  rw [lookPlan, holds]
  rfl

theorem lookPlan_unresolved {st : Status} (fails : s.resolve ref = .error st) :
    s.lookPlan ⟨ref, count, step⟩ = .error st := by
  rw [lookPlan_ranged counted stepped, fails]
  rfl

variable {t : Target} (yields : s.resolve ref = .ok t)

include yields

theorem lookPlan_outside (outside : ∃ n ∈ recordNumbers t.number count step, inClass t.cls n = false) :
    s.lookPlan ⟨ref, count, step⟩ = .error .outOfRange := by
  have some_out : (recordNumbers t.number count step).all (inClass t.cls) = false := by
    simpa [List.all_eq_false] using outside
  rw [lookPlan_ranged counted stepped, yields]
  show (require ((recordNumbers t.number count step).all (inClass t.cls)) .outOfRange >>= _) = _
  rw [some_out]
  rfl

theorem lookPlan_inside (inside : ∀ n ∈ recordNumbers t.number count step, inClass t.cls n = true) :
    s.lookPlan ⟨ref, count, step⟩ = s.lookName t >>= fun _ => .ok (t.cls, recordNumbers t.number count step) := by
  rw [lookPlan_ranged counted stepped, yields]
  show (require ((recordNumbers t.number count step).all (inClass t.cls)) .outOfRange >>= _) = _
  rw [List.all_eq_true.mpr inside]
  rfl

end

/-- A profile named under a generation that is not its own is refused (R32). -/
theorem lookName_stale {t : Target} {h : HandleIx} (cls : t.cls = .profile) (place : handleIx t.number = some h)
    (used : (s.handle h).state ≠ .free) (other : (s.handle h).gen.val ≠ t.gen) : s.lookName t = .error .stale := by
  rw [lookName, cls, nameHandle, place]
  simp only [if_neg used, if_neg other]

/-- A FREE handle, and a profile under its own generation, may be looked at. -/
theorem lookName_ok {t : Target} (inside : inClass t.cls t.number = true)
    (named : ∀ h, t.cls = .profile → handleIx t.number = some h →
      (s.handle h).state = .free ∨ (s.handle h).gen.val = t.gen) : s.lookName t = .ok () := by
  obtain ⟨cls, number, gen⟩ := t
  cases cls with
  | feed | sector | sensor => rfl
  | profile =>
    obtain ⟨r, hr⟩ := Option.isSome_iff_exists.mp (recordNamed_isSome (s := s) inside)
    obtain ⟨h, place, -⟩ := Option.map_eq_some_iff.mp hr
    rw [lookName, nameHandle, place]
    by_cases free : (s.handle h).state = .free
    · simp only [if_pos free]
    · simp only [if_neg free, if_pos ((named h rfl place).resolve_left free)]

/-! #### Symbolic references that yield nothing (R156) -/

theorem resolve_next_last {c : RecordName} (cursor : s.port.cursor = c)
    (last : inClass c.target.cls (c.target.number + 1) = false) : s.resolve .next = .error .outOfRange := by
  simp only [resolve, cursor, last]
  rfl

theorem resolve_previous_first {c : RecordName} (cursor : s.port.cursor = c)
    (first : c.target.number = 0 ∨ inClass c.target.cls (c.target.number - 1) = false) :
    s.resolve .previous = .error .outOfRange := by
  have none : (c.target.number ≠ 0 && inClass c.target.cls (c.target.number - 1)) = false := by
    rcases first with zero | outside
    · rw [zero]; rfl
    · rw [outside, Bool.and_false]
  simp only [resolve, cursor, none]
  rfl

theorem resolve_referred_feed {f : FeedNo} (cursor : s.port.cursor = .feed f) (none : (s.feed f).binding = none) :
    s.resolve .referred = .error .noReference := by
  simp only [resolve, cursor, none]
  rfl

theorem resolve_referred_sector {n : SectorNo} (cursor : s.port.cursor = .sector n) :
    s.resolve .referred = .error .noReference := by
  simp only [resolve, cursor]

theorem resolve_referred_sensor {k : ChannelNo} (cursor : s.port.cursor = .sensor k)
    (none : (s.channel k).config.sector = none) : s.resolve .referred = .error .noReference := by
  simp only [resolve, cursor, none]
  rfl

theorem resolve_referred_profile {h : Handle} (cursor : s.port.cursor = .profile h) :
    s.resolve .referred = s.nameHandle (handleNumber h.ix) h.gen.val >>= fun ix =>
      referredTo ((s.baseOf ix).map handleTarget) := by
  simp only [resolve, cursor]

theorem nameHandle_place (h : HandleIx) (gen : Nat) : s.nameHandle (handleNumber h) gen =
    if (s.handle h).state = .free then .error .free
    else if (s.handle h).gen.val = gen then .ok h
    else .error .stale := by
  rw [nameHandle, handleIx_handleNumber]

end State

section

variable {s : State} (tag : Byte) {i : LookItems}

theorem exec_look_refused (ready : s.ready) {st : Status} (refused : s.lookPlan i = .error st) :
    exec (.look ⟨tag, some i⟩) s = .next (s.released.answered tag st []) := by
  refine (next_serveNow_ready ready ⟨tag, some i⟩ rfl _).trans ?_
  have run : s.released.look i = (s.released, refusal st) := by
    rw [State.look, State.lookPlan_released, refused]
  rw [run]
  rfl

theorem exec_look_planned (ready : s.ready) {cls : RecordClass} {ns : List Nat} (planned : s.lookPlan i = .ok (cls, ns))
    {t : State} {a : Answer} (looped : lookLoop cls (ns.filterMap (s.recordNamed cls)) [] s.released = (t, a)) :
    exec (.look ⟨tag, some i⟩) s = .next (t.answered tag a.status a.body) := by
  refine (next_serveNow_ready ready ⟨tag, some i⟩ rfl _).trans ?_
  have run : s.released.look i = (t, a) := by
    rw [State.look, State.lookPlan_released, planned]
    exact looped
  rw [run]

end

end Sys2Proof.Machine
end

section
/-! ### The bytes of the images (R100, R107, R118, R153, R157, R158; log 8, 12, 13) -/

namespace Sys2Proof

theorem sectionsBytes_eq (es : List EqSection) : sectionsBytes es = es.flatMap EqSection.bytes := by
  induction es with
  | nil => rfl
  | cons e es ih => rw [sectionsBytes, ih, List.flatMap_cons]

namespace Machine

/-! #### The output state (R118) -/

theorem FeedRender.outputState_idle {x : FeedRender} (idle : x.transition = none) :
    (x.source = .normal → x.outputState = if x.active.isSome then .steady else .silent) ∧
      (x.source = .standby → x.outputState = .onStandby) ∧ (x.source = .mute → x.outputState = .overrideSilent) := by
  rw [outputState, idle]
  exact ⟨fun e => by rw [e], fun e => by rw [e], fun e => by rw [e]⟩

theorem FeedRender.outputState_moving {x : FeedRender} {v : Transition} (moving : x.transition = some v) :
    x.outputState = if v.kind = .glide then .gliding else .fading := by
  rw [outputState, moving]
  obtain ⟨kind, left, target, done, length⟩ := v
  cases kind <;> rfl

/-! #### Items spelled by division, least significant byte first (R151, R153) -/

namespace Spelled

def le1 (n : Nat) : List Byte := [BitVec.ofNat 8 n]

def le2 (i : Int) : List Byte := [BitVec.ofInt 8 i, BitVec.ofInt 8 (i / 256)]

def le4 (i : Int) : List Byte :=
  [BitVec.ofInt 8 i, BitVec.ofInt 8 (i / 256), BitVec.ofInt 8 (i / 65536), BitVec.ofInt 8 (i / 16777216)]

def yes (b : Bool) : List Byte := [if b then 0#8 else 1#8]

def optHandle : Option Handle → List Byte
  | some h => le1 (h.ix.val + 1) ++ le1 h.gen.val
  | none => [0, Config.absentHandleGeneration]

def delay : Option Int → List Byte
  | some x => le4 x
  | none => [0xFF, 0xFF, 0xFF, 0xFF]

def seconds : Option Nat → List Byte
  | some x => le4 x
  | none => [0xFF, 0xFF, 0xFF, 0xFF]

def trim : Option Int → List Byte
  | some x => le2 x
  | none => [0xFF, 0xFF]

def temp : Option Int → List Byte
  | some x => le2 x
  | none => [0x00, 0x80]

def fault : Option FaultReason → List Byte
  | none => [0#8]
  | some .range => [1]
  | some .leadUnresolved => [2]

def slot : Option Setting → List Byte
  | some x => le4 x.outputDelay ++ [match x.bus with
    | .programme n => BitVec.ofNat 8 n.val
    | .evacuation => Config.evacuationBusByte]
  | none => [0xFF, 0xFF, 0xFF, 0xFF, 0xFF]

def kind (v : Option Transition) : List Byte :=
  match v.map Transition.kind with
  | none => [0#8]
  | some .glide => [1]
  | some .fadeIn => [2]
  | some .fadeOut => [3]
  | some .crossfade => [4]

def progress : Option Transition → List Byte
  | none => le4 Config.noTransitionBytes.toNat
  | some v => le2 v.blocksDone ++ le2 v.length

theorem byte1_eq (n : Nat) : byte1 n = le1 n := rfl

theorem bytes2_eq (n : Nat) : bytes2 n = le2 n := bytes2_le n

theorem signed2_eq (i : Int) : signed2 i = le2 i := signed2_le i

theorem bytes4_eq (n : Nat) : bytes4 n = le4 n := bytes4_le n

theorem signed4_eq (i : Int) : signed4 i = le4 i := signed4_le i

theorem yes_eq (b : Bool) : byte1 (yesNoCode b) = yes b := by cases b <;> rfl

theorem optHandle_eq (b : Option Handle) : optHandleBytes (b.map Handle.raw) = optHandle b := by cases b <;> rfl

theorem delay_eq (d : Option Int) : optDelay4 d = delay d := by
  cases d with
  | none => rfl
  | some x => exact signed4_eq x

theorem seconds_eq (n : Option Nat) : optSeconds4 n = seconds n := by
  cases n with
  | none => rfl
  | some x => exact bytes4_eq x

theorem trim_eq (t : Option Int) : optTrimBytes t = trim t := by
  cases t with
  | none => rfl
  | some x => exact signed2_eq x

theorem temp_eq (t : Option Int) : optTemp2 t = temp t := by
  cases t with
  | none => rfl
  | some x => exact signed2_eq x

theorem fault_eq (r : Option FaultReason) : optEnum FaultReason.code r = fault r := by
  obtain _ | r := r
  · rfl
  · cases r <;> rfl

theorem slot_eq (p : Option Setting) : slotBytes p = slot p := by
  obtain _ | ⟨outputDelay, sections, gain, polarity, bus⟩ := p
  · rfl
  · rw [slotBytes, signed4_eq]
    cases bus <;> rfl

theorem kind_eq (v : Option Transition) : optEnum TransitionKind.code (v.map Transition.kind) = kind v := by
  obtain _ | ⟨kind, left, target, done, length⟩ := v
  · rfl
  · cases kind <;> rfl

theorem progress_eq (v : Option Transition) : progressBytes v = progress v := by
  cases v with
  | none => exact bytes4_eq _
  | some v => exact congrArg₂ (· ++ ·) (bytes2_eq _) (bytes2_eq _)

theorem section_eq (y : EqSection) :
    y.bytes = le1 y.shape.code ++ yes y.enabled ++ le2 y.frequency ++ le2 y.gain ++ le2 y.width := by
  simp only [EqSection.bytes, byte1_eq, bytes2_eq, signed2_eq, ← yes_eq]

end Spelled

/-! #### The images of records (R157, R158) -/

namespace State

open Spelled

variable (s : State)

theorem feedImage_spelled (f : FeedNo) :
    let e := s.feed f
    let x := s.renderOf f
    s.feedImage f =
      le1 f.val ++ le2 e.label.toNat ++ le1 e.tier.code ++ le1 e.sector.val ++ le1 e.bus.val ++
      optHandle e.binding ++ optHandle e.overrideBinding ++ le1 e.overrideAction.code ++
      le1 ((e.lead.map Fin.val).getD 0xFF) ++ le4 e.excessPath ++ delay e.geomDelay ++ le1 e.revision.toNat ++
      le1 e.resolution.code ++ fault e.faultReason ++ le1 x.outputState.code ++ le1 x.source.code ++
      le1 x.presence ++ slot x.active ++ slot x.pending ++ kind x.transition ++ progress x.transition := by
  unfold feedImage
  simp only [byte1_eq, bytes2_eq, signed4_eq, optHandle_eq, delay_eq, fault_eq, slot_eq, kind_eq, progress_eq]

theorem profileImage_free {h : HandleIx} (free : (s.handle h).state = .free) :
    s.profileImage h = le1 (h.val + 1) ++ le1 (s.handle h).gen.val ++ le1 (s.handle h).state.code := by
  simp only [profileImage, free]
  rfl

theorem profileImage_spelled {h : HandleIx} {p : ProfileRecord} {x : Extent} (used : (s.handle h).state ≠ .free)
    (record : (s.handle h).record = some p) (extent : (s.handle h).extent = some x) :
    let e := s.handle h
    s.profileImage h =
      le1 (h.val + 1) ++ le1 e.gen.val ++ le1 e.state.code ++ le2 e.refCount ++ le2 x.offset ++ le2 x.len ++
      yes e.inMove ++
      (le2 p.label.toNat ++ le1 p.tier.code ++ optHandle p.base ++ trim p.latencyTrim ++ le2 p.gainTrim ++
        le1 p.polarity.code ++ le1 p.sections.length ++ p.sections.flatMap fun y =>
          le1 y.shape.code ++ yes y.enabled ++ le2 y.frequency ++ le2 y.gain ++ le2 y.width) := by
  intro e
  have content : p.content.bytes = le2 p.label.toNat ++ le1 p.tier.code ++ optHandle p.base ++ trim p.latencyTrim ++
      le2 p.gainTrim ++ le1 p.polarity.code ++ le1 p.sections.length ++ p.sections.flatMap fun y =>
        le1 y.shape.code ++ yes y.enabled ++ le2 y.frequency ++ le2 y.gain ++ le2 y.width := by
    simp only [ProfileContent.bytes, ProfileRecord.content, sectionsBytes_eq, funext section_eq, byte1_eq, bytes2_eq,
      signed2_eq, optHandle_eq, trim_eq]
  have held : s.profileImage h = byte1 (handleNumber h) ++ byte1 e.gen.val ++ byte1 e.state.code ++ bytes2 e.refCount ++
      bytes2 x.offset ++ bytes2 x.len ++ byte1 (yesNoCode e.inMove) ++ p.content.bytes := by
    simp only [profileImage, record, extent]
    rfl
  rw [held, content]
  simp only [byte1_eq, bytes2_eq, ← yes_eq]
  rfl

theorem sectorImage_spelled (n : SectorNo) :
    let e := s.sector n
    let g := e.config
    s.sectorImage n =
      (le1 g.stand.val ++ le1 g.mode.code ++ le2 g.fixedTemp) ++ le2 e.speed.toNat ++ le2 e.epoch.toNat ++
      le1 g.hysteresis ++ le2 g.settle ++ le2 g.glide ++ le1 e.status.code ++ temp e.sensedTemp ++
      seconds e.sinceChange ++ yes e.awaitingFix ++ yes e.deferred ++ yes (s.holds.get n).held ++
      yes (s.holds.get n).request ++ [Config.overflowMarkByte (s.deps.overflow.get n)] := by
  simp only [sectorImage, SectorConfig.bytes, byte1_eq, bytes2_eq, signed2_eq, temp_eq, seconds_eq, ← yes_eq]

theorem sensorImage_spelled (k : ChannelNo) :
    let c := s.channel k
    let g := c.config
    s.sensorImage k =
      yes g.enabled ++ le1 g.positive.code ++ le1 g.negative.code ++ le1 g.gain ++ le2 g.offsetTrim ++
      le1 g.probe.code ++ le1 g.interval ++ le1 ((g.sector.map Fin.val).getD 0xFF) ++ le1 c.state.code ++
      le1 c.window.length ++ temp c.average ++ temp c.lastCode := by
  simp only [sensorImage, byte1_eq, signed2_eq, temp_eq, ← yes_eq]

/-! #### Lengths (R158) -/

theorem length_optTemp2 (t : Option Int) : (optTemp2 t).length = 2 := by cases t <;> rfl

theorem length_feedImage (f : FeedNo) : (s.feedImage f).length = 41 := by
  have delays (d : Option Int) : (optDelay4 d).length = 4 := by cases d <;> rfl
  have slots (p : Option Setting) : (slotBytes p).length = 5 := by cases p <;> rfl
  have enums {α : Type} (code : α → Nat) (x : Option α) : (optEnum code x).length = 1 := by cases x <;> rfl
  have progresses (v : Option Transition) : (progressBytes v).length = 4 := by cases v <;> rfl
  unfold feedImage
  simp only [List.length_append, Laws.length_byte1, Laws.length_bytes2, Laws.length_signed4,
    Laws.length_optHandle, delays, slots, enums, progresses]

theorem length_sectorImage (n : SectorNo) : (s.sectorImage n).length = 25 := by
  have times (x : Option Nat) : (optSeconds4 x).length = 4 := by
    cases x <;> exact Laws.length_bytes4 _
  simp only [sectorImage, SectorConfig.bytes, List.length_append, Laws.length_byte1, Laws.length_bytes2,
    Laws.length_signed2, length_optTemp2, times, List.length_singleton]

theorem length_sensorImage (k : ChannelNo) : (s.sensorImage k).length = 15 := by
  simp only [sensorImage, List.length_append, Laws.length_byte1, Laws.length_signed2, length_optTemp2]

end State

end Machine

end Sys2Proof
end

section
/-! ### LOOK (R100, R107, R118, R145, R146, R153, R155, R157, R158) -/

namespace Sys2Proof.Machine

section

variable {s : State} (tag : Byte) {count step : Nat}

/-- A symbolic reference that yields nothing answers its code. -/
theorem exec_look_unresolved (ready : s.ready) (counted : 1 ≤ count ∧ count ≤ 16) (stepped : 1 ≤ step ∧ step ≤ 16)
    {ref : RecordRef} {st : Status} (fails : s.resolve ref = .error st) :
    exec (.look ⟨tag, some ⟨ref, count, step⟩⟩) s = .next (s.released.answered tag st []) :=
  exec_look_refused tag ready (State.lookPlan_unresolved counted stepped fails)

end

theorem State.recordImage_released (s : State) : s.released.recordImage = s.recordImage :=
  funext (s.recordImage_frame s.released.port s.watches s.notices)

/-- Where every number is in its class, each names a record. -/
theorem State.length_names (s : State) {cls : RecordClass} {ns : List Nat} (inside : ∀ n ∈ ns, inClass cls n = true) :
    (ns.filterMap (s.recordNamed cls)).length = ns.length := by
  rw [List.filterMap_length_eq_length]
  exact fun n mem => State.recordNamed_isSome (inside n mem)

/-- Settles O12: the tests, the bytes of the images, and the records up to the first that a watch stops. -/
theorem lookAnswered : Obligations.LookAnswered := by
  unfold Obligations.LookAnswered
  refine ⟨fun s n => ?_, ?_, fun x => ⟨FeedRender.outputState_idle, fun v moving => ?_⟩, fun s => ?_,
    fun s f n k => ?_, fun s tag count step ready low high low' high' => ?_, fun s tag i ready => ⟨fun bad => ?_, ?_⟩⟩
  · refine ⟨decide_eq_true_iff, by simp [inClass], decide_eq_true_iff, decide_eq_true_iff, ?_, ?_, ?_, ?_⟩
    · rintro f rfl; exact s.recordNamed_feed f
    · rintro h rfl; exact s.recordNamed_profile h
    · rintro k rfl; exact s.recordNamed_sector k
    · rintro k rfl; exact s.recordNamed_sensor k
  · refine ⟨?_, ?_, ?_, ?_, ?_, ?_, ?_, ?_, ?_, ?_, AnalogInput.all_code, ?_, ?_, RecordClass.all_code⟩
    all_goals
      intro x
      cases x <;> rfl
  · rw [FeedRender.outputState_moving moving]
    refine ⟨fun e _ => if_pos e, fun e _ => ?_, fun e _ => ?_, fun e _ => ?_⟩ <;> rw [e] <;> rfl
  · refine ⟨s.feedImage_spelled, fun h => ⟨s.profileImage_free, fun p x => s.profileImage_spelled⟩,
      s.sectorImage_spelled, s.sensorImage_spelled, fun r => ?_, fun r => ?_⟩
    all_goals cases r <;> rfl
  · exact ⟨s.length_feedImage f, by rw [State.length_sectorImage, State.length_sectorImage],
      by rw [State.length_sensorImage, State.length_sensorImage]⟩
  · intro fails
    have refused {ref : RecordRef} {st : Status} (none : s.resolve ref = .error st) : fails ref st :=
      exec_look_unresolved tag ready ⟨low, high⟩ ⟨low', high'⟩ none
    refine ⟨fun f cursor => ⟨?_, ?_, fun none => ?_⟩, fun n cursor => ⟨?_, ?_, ?_⟩,
      fun k cursor => ⟨?_, ?_, fun none => ?_⟩,
      fun h cursor => ⟨?_, ?_, fun free => ?_, fun used other => ?_, fun used same none => ?_⟩⟩
    · rintro rfl; exact refused (State.resolve_next_last cursor rfl)
    · rintro rfl; exact refused (State.resolve_previous_first cursor (.inl rfl))
    · exact refused (State.resolve_referred_feed cursor none)
    · rintro rfl; exact refused (State.resolve_next_last cursor rfl)
    · rintro rfl; exact refused (State.resolve_previous_first cursor (.inl rfl))
    · exact refused (State.resolve_referred_sector cursor)
    · rintro rfl; exact refused (State.resolve_next_last cursor rfl)
    · rintro rfl; exact refused (State.resolve_previous_first cursor (.inl rfl))
    · exact refused (State.resolve_referred_sensor cursor none)
    · intro last
      refine refused (State.resolve_next_last cursor ?_)
      simp [RecordName.target, handleNumber, last, inClass]
    · intro first
      refine refused (State.resolve_previous_first cursor (.inr ?_))
      simp [RecordName.target, handleNumber, first, inClass]
    · refine refused ((State.resolve_referred_profile cursor).trans ?_)
      rw [State.nameHandle_place, if_pos free]
      rfl
    · refine refused ((State.resolve_referred_profile cursor).trans ?_)
      rw [State.nameHandle_place, if_neg used, if_neg fun e => other (Fin.ext e)]
      rfl
    · refine refused ((State.resolve_referred_profile cursor).trans ?_)
      rw [State.nameHandle_place, if_neg used, if_pos (congrArg Fin.val same)]
      show referredTo ((s.baseOf h.ix).map handleTarget) = _
      rw [none]
      rfl
  · exact exec_look_refused tag ready (State.lookPlan_unranged bad)
  · obtain ⟨ref, count, step⟩ := i
    intro t low high low' high' yields numbers names images looked
    have counted : 1 ≤ count ∧ count ≤ 16 := ⟨low, high⟩
    have stepped : 1 ≤ step ∧ step ≤ 16 := ⟨low', high'⟩
    refine ⟨fun outside => exec_look_refused tag ready (State.lookPlan_outside counted stepped yields outside),
      fun inside => ?_⟩
    have planned := State.lookPlan_inside counted stepped yields inside
    refine ⟨fun h cls place used other => exec_look_refused tag ready ?_, fun named => ?_⟩
    · rw [planned, State.lookName_stale cls place used other]
      rfl
    · have first : inClass t.cls t.number = true :=
        inside t.number (List.mem_map.mpr ⟨0, List.mem_range.mpr low, by rw [Nat.zero_mul, Nat.add_zero]⟩)
      rw [State.lookName_ok first named] at planned
      have length : names.length = count := by
        rw [s.length_names inside, List.length_map, List.length_range]
      refine ⟨length, fun free last ends => ?_, fun before r after split free stop => ?_⟩
      · have whole := State.lookLoop_free (s := s.released) t.cls free ends
        rw [s.recordImage_released, length] at whole
        exact exec_look_planned tag ready planned whole
      · have stopped := State.lookLoop_watched (s := s.released) t.cls after free stop
        rw [s.recordImage_released, ← split] at stopped
        exact exec_look_planned tag ready planned stopped

end Sys2Proof.Machine
end

section
/-! ### The places of enumerated fields in their lists (R153; log 34) -/

namespace Sys2Proof

theorem OverrideAction.all_code (x : OverrideAction) : OverrideAction.all[x.code]? = some x := by cases x <;> rfl

theorem Polarity.all_code (x : Polarity) : Polarity.all[x.code]? = some x := by cases x <;> rfl

theorem Shape.all_code (x : Shape) : Shape.all[x.code]? = some x := by cases x <;> rfl

theorem PolicyOutcome.all_code (x : PolicyOutcome) : PolicyOutcome.all[x.code]? = some x := by cases x <;> rfl

theorem ProbeKind.all_code (x : ProbeKind) : ProbeKind.all[x.code]? = some x := by cases x <;> rfl

theorem SectorMode.all_code (x : SectorMode) : SectorMode.all[x.code]? = some x := by cases x <;> rfl

end Sys2Proof
end

section
/-! ### SAVE: the record set written, and the end of the save (R165, R166) -/

namespace Sys2Proof.Machine

variable {s : State} {tag : Byte} {records : RawImage}

/-! #### The record set (R165) -/

namespace State

theorem savedProfile_free {h : HandleIx} (free : (s.handle h).state = .free) : s.savedProfile h = none := by
  simp [savedProfile, free]

theorem savedProfile_used {h : HandleIx} (used : (s.handle h).state ≠ .free) :
    s.savedProfile h = (s.handle h).record.map fun p => p.saved (s.currentHandle h) (s.handle h).state := by
  unfold savedProfile
  cases state : (s.handle h).state with
  | free => exact absurd state used
  | live | retiring => rfl

/-- The profiles saved are those of the handles that are not FREE, in handle order. -/
theorem savedProfiles_eq (s : State) : allHandles.filterMap s.savedProfile =
    (allHandles.filter fun h => (s.handle h).state ≠ .free).filterMap fun h =>
      (s.handle h).record.map fun p => p.saved (s.currentHandle h) (s.handle h).state := by
  rw [List.filterMap_filter]
  refine List.filterMap_congr fun h _ => ?_
  by_cases free : (s.handle h).state = .free
  · simp [savedProfile_free free, free]
  · simp [savedProfile_used free, free]

/-- The policy table is saved row by row, a row for each referrer tier. -/
theorem savedPolicy_eq (s : State) : ((List.finRange 16).map fun i => (s.policy.get i).code) =
    Tier.all.flatMap fun a => Tier.all.map fun b => (s.policyFor a b).code := rfl

end State

/-! #### SAVE (R166) -/

theorem exec_save_taken (ready : s.ready) (compaction : s.pool.compaction = .idle) (image : s.image = .idle) :
    exec (.save ⟨tag, some ()⟩) s = .next
      { s with image := .saving, flash := .writing s.savedRecords, port := s.portAnswered tag .started [] } := by
  have idle : (s.released.pool.compaction = .idle && s.released.image = .idle) = true := by
    simp [State.released, compaction, image]
  exact congrArg Host.Outcome.next (serveNow_answer (r := ⟨tag, some ()⟩) (formed := anyItems)
    (run := fun _ s => s.requestSave) ready rfl rfl (if_pos idle))

theorem exec_save_busy (ready : s.ready) (busy : s.pool.compaction ≠ .idle ∨ s.image ≠ .idle) :
    exec (.save ⟨tag, some ()⟩) s = .next (s.released.answered tag .busy []) := by
  have notIdle : ¬ (s.released.pool.compaction = .idle && s.released.image = .idle) = true := by
    simp only [Bool.and_eq_true, decide_eq_true_eq, not_and_or]
    exact busy
  exact congrArg Host.Outcome.next (serveNow_answer (r := ⟨tag, some ()⟩) (formed := anyItems)
    (run := fun _ s => s.requestSave) ready rfl rfl (if_neg notIdle))

/-! #### SAVE_COMPLETE (R166) -/

section

variable (saving : s.image = .saving) (writing : s.flash = .writing records)

include saving writing

theorem exec_saveComplete_written {readBack : SaveReadBack} (intact : readBackMatches records readBack = true) :
    exec (.saveComplete readBack) s = .next
      { s with image := .idle, flash := .image 1 records .computed, notices := s.notices.raise (.saveDone .written) } := by
  have outcome : saveOutcome s.flash readBack = (.image 1 records .computed, .written) := by
    rw [writing]
    exact if_pos intact
  show execSaveComplete readBack s = _
  simp only [execSaveComplete, saving, outcome]
  rfl

theorem exec_saveComplete_failed {readBack : SaveReadBack} (differs : readBackMatches records readBack = false) :
    exec (.saveComplete readBack) s = .next
      { s with image := .idle, flash := .noImage, notices := s.notices.raise (.saveDone .failed) } := by
  have outcome : saveOutcome s.flash readBack = (.noImage, .failed) := by
    rw [writing]
    exact if_neg (by simp [differs])
  show execSaveComplete readBack s = _
  simp only [execSaveComplete, saving, outcome]
  rfl

end

/-- Settles O50: the record set field by field, the two answers of SAVE, and the two ends of the save by its read-back. -/
theorem saveRuns : Obligations.SaveRuns := by
  unfold Obligations.SaveRuns
  refine ⟨fun s => ⟨?_, PolicyOutcome.all_code⟩, fun s tag ready => ⟨exec_save_taken ready, exec_save_busy ready⟩,
    fun s records saving writing => ⟨exec_saveComplete_written saving writing rfl,
      exec_saveComplete_failed saving writing rfl, fun bytes => ⟨fun same => ?_, fun differs => ?_⟩⟩⟩
  · rw [State.savedRecords, s.savedProfiles_eq, s.savedPolicy_eq]
    rfl
  · exact exec_saveComplete_written saving writing (decide_eq_true same)
  · exact exec_saveComplete_failed saving writing (decide_eq_false differs)

end Sys2Proof.Machine
end

section
/-! ### The replacement of the tables, whole (R83, R84, R169) -/

namespace Sys2Proof.Machine

/-- Feeds of which none stands in the queue yet go to its end in their order. -/
theorem foldl_appendOnce_of_nodup {q fs : List FeedNo} (nodup : (q ++ fs).Nodup) : fs.foldl appendOnce q = q ++ fs := by
  induction fs generalizing q with
  | nil => simp
  | cons f fs ih =>
    have fresh : f ∉ q := fun mem => List.disjoint_of_nodup_append nodup mem List.mem_cons_self
    rw [List.foldl_cons, appendOnce, if_neg fresh, ih (by simpa using nodup), List.append_assoc]
    rfl

namespace State

variable {s t u : State} {g : Image}

/-! #### Every feed queued (R83, R84) -/

theorem feed_requeueAll (s : State) (f : FeedNo) : s.requeueAll.feed f = (s.feed f).queued :=
  feed_queueFeeds_mem (List.nodup_finRange 96) (List.mem_finRange f)

theorem requeueAll_frame (s : State) :
    s.requeueAll = { s with feeds := s.requeueAll.feeds, resolver := ⟨allFeeds, s.resolver.inFlight⟩ } := by
  have queue : allFeeds.foldl appendOnce [] = allFeeds := foldl_appendOnce_of_nodup (List.nodup_finRange 96)
  have resolver : s.requeueAll.resolver = ⟨allFeeds, s.resolver.inFlight⟩ := by
    rw [requeueAll, queueFeeds_resolver, queuedAll]
    exact congrArg (Resolver.mk · s.resolver.inFlight) queue
  rw [← resolver]
  exact queueFeeds_frame _ allFeeds

/-! #### The Dependency Pool rebuilt from the feeds (R82) -/

theorem crossSectorFollowers_congr (feeds : t.feeds = u.feeds) : t.crossSectorFollowers = u.crossSectorFollowers := by
  have feed : t.feed = u.feed := funext fun f => congrArg (Table.get · f) feeds
  unfold crossSectorFollowers crossSectorLead
  rw [feed]

/-- A rebuild and the end of the load, after a step that changed feeds and the Resolver alone. -/
theorem rebuild_endLoad {r : Resolver} (frame : u = { s with feeds := u.feeds, resolver := r }) :
    u.rebuildDependencies.endLoad .loaded = { s with
      feeds := u.feeds
      resolver := r
      deps := u.rebuiltDependencies
      notices := u.rebuildNotices.raise (.loadDone .loaded)
      image := .idle } := by
  rw [rebuildDependencies_eq]
  exact congrArg (fun w : State => { w with
    deps := u.rebuiltDependencies, notices := u.rebuildNotices.raise (.loadDone .loaded), image := .idle }) frame

/-! #### The whole step (R169) -/

/-- DEPENDENCY-OVERFLOW goes by the feeds as replaced, and LOAD-DONE follows it. -/
def loadNotices (s : State) (followers : List (FeedNo × SectorNo)) : Notices :=
  Notices.raise (match followers[48]? with
    | some (_, n) => s.notices.raise (.dependencyOverflow n)
    | none => s.notices) (.loadDone .loaded)

theorem replaceTables_eq (s : State) (g : Image) : s.replaceTables g = { s with
    feeds := (s.withTables g).requeueAll.feeds
    handles := (s.withTables g).handles
    pool := g.pool
    resolver := ⟨allFeeds, s.resolver.inFlight⟩
    sectors := (s.withTables g).sectors
    channels := (s.withTables g).channels
    policy := g.policy
    crossStand := g.crossStand
    noticeMask := g.noticeMask
    deps := (s.withTables g).requeueAll.rebuiltDependencies
    notices := s.loadNotices (s.withTables g).requeueAll.crossSectorFollowers
    image := .idle } := by
  have frame := (s.withTables g).requeueAll_frame
  unfold replaceTables
  generalize (s.withTables g).requeueAll = u at frame ⊢
  have notices : u.notices = s.notices := by rw [frame]; rfl
  rw [rebuild_endLoad frame, rebuildNotices, notices]
  rfl

theorem replaceTables_crossSectorFollowers (s : State) (g : Image) :
    (s.replaceTables g).crossSectorFollowers = (s.withTables g).requeueAll.crossSectorFollowers :=
  crossSectorFollowers_congr (by rw [replaceTables_eq])

theorem replaceTables_deps (s : State) (g : Image) :
    (s.replaceTables g).deps = (s.replaceTables g).rebuiltDependencies := by
  have deps : (s.replaceTables g).deps = (s.withTables g).requeueAll.rebuiltDependencies := by rw [replaceTables_eq]
  rw [deps, rebuiltDependencies, rebuiltDependencies, replaceTables_crossSectorFollowers]

theorem replaceTables_notices (s : State) (g : Image) :
    (s.replaceTables g).notices = s.loadNotices (s.replaceTables g).crossSectorFollowers := by
  rw [replaceTables_crossSectorFollowers, replaceTables_eq]

/-- The replacement leaves the rest of the block as it stands. -/
theorem replaceTables_frame (s : State) (g : Image) : s.replaceTables g = { s with
    feeds := (s.replaceTables g).feeds, handles := (s.replaceTables g).handles, pool := (s.replaceTables g).pool
    resolver := (s.replaceTables g).resolver, sectors := (s.replaceTables g).sectors
    channels := (s.replaceTables g).channels, policy := g.policy, crossStand := g.crossStand
    noticeMask := g.noticeMask, deps := (s.replaceTables g).deps, notices := (s.replaceTables g).notices
    image := .idle } := by
  have eq := s.replaceTables_eq g
  generalize s.replaceTables g = t at eq ⊢
  generalize (s.withTables g).requeueAll = u at eq
  rw [eq]

theorem feed_replaceTables (s : State) (g : Image) (f : FeedNo) :
    (s.replaceTables g).feed f = ((s.feed f).replaced (g.feeds.get f)).queued := by
  have feeds : (s.replaceTables g).feeds = (s.withTables g).requeueAll.feeds := by rw [replaceTables_eq]
  rw [← feed_withTables, ← feed_requeueAll]
  exact congrArg (Table.get · f) feeds

theorem handle_replaceTables (s : State) (g : Image) (h : HandleIx) :
    (s.replaceTables g).handle h = (s.withTables g).handle h := by
  have handles : (s.replaceTables g).handles = (s.withTables g).handles := by rw [replaceTables_eq]
  exact congrArg (Table.get · h) handles

theorem sector_replaceTables (s : State) (g : Image) (n : SectorNo) :
    (s.replaceTables g).sector n = (s.sector n).replaced (g.sectors.get n) := by
  have sectors : (s.replaceTables g).sectors = (s.withTables g).sectors := by rw [replaceTables_eq]
  exact (congrArg (Table.get · n) sectors).trans (Table.get_tab _ n)

theorem channel_replaceTables (s : State) (g : Image) (k : ChannelNo) :
    (s.replaceTables g).channel k = (s.channel k).replaced (g.channels.get k) := by
  have channels : (s.replaceTables g).channels = (s.withTables g).channels := by rw [replaceTables_eq]
  exact (congrArg (Table.get · k) channels).trans (Table.get_tab _ k)

end State

end Sys2Proof.Machine
end

section
/-! ### The handles and the sectors after a load (R31, R34, R66, R116, R169) -/

namespace Sys2Proof.Machine

variable {s : State} {g : Image}

/-! #### The profiles that a load keeps (R169) -/

/-- One round of freeing keeps the profiles that are LIVE, and those that are counted. -/
theorem Image.filter_staysAmong (g : Image) (ps : List SavedProfile) : ps.filter (g.staysAmong ps) =
    ps.filter fun p => p.retiring = false ∨ 0 < g.countIn ps p.handle.ix :=
  List.filter_congr fun p _ => by cases live : p.retiring <;> simp [Image.staysAmong, live]

theorem Image.survivors_eq (g : Image) {round : List SavedProfile → List SavedProfile}
    (rounds : ∀ ps, round ps = ps.filter fun p => p.retiring = false ∨ 0 < g.countIn ps p.handle.ix) :
    round (round g.profiles) = g.survivors := by
  rw [rounds, ← Image.filter_staysAmong, rounds, ← Image.filter_staysAmong]
  rfl

namespace State

/-- A profile that R169 frees leaves its handle FREE at the generation after its own. -/
theorem handle_freed (distinct : g.handlesDistinct = true) {p : SavedProfile} (saved : p ∈ g.profiles)
    (gone : p ∉ g.survivors) :
    (s.withTables g).handle p.handle.ix = ⟨.free, p.handle.gen + 1, none, 0, false, none⟩ := by
  have part : ∀ q ∈ g.survivors, q ∈ g.profiles := fun q hq => (Image.mem_survivors.mp hq).1
  have unplaced : g.survivors.find? (fun q => q.handle.ix = p.handle.ix) = none := by
    rw [List.find?_eq_none]
    intro q hq same
    exact gone (Image.eq_of_ix distinct (part q hq) saved (of_decide_eq_true same) ▸ hq)
  have named : g.profileAt p.handle.ix = some p :=
    (Image.find_eq_some_iff distinct fun _ hq => hq).mpr ⟨saved, rfl⟩
  rw [handle_withTables, HandleEntry.replaced, unplaced, named]
  rfl

/-- A handle that the image leaves out is FREE by R31: one in use moves to its next generation. -/
theorem handle_leftOut {h : HandleIx} (out : ∀ p ∈ g.profiles, p.handle.ix ≠ h) : (s.withTables g).handle h =
    if (s.handle h).state = .free then s.handle h else ⟨.free, (s.handle h).gen + 1, none, 0, false, none⟩ := by
  have unfound : ∀ ps : List SavedProfile, (∀ p ∈ ps, p ∈ g.profiles) → ps.find? (fun p => p.handle.ix = h) = none :=
    fun ps part => List.find?_eq_none.mpr fun p hp same => out p (part p hp) (of_decide_eq_true same)
  have unnamed : g.profileAt h = none := unfound _ fun _ hp => hp
  rw [handle_withTables, HandleEntry.replaced, unfound _ fun p hp => (Image.mem_survivors.mp hp).1, unnamed]
  rfl

end State

/-! #### Sectors (R116) -/

theorem Sector.replaced_fixed {e : Sector} {new : SectorConfig} (fixed : new.mode = .fixed) : e.replaced new =
    if speedAt new.fixedTemp = e.speed then
      { e with config := new, status := .fixed, sensedTemp := none, awaitingFix := false, deferred := false }
    else
      { e with config := new, status := .fixed, sensedTemp := none, awaitingFix := false, deferred := false
               speed := speedAt new.fixedTemp, epoch := e.epoch + 1, sinceChange := some 0, blocks := 0 } := by
  unfold Sector.replaced
  rw [fixed]
  rfl

theorem Sector.replaced_sensed {e : Sector} {new : SectorConfig} (sensed : new.mode = .sensed) : e.replaced new =
    { e with config := new, status := .degraded, sensedTemp := none, awaitingFix := true, deferred := false } := by
  unfold Sector.replaced
  rw [sensed]

/-! #### The commands that make the replacement (R142, R167; log 32) -/

theorem State.finishRead_held (s : State) : s.finishRead .held = match validate s.flash with
    | none => s.rejectImage
    | some g => if s.locked then { s with image := .loading (.held g) } else s.replaceTables g := rfl

theorem exec_loadReadComplete_reading (reading : s.image = .loading .reading) (answer : FlashAnswer) :
    exec (.loadReadComplete answer) s = .next (s.finishRead answer) := by
  show execLoadReadComplete answer s = _
  rw [execLoadReadComplete, reading]

theorem exec_heldLoadReplacement_held (held : s.image = .loading (.held g)) :
    exec .heldLoadReplacement s = .next (if s.locked then s else s.replaceTables g) := by
  show execHeldLoadReplacement s = _
  rw [execHeldLoadReplacement, held]

theorem exec_replaces {c : Instr} (clear : s.locked = false)
    (due : (c = .loadReadComplete .held ∧ s.image = .loading .reading ∧ validate s.flash = some g) ∨
      (c = .heldLoadReplacement ∧ s.image = .loading (.held g))) : exec c s = .next (s.replaceTables g) := by
  rcases due with ⟨rfl, reading, valid⟩ | ⟨rfl, held⟩
  · rw [exec_loadReadComplete_reading reading, State.finishRead_held, valid, clear]
    rfl
  · rw [exec_heldLoadReplacement_held held, clear]
    rfl

/-- Settles O52: the replacement record by record; what the image leaves out goes by R31, what R169 frees by R34. -/
theorem tablesReplaced : Obligations.TablesReplaced := by
  unfold Obligations.TablesReplaced
  intro s g c clear consistent due count round kept words used
  have distinct : g.handlesDistinct = true := by
    simp only [Image.consistent, Bool.and_eq_true, and_assoc] at consistent
    exact consistent.1
  have survivors : kept = g.survivors := g.survivors_eq (round := round) fun _ => rfl
  clear_value kept
  subst survivors
  refine ⟨s.replaceTables g, exec_replaces clear due, fun f => s.feed_replaceTables g f, ?_, fun p hp => ?_,
    fun p saved gone => ?_, fun h out => ?_, ?_, s.replaceTables_deps g, fun f n => ?_, fun n => ?_,
    fun n => ⟨fun fixed => ?_, fun sensed => ?_⟩, fun k => s.channel_replaceTables g k, ?_, ?_, ?_,
    ?_, s.replaceTables_frame g⟩
  · rw [State.replaceTables_eq]
  · have found := (Image.find_eq_some_iff distinct fun q hq => (Image.mem_survivors.mp hq).1).mpr ⟨hp, rfl⟩
    exact (s.handle_replaceTables g _).trans (State.handle_survivor found)
  · exact (s.handle_replaceTables g _).trans (State.handle_freed distinct saved gone)
  · exact (s.handle_replaceTables g h).trans (State.handle_leftOut out)
  · rw [State.replaceTables_eq]
    rfl
  · rw [State.replaceTables_deps]
    exact State.rebuiltDependencies_entries _ f n
  · rw [State.replaceTables_deps]
    exact State.rebuiltDependencies_overflow _ n
  · exact (s.sector_replaceTables g n).trans (Sector.replaced_fixed fixed)
  · exact (s.sector_replaceTables g n).trans (Sector.replaced_sensed sensed)
  · rw [State.replaceTables_eq]
  · rw [State.replaceTables_eq]
  · rw [State.replaceTables_eq]
  · rw [s.replaceTables_notices g]
    generalize (s.replaceTables g).crossSectorFollowers = followers
    rfl

end Sys2Proof.Machine
end

section
/-! ### The records of an image, read and written back (R165, R168 test 2; log 34) -/

namespace Sys2Proof.Machine

/-- `read` takes exactly what lies in `range`, and what it gives is saved as it was read. -/
structure ReadsBack {α β : Type} (read : α → Option β) (save : β → α) (range : α → Prop) : Prop where
  sound : ∀ {a b}, read a = some b → save b = a ∧ range a
  readable : ∀ {a}, range a → ∃ b, read a = some b

theorem whenTrue_eq_some_iff {α : Type} {b : Bool} {a x : α} : whenTrue b a = some x ↔ b = true ∧ a = x := by
  cases b <;> simp [whenTrue]

theorem inRangeInt_iff {lo hi i : Int} : inRangeInt lo hi i = true ↔ lo ≤ i ∧ i ≤ hi := by simp [inRangeInt]

namespace ReadsBack

/-! #### Numbers, enumerated fields, and fields that may be absent -/

theorem fin (n : Nat) : ReadsBack (readFinNat (n + 1)) Fin.val (· ≤ n) where
  sound {a b} read := by
    unfold readFinNat at read
    split at read
    · next small => cases read; exact ⟨rfl, Nat.le_of_lt_succ small⟩
    · cases read
  readable {a} small := ⟨⟨a, Nat.lt_succ_of_le small⟩, dif_pos (Nat.lt_succ_of_le small)⟩

/-- A number that fits a bit vector. -/
theorem bits (w m : Nat) (full : m + 1 = 2 ^ w) :
    ReadsBack (fun n => whenTrue (n < m + 1) (BitVec.ofNat w n)) BitVec.toNat (· ≤ m) where
  sound {a b} read := by
    obtain ⟨small, rfl⟩ := whenTrue_eq_some_iff.mp read
    have small := of_decide_eq_true small
    exact ⟨by rw [BitVec.toNat_ofNat, Nat.mod_eq_of_lt (full ▸ small)], Nat.le_of_lt_succ small⟩
  readable small := ⟨_, whenTrue_eq_some_iff.mpr ⟨decide_eq_true (Nat.lt_succ_of_le small), rfl⟩⟩

theorem label : ReadsBack readLabel BitVec.toNat (· ≤ 65535) := bits 16 65535 rfl

/-- A field that stays a number, tested for its range. -/
theorem tested {α : Type} {test : α → Bool} {range : α → Prop} (iff : ∀ a, test a = true ↔ range a) :
    ReadsBack (fun a => whenTrue (test a) a) id range where
  sound read := by
    obtain ⟨ok, rfl⟩ := whenTrue_eq_some_iff.mp read
    exact ⟨rfl, (iff _).mp ok⟩
  readable ok := ⟨_, whenTrue_eq_some_iff.mpr ⟨(iff _).mpr ok, rfl⟩⟩

/-- A field with `n + 1` values is read at its place in the list of them. -/
theorem enum {α : Type} {all : List α} {code : α → Nat} (n : Nat) (length : all.length = n + 1)
    (place : ∀ x, all[code x]? = some x) (nodup : all.Nodup) : ReadsBack (fun v => all[v]?) code (· ≤ n) where
  sound {v x} read := by
    have inside : v < all.length := (List.getElem?_eq_some_iff.mp read).1
    exact ⟨((List.getElem?_inj inside nodup).mp (read.trans (place x).symm)).symm, by omega⟩
  readable {v} small := ⟨_, List.getElem?_eq_getElem (by omega)⟩

section

variable {α β : Type} {read : α → Option β} {save : β → α} {range : α → Prop} (r : ReadsBack read save range)

include r

theorem optional : ReadsBack (readOptional read) (Option.map save) (fun o => ∀ a, o = some a → range a) where
  sound {o x} passed := by
    cases o with
    | none => cases passed; exact ⟨rfl, nofun⟩
    | some a =>
      obtain ⟨b, one, rfl⟩ := Option.map_eq_some_iff.mp passed
      exact ⟨congrArg some (r.sound one).1, fun _ same => Option.some.inj same ▸ (r.sound one).2⟩
  readable {o} inside := by
    cases o with
    | none => exact ⟨none, rfl⟩
    | some a =>
      obtain ⟨b, one⟩ := r.readable (inside a rfl)
      exact ⟨some b, congrArg (Option.map some) one⟩

theorem list : ReadsBack (List.mapM read) (List.map save) (fun xs => ∀ a ∈ xs, range a) where
  sound {xs ys} passed := by
    induction xs generalizing ys with
    | nil => cases passed; exact ⟨rfl, nofun⟩
    | cons x xs ih =>
      rw [List.mapM_cons] at passed
      simp only [Option.bind_eq_bind, Option.bind_eq_some_iff, Option.pure_def, Option.some.injEq] at passed
      obtain ⟨y, first, ys, rest, rfl⟩ := passed
      obtain ⟨same, inside⟩ := r.sound first
      exact ⟨congrArg₂ List.cons same (ih rest).1, List.forall_mem_cons.mpr ⟨inside, (ih rest).2⟩⟩
  readable {xs} inside := by
    induction xs with
    | nil => exact ⟨[], rfl⟩
    | cons x xs ih =>
      obtain ⟨first, rest⟩ := List.forall_mem_cons.mp inside
      obtain ⟨y, one⟩ := r.readable first
      obtain ⟨ys, all⟩ := ih rest
      exact ⟨y :: ys, by rw [List.mapM_cons, one, all]; rfl⟩

theorem table (n : Nat) : ReadsBack (readTable n read) (fun t => t.cells.map save)
    (fun xs => xs.length = n ∧ ∀ a ∈ xs, range a) where
  sound {xs t} passed := by
    unfold readTable at passed
    split at passed
    · next ys all =>
      split at passed
      · next size =>
        cases passed
        obtain ⟨same, inside⟩ := r.list.sound all
        exact ⟨same, by rw [← same, List.length_map, size], inside⟩
      · cases passed
    · cases passed
  readable {xs} inside := by
    obtain ⟨ys, all⟩ := r.list.readable inside.2
    have size : ys.length = n := by rw [← inside.1, ← (r.list.sound all).1, List.length_map]
    exact ⟨⟨ys, size⟩, by rw [readTable, all]; exact dif_pos size⟩

end

theorem tier : ReadsBack (fun v => Tier.all[v]?) Tier.code (· ≤ 3) := enum 3 rfl all_getElem_tierCode (by decide)

theorem outcome : ReadsBack (fun v => PolicyOutcome.all[v]?) PolicyOutcome.code (· ≤ 2) :=
  enum 2 rfl PolicyOutcome.all_code (by decide)

theorem handle : ReadsBack readHandle Handle.raw RawHandle.InRange where
  sound {a b} passed := by
    obtain ⟨number, generation⟩ := a
    simp only [readHandle, Option.bind_eq_bind, Option.bind_eq_some_iff, Option.pure_def, Option.some.injEq] at passed
    obtain ⟨ix, place, gen, small, rfl⟩ := passed
    obtain ⟨rfl, small⟩ := (fin 15).sound small
    unfold handleIx at place
    split at place
    · next inside =>
      cases place
      exact ⟨congrArg (RawHandle.mk · gen.val) (Nat.sub_add_cancel inside.1), inside.1, inside.2, small⟩
    · cases place
  readable {a} inside := by
    obtain ⟨low, high, small⟩ := inside
    obtain ⟨gen, read⟩ := (fin 15).readable small
    exact ⟨⟨⟨a.number - 1, by omega⟩, gen⟩, by simp [readHandle, handleIx, low, high, read]⟩

end ReadsBack

/-! #### Feeds, sections and profiles -/

/-- The fields of a feed as an image holds them. -/
def SavedFeed.raw (v : SavedFeed) : RawFeed where
  label := v.label.toNat
  tier := v.tier.code
  sector := v.sector.val
  bus := v.bus.val
  binding := v.binding.map Handle.raw
  overrideBinding := v.overrideBinding.map Handle.raw
  overrideAction := v.overrideAction.code
  lead := v.lead.map Fin.val
  excessPath := v.excessPath

/-- A profile as an image holds it. -/
def SavedProfile.raw (p : SavedProfile) : RawProfile :=
  p.record.saved p.handle (if p.retiring then .retiring else .live)

namespace ReadsBack

theorem action : ReadsBack (fun v => OverrideAction.all[v]?) OverrideAction.code (· ≤ 2) :=
  enum 2 rfl OverrideAction.all_code (by decide)

theorem path : ReadsBack (fun i => whenTrue (inRangeInt (-250000) 250000 i) i) id
    (fun i => -250000 ≤ i ∧ i ≤ 250000) := tested fun _ => inRangeInt_iff

theorem feed : ReadsBack readFeedRecord SavedFeed.raw RawFeed.InRange where
  sound {a b} passed := by
    obtain ⟨label, tier, sector, bus, binding, overrideBinding, action, lead, path⟩ := a
    simp only [readFeedRecord, Option.bind_eq_bind, Option.bind_eq_some_iff, Option.pure_def, Option.some.injEq] at passed
    obtain ⟨_, hlabel, _, htier, _, hsector, _, hbus, _, hbinding, _, hover, _, haction, _, hlead, _, hpath, rfl⟩ := passed
    obtain ⟨rfl, hlabel⟩ := ReadsBack.label.sound hlabel
    obtain ⟨rfl, htier⟩ := ReadsBack.tier.sound htier
    obtain ⟨rfl, hsector⟩ := (fin 15).sound hsector
    obtain ⟨rfl, hbus⟩ := (fin 7).sound hbus
    obtain ⟨rfl, hbinding⟩ := handle.optional.sound hbinding
    obtain ⟨rfl, hover⟩ := handle.optional.sound hover
    obtain ⟨rfl, haction⟩ := ReadsBack.action.sound haction
    obtain ⟨rfl, hlead⟩ := (fin 95).optional.sound hlead
    obtain ⟨rfl, hpath⟩ := ReadsBack.path.sound hpath
    exact ⟨rfl, hlabel, htier, hsector, hbus, hbinding, hover, haction, hlead, hpath⟩
  readable {a} inside := by
    obtain ⟨label, hlabel⟩ := ReadsBack.label.readable inside.label
    obtain ⟨tier, htier⟩ := ReadsBack.tier.readable inside.tier
    obtain ⟨sector, hsector⟩ := (fin 15).readable inside.sector
    obtain ⟨bus, hbus⟩ := (fin 7).readable inside.bus
    obtain ⟨binding, hbinding⟩ := handle.optional.readable inside.binding
    obtain ⟨replacement, hover⟩ := handle.optional.readable inside.overrideBinding
    obtain ⟨action, haction⟩ := ReadsBack.action.readable inside.overrideAction
    obtain ⟨lead, hlead⟩ := (fin 95).optional.readable inside.lead
    obtain ⟨path, hpath⟩ := ReadsBack.path.readable inside.excessPath
    refine ⟨⟨label, tier, sector, bus, binding, replacement, action, lead, path⟩, ?_⟩
    simp only [readFeedRecord, hlabel, htier, hsector, hbus, hbinding, hover, haction, hlead, hpath, Option.bind_eq_bind,
      Option.bind_some, Option.pure_def]

theorem shape : ReadsBack (fun v => Shape.all[v]?) Shape.code (· ≤ 5) := enum 5 rfl Shape.all_code (by decide)

theorem polarity : ReadsBack (fun v => Polarity.all[v]?) Polarity.code (· ≤ 1) :=
  enum 1 rfl Polarity.all_code (by decide)

theorem eqSection : ReadsBack readSectionRecord savedSection RawSection.InRange where
  sound {a b} passed := by
    obtain ⟨shape, enabled, frequency, gain, width⟩ := a
    simp only [readSectionRecord, Option.bind_eq_bind, Option.bind_eq_some_iff, whenTrue_eq_some_iff] at passed
    obtain ⟨_, hshape, ranges, rfl⟩ := passed
    obtain ⟨rfl, hshape⟩ := ReadsBack.shape.sound hshape
    simp only [sectionInRange, Bool.and_eq_true, inRangeInt_iff, decide_eq_true_eq, and_assoc] at ranges
    exact ⟨rfl, hshape, ranges⟩
  readable {a} inside := by
    obtain ⟨hshape, ranges⟩ := inside
    obtain ⟨shape, hshape⟩ := ReadsBack.shape.readable hshape
    refine ⟨⟨shape, a.enabled, a.frequency, a.gain, a.width⟩, ?_⟩
    simp only [readSectionRecord, hshape, Option.bind_eq_bind, Option.bind_some, whenTrue_eq_some_iff, sectionInRange,
      Bool.and_eq_true, inRangeInt_iff, decide_eq_true_eq, and_assoc, and_true]
    exact ranges

/-- LIVE is 1 and RETIRING is 2 (R31). -/
theorem retiring : ReadsBack readRetiring (fun b => (if b then HandleState.retiring else .live).code)
    (fun n => n = 1 ∨ n = 2) where
  sound {n b} passed := by
    unfold readRetiring at passed
    split at passed
    · cases passed; exact ⟨rfl, .inl rfl⟩
    · cases passed; exact ⟨rfl, .inr rfl⟩
    · cases passed
  readable inside := by
    rcases inside with rfl | rfl
    · exact ⟨false, rfl⟩
    · exact ⟨true, rfl⟩

theorem latencyTrim : ReadsBack (fun t => whenTrue (trimInRange t) t) id (fun t => ∀ x, t = some x → 0 ≤ x ∧ x ≤ 7680) :=
  tested fun t => by cases t <;> simp [trimInRange, inRangeInt_iff]

theorem gainTrim : ReadsBack (fun i => whenTrue (gainTrimInRange i) i) id (fun i => -600 ≤ i ∧ i ≤ 120) :=
  tested fun _ => inRangeInt_iff

theorem profile : ReadsBack readProfileRecord SavedProfile.raw RawProfile.InRange where
  sound {a b} passed := by
    obtain ⟨handle, state, label, tier, base, trim, gain, polarity, sections⟩ := a
    simp only [readProfileRecord, Option.bind_eq_bind, Option.bind_eq_some_iff, whenTrue_eq_some_iff (x := b)] at passed
    obtain ⟨_, hhandle, _, hstate, _, hlabel, _, htier, _, hbase, _, htrim, _, hgain, _, hpolarity, _, hsections, own,
      rfl⟩ := passed
    obtain ⟨rfl, hhandle⟩ := ReadsBack.handle.sound hhandle
    obtain ⟨rfl, hstate⟩ := ReadsBack.retiring.sound hstate
    obtain ⟨rfl, hlabel⟩ := ReadsBack.label.sound hlabel
    obtain ⟨rfl, htier⟩ := ReadsBack.tier.sound htier
    obtain ⟨rfl, hbase⟩ := ReadsBack.handle.optional.sound hbase
    obtain ⟨rfl, htrim⟩ := latencyTrim.sound htrim
    obtain ⟨rfl, hgain⟩ := gainTrim.sound hgain
    obtain ⟨rfl, hpolarity⟩ := ReadsBack.polarity.sound hpolarity
    obtain ⟨rfl, hsections⟩ := eqSection.list.sound hsections
    have own := of_decide_eq_true own
    exact ⟨rfl, hhandle, hstate, hlabel, htier, hbase, htrim, hgain, hpolarity, by rwa [List.length_map], hsections⟩
  readable {a} inside := by
    obtain ⟨handle, hhandle⟩ := ReadsBack.handle.readable inside.handle
    obtain ⟨retiring, hstate⟩ := ReadsBack.retiring.readable inside.state
    obtain ⟨label, hlabel⟩ := ReadsBack.label.readable inside.label
    obtain ⟨tier, htier⟩ := ReadsBack.tier.readable inside.tier
    obtain ⟨base, hbase⟩ := ReadsBack.handle.optional.readable inside.base
    obtain ⟨trim, htrim⟩ := latencyTrim.readable inside.latencyTrim
    obtain ⟨gain, hgain⟩ := gainTrim.readable inside.gainTrim
    obtain ⟨polarity, hpolarity⟩ := ReadsBack.polarity.readable inside.polarity
    obtain ⟨sections, hsections⟩ := eqSection.list.readable inside.sections
    have own : sections.length ≤ Config.maxOwn := by
      rw [← List.length_map (f := savedSection), (eqSection.list.sound hsections).1]
      exact inside.ownCount
    refine ⟨⟨handle, retiring, ⟨label, tier, base, trim, gain, polarity, sections⟩⟩, ?_⟩
    simp only [readProfileRecord, hhandle, hstate, hlabel, htier, hbase, htrim, hgain, hpolarity, hsections, own,
      Option.bind_eq_bind, Option.bind_some, whenTrue_eq_some_iff, decide_true, true_and]

/-! #### Sectors and channels -/

theorem mode : ReadsBack (fun v => SectorMode.all[v]?) SectorMode.code (· ≤ 1) :=
  enum 1 rfl SectorMode.all_code (by decide)

theorem sectorConfigInRange_iff (g : SectorConfig) : sectorConfigInRange g = true ↔
    -300 ≤ g.fixedTemp ∧ g.fixedTemp ≤ 600 ∧ 5 ≤ g.hysteresis ∧ g.hysteresis ≤ 200 ∧ 5 ≤ g.settle ∧ g.settle ≤ 600 ∧
      8 ≤ g.glide ∧ g.glide ≤ 1536 := by
  simp only [sectorConfigInRange, plausible, Bool.and_eq_true, decide_eq_true_eq, and_assoc]

theorem sector : ReadsBack readSectorRecord SectorConfig.saved RawSector.InRange where
  sound {a b} passed := by
    obtain ⟨stand, mode, fixedTemp, hysteresis, settle, glide⟩ := a
    simp only [readSectorRecord, Option.bind_eq_bind, Option.bind_eq_some_iff, whenTrue_eq_some_iff,
      sectorConfigInRange_iff] at passed
    obtain ⟨_, hstand, _, hmode, ranges, rfl⟩ := passed
    obtain ⟨rfl, hstand⟩ := (fin 3).sound hstand
    obtain ⟨rfl, hmode⟩ := ReadsBack.mode.sound hmode
    exact ⟨rfl, hstand, hmode, ranges⟩
  readable {a} inside := by
    obtain ⟨hstand, hmode, ranges⟩ := inside
    obtain ⟨stand, hstand⟩ := (fin 3).readable hstand
    obtain ⟨mode, hmode⟩ := ReadsBack.mode.readable hmode
    refine ⟨⟨stand, mode, a.fixedTemp, a.hysteresis, a.settle, a.glide⟩, ?_⟩
    simp only [readSectorRecord, hstand, hmode, Option.bind_eq_bind, Option.bind_some, whenTrue_eq_some_iff, and_true,
      sectorConfigInRange_iff]
    exact ranges

theorem input : ReadsBack (fun v => AnalogInput.all[v]?) AnalogInput.code (· ≤ 10) :=
  enum 10 rfl AnalogInput.all_code (by decide)

theorem probe : ReadsBack (fun v => ProbeKind.all[v]?) ProbeKind.code (· ≤ 1) :=
  enum 1 rfl ProbeKind.all_code (by decide)

theorem channelConfigInRange_iff (g : ChannelConfig) : channelConfigInRange g = true ↔
    (g.gain = 1 ∨ g.gain = 2 ∨ g.gain = 4 ∨ g.gain = 8) ∧ (-15 ≤ g.offsetTrim ∧ g.offsetTrim ≤ 15) ∧
      (1 ≤ g.interval ∧ g.interval ≤ 60) ∧ g.positive.code ≠ g.negative.code := by
  have codes : g.positive ≠ g.negative ↔ g.positive.code ≠ g.negative.code :=
    not_congr ⟨congrArg _, fun same => Option.some.inj (by rw [← AnalogInput.all_code, same, AnalogInput.all_code])⟩
  simp only [channelConfigInRange, gainAllowed, Bool.and_eq_true, Bool.or_eq_true, inRangeInt_iff, decide_eq_true_eq,
    and_assoc, or_assoc, codes]

theorem channel : ReadsBack readChannelRecord ChannelConfig.saved RawChannel.InRange where
  sound {a b} passed := by
    obtain ⟨enabled, positive, negative, gain, trim, probe, interval, sector⟩ := a
    simp only [readChannelRecord, Option.bind_eq_bind, Option.bind_eq_some_iff, whenTrue_eq_some_iff,
      channelConfigInRange_iff] at passed
    obtain ⟨_, hpositive, _, hnegative, _, hprobe, _, hsector, ⟨hgain, htrim, hinterval, differ⟩, rfl⟩ := passed
    obtain ⟨rfl, hpositive⟩ := input.sound hpositive
    obtain ⟨rfl, hnegative⟩ := input.sound hnegative
    obtain ⟨rfl, hprobe⟩ := ReadsBack.probe.sound hprobe
    obtain ⟨rfl, hsector⟩ := (fin 15).optional.sound hsector
    exact ⟨rfl, ⟨hpositive, hnegative, differ⟩, hgain, htrim, hprobe, hinterval, hsector⟩
  readable {a} inside := by
    obtain ⟨inPositive, inNegative, differ⟩ := inside.inputs
    obtain ⟨positive, hpositive⟩ := input.readable inPositive
    obtain ⟨negative, hnegative⟩ := input.readable inNegative
    obtain ⟨probe, hprobe⟩ := ReadsBack.probe.readable inside.probe
    obtain ⟨sector, hsector⟩ := (fin 15).optional.readable inside.sector
    have codes : positive.code ≠ negative.code := by rwa [(input.sound hpositive).1, (input.sound hnegative).1]
    refine ⟨⟨a.enabled, positive, negative, a.gain, a.offsetTrim, probe, a.interval, sector⟩, ?_⟩
    simp only [readChannelRecord, hpositive, hnegative, hprobe, hsector, Option.bind_eq_bind, Option.bind_some,
      whenTrue_eq_some_iff, and_true, channelConfigInRange_iff]
    exact ⟨inside.gain, inside.offsetTrim, inside.interval, codes⟩

end ReadsBack

/-! #### The record set (R165) -/

/-- Test 2 of R168 but for the handle numbers being distinct. -/
structure RecordsInRange (r : RawImage) : Prop where
  feeds : r.feeds.length = 96 ∧ ∀ x ∈ r.feeds, x.InRange
  profiles : ∀ x ∈ r.profiles, x.InRange
  sectors : r.sectors.length = 16 ∧ ∀ x ∈ r.sectors, x.InRange
  channels : r.channels.length = 8 ∧ ∀ x ∈ r.channels, x.InRange
  policy : r.policy.length = 16 ∧ ∀ x ∈ r.policy, x ≤ 2
  crossStand : r.crossStand ≤ 2
  noticeMask : r.noticeMask ≤ 2047

theorem finRange_map_get {α β : Type} {n : Nat} (t : Table α n) (f : α → β) :
    ((List.finRange n).map fun i => f (t.get i)) = t.cells.map f :=
  List.ext_getElem (by simp [t.size]) fun i _ _ => by simp [Table.get]

/-- The record set of an image, table by table. -/
theorem Image.records_eq (g : Image) : g.records =
    { feeds := g.feeds.cells.map SavedFeed.raw
      profiles := g.profiles.map SavedProfile.raw
      sectors := g.sectors.cells.map SectorConfig.saved
      channels := g.channels.cells.map ChannelConfig.saved
      policy := g.policy.cells.map PolicyOutcome.code
      crossStand := g.crossStand.code
      noticeMask := g.noticeMask.toNat } := by
  simp only [← finRange_map_get]
  rfl

namespace ReadsBack

theorem noticeMask : ReadsBack (fun n => whenTrue (n < 2048) (BitVec.ofNat 11 n)) BitVec.toNat (· ≤ 2047) :=
  bits 11 2047 rfl

/-- An image holds exactly the fields that are read, and every record set in the ranges is read. -/
theorem records : ReadsBack readRecords Image.records RecordsInRange where
  sound {r g} passed := by
    obtain ⟨feeds, profiles, sectors, channels, policy, crossStand, noticeMask⟩ := r
    simp only [readRecords, Option.bind_eq_bind, Option.bind_eq_some_iff, Option.pure_def, Option.some.injEq] at passed
    obtain ⟨_, hfeeds, _, hprofiles, _, hsectors, _, hchannels, _, hpolicy, _, hcross, _, hmask, rfl⟩ := passed
    obtain ⟨rfl, hfeeds⟩ := (feed.table 96).sound hfeeds
    obtain ⟨rfl, hprofiles⟩ := profile.list.sound hprofiles
    obtain ⟨rfl, hsectors⟩ := (sector.table 16).sound hsectors
    obtain ⟨rfl, hchannels⟩ := (channel.table 8).sound hchannels
    obtain ⟨rfl, hpolicy⟩ := (outcome.table 16).sound hpolicy
    obtain ⟨rfl, hcross⟩ := outcome.sound hcross
    obtain ⟨rfl, hmask⟩ := ReadsBack.noticeMask.sound hmask
    exact ⟨Image.records_eq _, hfeeds, hprofiles, hsectors, hchannels, hpolicy, hcross, hmask⟩
  readable {r} inside := by
    obtain ⟨feeds, hfeeds⟩ := (feed.table 96).readable inside.feeds
    obtain ⟨profiles, hprofiles⟩ := profile.list.readable inside.profiles
    obtain ⟨sectors, hsectors⟩ := (sector.table 16).readable inside.sectors
    obtain ⟨channels, hchannels⟩ := (channel.table 8).readable inside.channels
    obtain ⟨policy, hpolicy⟩ := (outcome.table 16).readable inside.policy
    obtain ⟨crossStand, hcross⟩ := outcome.readable inside.crossStand
    obtain ⟨mask, hmask⟩ := noticeMask.readable inside.noticeMask
    refine ⟨⟨feeds, profiles, sectors, channels, policy, crossStand, mask⟩, ?_⟩
    simp only [readRecords, hfeeds, hprofiles, hsectors, hchannels, hpolicy, hcross, hmask, Option.bind_eq_bind,
      Option.bind_some, Option.pure_def]

end ReadsBack

end Sys2Proof.Machine
end

section
/-! ### The tests that bind the records of an image together (R168, tests 2 to 8) -/

namespace Sys2Proof.Machine

/-! #### Handles as an image holds them -/

theorem Handle.raw_injective : Function.Injective Handle.raw := by
  rintro ⟨a, i⟩ ⟨b, j⟩ same
  simp only [Handle.raw, handleNumber, RawHandle.mk.injEq] at same
  rw [Fin.ext (Nat.succ.inj same.1), Fin.ext same.2]

theorem Handle.map_raw_eq_some {o : Option Handle} {h : Handle} : o.map Handle.raw = some h.raw ↔ o = some h :=
  (Option.map_injective Handle.raw_injective).eq_iff (b := some h)

/-- A chain reaches `n + 1` links above a feed where it reaches `n` above the feed's lead (R11). -/
theorem succ_le_length_chainAbove {lead : FeedNo → Option FeedNo} {n : Nat} {f : FeedNo} :
    n + 1 ≤ (chainAbove lead (n + 1) f).length ↔ ∃ l, lead f = some l ∧ n ≤ (chainAbove lead n l).length := by
  cases link : lead f with
  | none => simp [chainAbove_of_root link]
  | some l => simp [chainAbove_of_lead link]

namespace Image

variable {g : Image}

/-! #### The records of an image, one by one -/

theorem records_feeds (g : Image) : g.records.feeds = allFeeds.map fun f => (g.feeds.get f).raw := rfl

theorem records_profiles (g : Image) : g.records.profiles = g.profiles.map SavedProfile.raw := rfl

theorem forall_records_feeds {P : RawFeed → Prop} : (∀ x ∈ g.records.feeds, P x) ↔ ∀ f, P (g.feeds.get f).raw := by
  simp [records_feeds, allFeeds]

theorem forall_records_profiles {P : RawProfile → Prop} :
    (∀ x ∈ g.records.profiles, P x) ↔ ∀ p ∈ g.profiles, P p.raw := by
  rw [records_profiles, List.forall_mem_map]

theorem records_leadOf (f : FeedNo) : g.records.leadOf f = (g.leadOf f).map Fin.val := by
  simp [RawImage.leadOf, records_feeds, allFeeds, leadOf, SavedFeed.raw]

theorem records_leadOf_eq_some {a b : Nat} :
    g.records.leadOf a = some b ↔ ∃ f l : FeedNo, f.val = a ∧ l.val = b ∧ g.leadOf f = some l := by
  by_cases inside : a < 96
  · obtain ⟨f, rfl⟩ : ∃ f : FeedNo, f.val = a := ⟨⟨a, inside⟩, rfl⟩
    simp [records_leadOf, Option.map_eq_some_iff, Fin.val_inj, and_comm]
  · have none : g.records.leadOf a = none := by
      simp [RawImage.leadOf, records_feeds, allFeeds, inside]
    constructor
    · intro some; rw [none] at some; cases some
    · rintro ⟨f, l, rfl, -⟩; exact absurd f.isLt inside

/-! #### Test 2: the handle numbers -/

theorem handlesDistinct_iff : g.handlesDistinct = true ↔ (g.records.profiles.map fun p => p.handle.number).Nodup := by
  have numbers : (g.records.profiles.map fun p => p.handle.number) =
      (g.profiles.map fun p => p.handle.ix).map handleNumber := by
    rw [records_profiles, List.map_map, List.map_map]
    rfl
  have injective : Function.Injective handleNumber := fun a b same => Fin.ext (Nat.succ.inj same)
  rw [numbers, List.nodup_map_iff injective, handlesDistinct, decide_eq_true_iff]

/-! #### Tests 3 and 4: references and actions -/

theorem holds_iff {b : Handle} : g.holds b = true ↔ ∃ p ∈ g.records.profiles, p.handle = b.raw := by
  simp [holds, records_profiles, SavedProfile.raw, ProfileRecord.saved, Handle.raw_injective.eq_iff]

theorem optAll_holds_iff {o : Option Handle} : optAll g.holds o = true ↔
    ∀ b, o.map Handle.raw = some b → ∃ p ∈ g.records.profiles, p.handle = b := by
  cases o with
  | none => simp [optAll]
  | some b => simp [optAll, holds_iff]

theorem referencesHeld_iff : g.referencesHeld = true ↔
    (∀ f ∈ g.records.feeds, ∀ b, f.binding = some b ∨ f.overrideBinding = some b →
      ∃ p ∈ g.records.profiles, p.handle = b) ∧
    ∀ p ∈ g.records.profiles, ∀ b, p.base = some b → ∃ q ∈ g.records.profiles, q.handle = b := by
  rw [forall_records_feeds, forall_records_profiles]
  simp only [referencesHeld, Bool.and_eq_true, List.all_eq_true, optAll_holds_iff, allFeeds, List.mem_finRange,
    true_imp_iff, or_imp, forall_and]
  rfl

theorem actionsMatch_iff : g.actionsMatch = true ↔
    ∀ f ∈ g.records.feeds, f.overrideAction = 2 ↔ f.overrideBinding.isSome = true := by
  have switch (a : OverrideAction) : a.code = 2 ↔ a = .switch := by cases a <;> simp [OverrideAction.code]
  rw [forall_records_feeds]
  simp only [actionsMatch, List.all_eq_true, allFeeds, List.mem_finRange, true_imp_iff, SavedFeed.raw, switch,
    Option.isSome_map]
  refine forall_congr' fun f => ?_
  rw [beq_iff_eq, Bool.eq_iff_iff, decide_eq_true_iff]

/-! #### Test 5: chains -/

/-- A chain of the image is short when no five links follow one another. -/
theorem chainsShort_iff_links : g.chainsShort = true ↔ ∀ a b c d e, g.leadOf a = some b → g.leadOf b = some c →
    g.leadOf c = some d → g.leadOf d = some e → g.leadOf e = none := by
  have five (a : FeedNo) : (chainAbove g.leadOf 5 a).length ≤ 4 ↔ ∀ b, g.leadOf a = some b → ∀ c, g.leadOf b = some c →
      ∀ d, g.leadOf c = some d → ∀ e, g.leadOf d = some e → g.leadOf e = none := by
    rw [← not_iff_not, not_le, Nat.lt_iff_add_one_le]
    simp only [succ_le_length_chainAbove, Nat.zero_le, and_true, not_forall, exists_prop, ← Ne.eq_def,
      Option.ne_none_iff_exists']
  simp only [chainsShort, List.all_eq_true, allFeeds, List.mem_finRange, true_imp_iff, decide_eq_true_eq]
  refine (forall_congr' five).trans ?_
  exact ⟨fun all a b c d e ab bc cd de => all a b ab c bc d cd e de,
    fun all a b ab c bc d cd e de => all a b c d e ab bc cd de⟩

theorem chainsShort_iff : g.chainsShort = true ↔ ∀ a b c d e, g.records.leadOf a = some b → g.records.leadOf b = some c →
    g.records.leadOf c = some d → g.records.leadOf d = some e → g.records.leadOf e = none := by
  rw [chainsShort_iff_links]
  constructor
  · have link {f : FeedNo} {m : Nat} (lead : g.records.leadOf f = some m) :
        ∃ l : FeedNo, l.val = m ∧ g.leadOf f = some l := by
      obtain ⟨f', l, same, value, lead⟩ := records_leadOf_eq_some.mp lead
      exact ⟨l, value, Fin.ext same ▸ lead⟩
    intro short _ _ _ _ _ first second third fourth
    obtain ⟨a, b, rfl, rfl, ab⟩ := records_leadOf_eq_some.mp first
    obtain ⟨c, rfl, bc⟩ := link second
    obtain ⟨d, rfl, cd⟩ := link third
    obtain ⟨e, rfl, de⟩ := link fourth
    rw [records_leadOf, short a b c d e ab bc cd de, Option.map_none]
  · intro short a b c d e ab bc cd de
    have link {f l : FeedNo} (lead : g.leadOf f = some l) : g.records.leadOf f = some l :=
      records_leadOf_eq_some.mpr ⟨f, l, rfl, rfl, lead⟩
    have last := short a b c d e (link ab) (link bc) (link cd) (link de)
    rwa [records_leadOf, Option.map_eq_none_iff] at last

/-! #### Tests 6 and 7: bases -/

theorem optAll_base (held : g.referencesHeld = true) {p : SavedProfile} (saved : p ∈ g.profiles) :
    optAll g.holds p.record.base = true :=
  List.all_eq_true.mp (Bool.and_eq_true_iff.mp held).2 p saved

theorem optAll_bindings (held : g.referencesHeld = true) (f : FeedNo) :
    optAll g.holds (g.feeds.get f).binding = true ∧ optAll g.holds (g.feeds.get f).overrideBinding = true :=
  Bool.and_eq_true_iff.mp (List.all_eq_true.mp (Bool.and_eq_true_iff.mp held).1 f (List.mem_finRange f))

/-- A reference to a handle that the image holds names a profile of it where it names its number. -/
theorem namesHandle_iff_raw (distinct : g.handlesDistinct = true) {p : SavedProfile} (saved : p ∈ g.profiles)
    {o : Option Handle} (held : optAll g.holds o = true) :
    namesHandle p.handle.ix o = true ↔ o.map Handle.raw = some p.handle.raw := by
  rw [namesHandle_iff, Handle.map_raw_eq_some]
  constructor
  · rintro ⟨b, rfl, ix⟩
    obtain ⟨q, hq, rfl⟩ := mem_of_holds held
    rw [eq_of_ix distinct hq saved ix]
  · rintro rfl
    exact ⟨_, rfl, rfl⟩

section

variable (distinct : g.handlesDistinct = true) (held : g.referencesHeld = true)

include distinct held

theorem baseOf_eq_some_iff {p q : SavedProfile} (saved : p ∈ g.profiles) :
    g.baseOf p = some q ↔ q ∈ g.profiles ∧ p.raw.base = some q.raw.handle := by
  have found (b : Handle) : g.profileAt b.ix = some q ↔ q ∈ g.profiles ∧ q.handle.ix = b.ix :=
    find_eq_some_iff distinct fun _ hq => hq
  rw [baseOf, Option.bind_eq_some_iff]
  simp only [found]
  constructor
  · rintro ⟨b, base, hq, ix⟩
    exact ⟨hq, (namesHandle_iff_raw distinct hq (optAll_base held saved)).mp (namesHandle_iff.mpr ⟨b, base, ix.symm⟩)⟩
  · rintro ⟨hq, base⟩
    exact ⟨q.handle, Handle.map_raw_eq_some.mp base, hq, rfl⟩

theorem basesPlain_iff : g.basesPlain = true ↔
    ∀ p ∈ g.records.profiles, ∀ q ∈ g.records.profiles, p.base = some q.handle → q.base = none := by
  have plain (o : Option SavedProfile) : optAll (fun b => b.record.base.isNone) o = true ↔
      ∀ q, o = some q → q.raw.base = none := by
    cases o <;> simp [optAll, SavedProfile.raw, ProfileRecord.saved]
  simp only [forall_records_profiles, basesPlain, List.all_eq_true, plain]
  refine forall₂_congr fun p saved => ?_
  simp only [baseOf_eq_some_iff distinct held saved, and_imp]

theorem sectionsFit_iff (own : ∀ p ∈ g.records.profiles, p.sections.length ≤ 12) : g.sectionsFit = true ↔
    ∀ p ∈ g.records.profiles, ∀ q ∈ g.records.profiles, p.base = some q.handle →
      p.sections.length + q.sections.length ≤ 16 := by
  have length (p : SavedProfile) : p.raw.sections.length = p.record.sections.length := List.length_map _
  simp only [forall_records_profiles, length] at own ⊢
  simp only [sectionsFit, List.all_eq_true, decide_eq_true_eq]
  refine forall₂_congr fun p saved => ?_
  have base (q : SavedProfile) := baseOf_eq_some_iff distinct held (q := q) saved
  constructor
  · intro fits q hq named
    rwa [(base q).mpr ⟨hq, named⟩] at fits
  · intro fits
    cases named : g.baseOf p with
    | none => exact Nat.le_trans (own p saved) (by decide)
    | some q =>
      obtain ⟨hq, named⟩ := (base q).mp named
      exact fits q hq named

/-! #### Test 8: the profiles that survive fit the pool -/

/-- A profile is named in the records as its references are counted. -/
theorem records_names {ps : List SavedProfile} (part : ∀ p ∈ ps, p ∈ g.profiles) {p : SavedProfile}
    (saved : p ∈ g.profiles) :
    g.records.names (ps.map SavedProfile.raw) p.raw.handle = true ↔ 0 < g.countIn ps p.handle.ix := by
  have feeds (f : FeedNo) := optAll_bindings held f
  have bindings (f : FeedNo) := namesHandle_iff_raw distinct saved (feeds f).1
  have overrides (f : FeedNo) := namesHandle_iff_raw distinct saved (feeds f).2
  have bases : (∃ q ∈ ps, namesHandle p.handle.ix q.record.base = true) ↔
      ∃ q ∈ ps, q.record.base.map Handle.raw = some p.handle.raw :=
    exists_congr fun q => and_congr_right fun hq => namesHandle_iff_raw distinct saved (optAll_base held (part q hq))
  rw [countIn_pos_iff, bases]
  simp only [bindings, overrides, RawImage.names, records_feeds, Bool.or_eq_true, List.any_map, List.any_eq_true,
    Function.comp_apply, decide_eq_true_eq, allFeeds, List.mem_finRange, true_and]
  rfl

theorem records_kept {ps : List SavedProfile} (part : ∀ p ∈ ps, p ∈ g.profiles) :
    g.records.kept (ps.map SavedProfile.raw) = (ps.filter (g.staysAmong ps)).map SavedProfile.raw := by
  rw [RawImage.kept, List.filter_map]
  refine congrArg _ (List.filter_congr fun p hp => ?_)
  have live : p.raw.state = 1 ↔ p.retiring = false := by
    cases retiring : p.retiring <;> simp [SavedProfile.raw, ProfileRecord.saved, retiring, HandleState.code]
  rw [Function.comp_apply, staysAmong, Bool.eq_iff_iff]
  simp only [Bool.or_eq_true, decide_eq_true_eq, Bool.not_eq_true', live, records_names distinct held part (part p hp)]

theorem fitsPool_iff : g.fitsPool = true ↔
    ((g.records.kept (g.records.kept g.records.profiles)).map fun p => 4 + 2 * p.sections.length).sum ≤ 4096 := by
  have survivors : g.records.kept (g.records.kept g.records.profiles) = g.survivors.map SavedProfile.raw := by
    rw [records_profiles, records_kept distinct held fun _ hp => hp,
      records_kept distinct held fun _ hp => (List.mem_filter.mp hp).1]
    rfl
  have words (p : SavedProfile) : 4 + 2 * p.raw.sections.length = p.words := by
    rw [show p.raw.sections.length = p.record.sections.length from List.length_map _]
    rfl
  rw [survivors, List.map_map, fitsPool, decide_eq_true_iff, ← funext words]
  rfl

end

end Image

/-! #### The tests together (R168) -/

/-- The records of an image in its ranges pass R168 exactly where the image passes the tests of its tables. -/
theorem Image.consistent_iff {g : Image} (inside : RecordsInRange g.records) :
    g.consistent = true ↔ g.records.Valid := by
  have own : ∀ p ∈ g.records.profiles, p.sections.length ≤ 12 := fun p hp => (inside.profiles p hp).ownCount
  simp only [Image.consistent, Bool.and_eq_true, and_assoc]
  constructor
  · rintro ⟨distinct, held, actions, chains, plain, composed, fits⟩
    obtain ⟨bindings, bases⟩ := Image.referencesHeld_iff.mp held
    exact
      { counts := ⟨inside.feeds.1, inside.sectors.1, inside.channels.1, inside.policy.1⟩
        feeds := inside.feeds.2
        profiles := inside.profiles
        sectors := inside.sectors.2
        channels := inside.channels.2
        settings := ⟨inside.policy.2, inside.crossStand, inside.noticeMask⟩
        numbers := Image.handlesDistinct_iff.mp distinct
        bindings
        bases
        actions := Image.actionsMatch_iff.mp actions
        chains := Image.chainsShort_iff.mp chains
        plainBases := (Image.basesPlain_iff distinct held).mp plain
        composed := (Image.sectionsFit_iff distinct held own).mp composed
        fits := (Image.fitsPool_iff distinct held).mp fits }
  · intro valid
    have distinct := Image.handlesDistinct_iff.mpr valid.numbers
    have held := Image.referencesHeld_iff.mpr ⟨valid.bindings, valid.bases⟩
    exact ⟨distinct, held, Image.actionsMatch_iff.mpr valid.actions, Image.chainsShort_iff.mpr valid.chains,
      (Image.basesPlain_iff distinct held).mpr valid.plainBases,
      (Image.sectionsFit_iff distinct held own).mpr valid.composed, (Image.fitsPool_iff distinct held).mpr valid.fits⟩

theorem recordsInRange_of_valid {r : RawImage} (valid : r.Valid) : RecordsInRange r := by
  obtain ⟨feeds, sectors, channels, policy⟩ := valid.counts
  obtain ⟨outcomes, crossStand, noticeMask⟩ := valid.settings
  exact ⟨⟨feeds, valid.feeds⟩, valid.profiles, ⟨sectors, valid.sectors⟩, ⟨channels, valid.channels⟩, ⟨policy, outcomes⟩,
    crossStand, noticeMask⟩

/-! #### The validation of what the flash holds (R168) -/

theorem crcMatches_iff {format : Nat} {records : RawImage} {crc : ImageCrc} : crcMatches format records crc = true ↔
    ∀ w, crc = .word w → w = crc32 (Config.imageBytes format records) := by
  cases crc <;> simp [crcMatches]

theorem validate_image_eq_some {format : Nat} {records : RawImage} {crc : ImageCrc} {g : Image} :
    validate (.image format records crc) = some g ↔
      (format = 1 ∧ crcMatches format records crc = true) ∧ readRecords records = some g ∧ g.consistent = true := by
  have read (h : Image) : whenTrue h.consistent h = some g ↔ h = g ∧ g.consistent = true := by
    rw [whenTrue_eq_some_iff]
    exact ⟨fun ⟨passed, same⟩ => ⟨same, same ▸ passed⟩, fun ⟨same, passed⟩ => ⟨same ▸ passed, same⟩⟩
  simp only [validate, Bool.and_eq_true, decide_eq_true_eq]
  split
  · next first =>
    refine Iff.trans ?_ (and_iff_right first).symm
    cases readRecords records with
    | none => simp
    | some h => rw [Option.some_inj]; exact read h
  · next fails => exact ⟨nofun, fun ⟨first, _⟩ => absurd first fails⟩

theorem validate_image_isSome {format : Nat} {records : RawImage} {crc : ImageCrc} :
    (validate (.image format records crc)).isSome = true ↔
      format = 1 ∧ (∀ w, crc = .word w → w = crc32 (Config.imageBytes format records)) ∧ records.Valid := by
  have read : (∃ g, readRecords records = some g ∧ g.consistent = true) ↔ records.Valid := by
    constructor
    · rintro ⟨g, read, consistent⟩
      obtain ⟨rfl, inside⟩ := ReadsBack.records.sound read
      exact (Image.consistent_iff inside).mp consistent
    · intro valid
      obtain ⟨g, read⟩ := ReadsBack.records.readable (recordsInRange_of_valid valid)
      obtain ⟨rfl, inside⟩ := ReadsBack.records.sound read
      exact ⟨g, read, (Image.consistent_iff inside).mpr valid⟩
  simp only [Option.isSome_iff_exists, validate_image_eq_some, exists_and_left, read, crcMatches_iff, and_assoc]

end Sys2Proof.Machine
end

section
/-! ### LOAD and the ends of a load (R142, R165, R167, R168, R171) -/

namespace Sys2Proof.Machine

variable {s : State} {g : Image} {tag : Byte}

/-! #### LOAD (R167) -/

theorem exec_load_answer (ready : s.ready) {u : State} {a : Answer} (run : s.released.requestLoad = (u, a)) :
    exec (.load ⟨tag, some ()⟩) s = .next (u.answered tag a.status a.body) :=
  congrArg Host.Outcome.next <| serveNow_answer (r := ⟨tag, some ()⟩) (formed := anyItems)
    (run := fun _ s => s.requestLoad) ready rfl rfl run

theorem exec_load_busy (ready : s.ready) (busy : s.pool.compaction ≠ .idle ∨ s.longOperation.isSome = true) :
    exec (.load ⟨tag, some ()⟩) s = .next (s.released.answered tag .busy []) := by
  have refused : (s.released.pool.compaction ≠ .idle || s.released.transferring) = true := by
    rw [Bool.or_eq_true, decide_eq_true_eq]
    exact busy
  exact exec_load_answer ready (if_pos refused)

section

variable (ready : s.ready) (compaction : s.pool.compaction = .idle) (free : s.longOperation = none)

include ready compaction free

theorem exec_load_tested {u : State} {a : Answer} (run : (if s.released.locked then (s.released, refusal .locked)
    else ({ s.released with image := .loading .reading }, ⟨.started, []⟩)) = (u, a)) :
    exec (.load ⟨tag, some ()⟩) s = .next (u.answered tag a.status a.body) := by
  have idle : ¬ (s.released.pool.compaction ≠ .idle || s.released.transferring) = true := by
    have none : s.released.transferring = false := congrArg Option.isSome free
    have still : s.released.pool.compaction = .idle := compaction
    simp [none, still]
  exact exec_load_answer ready ((if_neg idle).trans run)

theorem exec_load_locked (locked : s.locked = true) :
    exec (.load ⟨tag, some ()⟩) s = .next (s.released.answered tag .locked []) :=
  exec_load_tested ready compaction free (if_pos locked)

theorem exec_load_taken (clear : s.locked = false) : exec (.load ⟨tag, some ()⟩) s = .next
    { s with image := .loading .reading, port := s.portAnswered tag .started [] } :=
  exec_load_tested ready compaction free (if_neg (Bool.eq_false_iff.mp clear))

end

/-! #### The end of the reading (R167, R168; log 33) -/

theorem exec_loadReadComplete_invalid (reading : s.image = .loading .reading) {answer : FlashAnswer}
    (refused : s.finishRead answer = s.rejectImage) : exec (.loadReadComplete answer) s = .next
      { s with image := .idle, notices := (s.notices.raise .imageInvalid).raise (.loadDone .invalid) } := by
  rw [exec_loadReadComplete_reading reading, refused]
  rfl

theorem exec_loadReadComplete_held (reading : s.image = .loading .reading) (valid : validate s.flash = some g)
    (locked : s.locked = true) :
    exec (.loadReadComplete .held) s = .next { s with image := .loading (.held g) } := by
  rw [exec_loadReadComplete_reading reading, State.finishRead_held, valid, locked]
  rfl

/-- What is exchanged in the flash during the reading is read as if it had been held. -/
theorem exec_loadReadComplete_exchanged (reading : s.image = .loading .reading) (flash : FlashContents) :
    exec (.loadReadComplete (.exchanged flash)) s = exec (.loadReadComplete .held) { s with flash := flash } := by
  have same : ({ s with flash := flash } : State).image = .loading .reading := reading
  rw [exec_loadReadComplete_reading reading, exec_loadReadComplete_reading same]
  rfl

/-! #### The replacement that follows (R142, R169) -/

theorem Notices.raise_loadDone (n : Notices) (o : LoadOutcome) : (n.raise (.loadDone o)).loadDone.isSome = true := by
  show (keepFirst n.loadDone o).isSome = true
  cases n.loadDone <;> rfl

/-- STARTUP_WAIT_EXPIRY begins a load, whatever count of blocks was waited (R171; log 30). -/
theorem exec_startupWaitExpiry_waiting {n : Nat} (waiting : s.image = .waiting n) :
    exec .startupWaitExpiry s = .next { s with image := .loading .reading } := by
  show execStartupWaitExpiry s = _
  rw [execStartupWaitExpiry, waiting]

/-- Settles O51: the tests of an image are those of its records, and each end of the load follows from what is read and
from the override's lock. -/
theorem loadRuns : Obligations.LoadRuns := by
  unfold Obligations.LoadRuns
  refine ⟨⟨rfl, fun _ => rfl⟩, fun format records crc => ⟨validate_image_isSome, fun g valid => ?_⟩,
    fun s tag ready => ⟨exec_load_busy ready, fun compaction free =>
      ⟨exec_load_locked ready compaction free, exec_load_taken ready compaction free⟩⟩,
    fun s reading => ⟨exec_loadReadComplete_invalid reading rfl, fun invalid => ?_, fun g valid =>
      exec_loadReadComplete_held reading valid⟩,
    fun s flash reading => exec_loadReadComplete_exchanged reading flash, fun s g held locked => ?_,
    fun s g held clear => ⟨s.replaceTables g, ?_, ?_, ?_, ?_, ?_, ?_, fun f => ?_, ?_, s.replaceTables_render g, ?_⟩,
    fun s n waiting => exec_startupWaitExpiry_waiting waiting⟩
  · obtain ⟨-, read, consistent⟩ := validate_image_eq_some.mp valid
    exact ⟨(ReadsBack.records.sound read).1, consistent⟩
  · exact exec_loadReadComplete_invalid reading (by rw [State.finishRead_held, invalid])
  · rw [exec_heldLoadReplacement_held held, locked]
    rfl
  · exact exec_replaces clear (.inr ⟨rfl, held⟩)
  · rw [State.replaceTables_eq]
  · rw [State.replaceTables_notices]
    exact Notices.raise_loadDone _ _
  · rw [State.replaceTables_eq]
  · rw [State.replaceTables_eq]
  · rw [State.replaceTables_eq]
  · rw [State.feed_replaceTables]
    rfl
  · rw [State.replaceTables_eq]
  · rw [State.replaceTables_eq]
    exact ⟨rfl, rfl, rfl, rfl, rfl, rfl, rfl⟩

end Sys2Proof.Machine
end

section
/-! ### The step on the queue of commands (spec 00_scope.md, "Time"; log 1, 2) -/

namespace Sys2Proof.Machine

variable {c : Instr} {rest : List Instr} {s : State}

/-- A command that waits at the front leaves the queue and is carried out on the rest. -/
theorem step_of_pending_cons (front : s.pending = c :: rest) : step s = exec c { s with pending := rest } := by
  rw [step, front]

/-- With no command waiting the block idles: the model's own choice (log 2). -/
theorem step_of_pending_nil (idle : s.pending = []) : step s = .next s := by
  rw [step, idle]

/-- Settles O1: one equation of the step for each form of the queue. A command put in front of a queue and taken from it
again leaves the state that was there before. -/
theorem stepRunsFront : Obligations.StepRunsFront := by
  unfold Obligations.StepRunsFront
  refine ⟨fun c s => ?_, fun s idle => step_of_pending_nil idle⟩
  have restored : { { s with pending := c :: s.pending } with pending := s.pending } = s := rfl
  calc step { s with pending := c :: s.pending }
      = exec c { { s with pending := c :: s.pending } with pending := s.pending } := step_of_pending_cons rfl
    _ = exec c s := by rw [restored]

end Sys2Proof.Machine
end
